-- ==== Sys2Proof/Word.lean ====
section
/-! DEFINITION. The word types that the manual counts in bits: bytes of the local port and the room link,
and the 16-bit quantities sent in two of them (6.6, Chapter 12). -/

namespace Sys2Proof

/-- A byte as the local port and the room link carry it. -/
abbrev Byte := BitVec 8

/-- A 16-bit quantity as received or as sent, least significant byte first (6.6). -/
abbrev Word16 := BitVec 16

end Sys2Proof
end

