-- ==== Sys2Proof/Config.lean ====
section
/-! DEFINITION. The free values: what the spec leaves open of a value that the part nevertheless produces.
Each is a constant with no body, applied to the model's own counter `State.freeCount`, so that every use is a
fresh value of which nothing is known (assumption log entries 1 and 2). -/

namespace Sys2Proof

/-- The quotient of R42 when the mean of the pulse periods, in whole microseconds, is 0: the spec states no
result for it. The reading is still capped at 6000 rpm, as R42 caps every quotient. -/
opaque Config.freeSpeed : Nat → Nat

/-- Which stored filter record "the record being written" of R128 is when a master reset cuts a filter save off:
true for the supply record, false for the extract record. The spec gives no moment at which the save passes from
the one to the other. -/
opaque Config.freeCut : Nat → Bool

end Sys2Proof
end

