-- ==== Sys2Proof/Syntax.lean ====
section
/-! DEFINITION. The commands of the part: one constructor of `Instr` for each row of spec/opcode_table.json, with
the operands that the row's event carries from outside (a reading, a pin level, a source and its parameters, a
byte on the wire). -/

namespace Sys2Proof

/-- Fans and filters are named by role (6.4). -/
inductive Side where
  | supply
  | extract
deriving DecidableEq, Repr

/-- The two fan ports (3.1). -/
inductive FanPort where
  | a
  | b
deriving DecidableEq, Repr

/-- The two pull-cord inputs PC_K and PC_B (1.6). -/
inductive Cord where
  | kitchen
  | bathroom
deriving DecidableEq, Repr

/-- The two ends of the bypass damper's travel, each with an end switch (4.9). -/
inductive DamperEnd where
  | opened
  | closed
deriving DecidableEq, Repr

/-- The six master sources (2.1). `station n` is STATION(n+1), at room link address n+1. -/
inductive Master where
  | tool
  | unit
  | station (n : Fin 4)
deriving DecidableEq, Repr

/-- The levels of straps A, B and C as the pins stand when a master reset reads them (11.1). -/
structure Straps where
  a : Fin 4
  b : Fin 4
  c : Fin 4
deriving DecidableEq, Repr

/-- The parameters of a demand kind as received (7.1): a level index, a flow, a duration, each absent or not. -/
structure DemandParams where
  level : Option Byte
  flow : Option Word16
  duration : Option Word16
deriving DecidableEq, Repr

/-- The commands, one for each row of the table, in the table's order. -/
inductive Instr where
  /-- POWER (R184): the supply rises; the strap pins stand at `straps`. -/
  | power (straps : Straps)
  /-- SUPPLY_DIP (R184). -/
  | supplyDip (straps : Straps)
  /-- PIN_MASTER (R184): RESET asserted with KEEP low. -/
  | pinMaster (straps : Straps)
  /-- PIN_RUNNING (R186): RESET asserted with KEEP high. -/
  | pinRunning
  /-- MASTER_RESET_END (R185). -/
  | masterResetEnd
  /-- SETTINGS_LOAD_COMPLETE (R191). -/
  | settingsLoadComplete
  /-- CHANNEL_SAMPLE (R1): channel `ch` takes `reading` from the sensor front end. -/
  | channelSample (ch : Fin 8) (reading : Int)
  /-- INJECT (R11), as a request from `src` with the parameters as received. -/
  | inject (src : Master) (channel mode : Option Byte)
  /-- PULLCORD_PIN_CHANGE (R12): the pin of `cord` goes to the level `high`. -/
  | pullcordPinChange (cord : Cord) (high : Bool)
  /-- DEBOUNCE_EXPIRY (R12). -/
  | debounceExpiry (cord : Cord)
  /-- LONG_HOLD (R15). -/
  | longHold (cord : Cord)
  /-- BASE (R22). -/
  | base (src : Master) (p : DemandParams)
  /-- BOOST (R22). -/
  | boost (src : Master) (p : DemandParams)
  /-- AWAY (R22). -/
  | away (src : Master) (p : DemandParams)
  /-- PURGE (R20). -/
  | purge (src : Master) (p : DemandParams)
  /-- QUIET (R22). -/
  | quiet (src : Master) (p : DemandParams)
  /-- SHUTDOWN (R24). -/
  | shutdown (src : Master) (p : DemandParams)
  /-- WITHDRAW (R25), with the named kind's code as received. -/
  | withdraw (src : Master) (kind : Option Byte)
  /-- DEMAND_EXPIRY (R27). -/
  | demandExpiry
  /-- TACHO_PULSE (R42): a pulse on the tacho input of `port`, `micros` microseconds after the latest control step. -/
  | tachoPulse (port : FanPort) (micros : Nat)
  /-- CONTROL_STEP (R45). -/
  | controlStep
  /-- HOLDOFF_EXPIRY (R51). -/
  | holdoffExpiry (fan : Side)
  /-- START_TIME_EXPIRY (R50). -/
  | startTimeExpiry (fan : Side)
  /-- RETRY_WAIT_EXPIRY (R54). -/
  | retryWaitExpiry (fan : Side)
  /-- CLEAR_LOCKOUT_FAN (R56), with the target's code as received. -/
  | clearLockoutFan (src : Master) (target : Option Byte)
  /-- FROST_EVALUATION (R69). -/
  | frostEvaluation
  /-- PREHEAT_WINDOW_START (R88). -/
  | preheatWindowStart
  /-- PREHEAT_ON_TIME_END (R88). -/
  | preheatOnTimeEnd
  /-- DAMPER_TIMER_EXPIRY (R92). -/
  | damperTimerExpiry
  /-- END_SWITCH_MADE (R92): the end switch input `sw` goes to the level `made`. The row is the case `made = true`;
  the release of a switch has no row and is carried here (log entry 7). -/
  | endSwitchMade (sw : DamperEnd) (made : Bool)
  /-- CLEAR_LOCKOUT_BYPASS (R95). -/
  | clearLockoutBypass (src : Master)
  /-- HUMIDITY_EVALUATION (R99). -/
  | humidityEvaluation
  /-- FILTER_ACCUMULATION (R114). -/
  | filterAccumulation
  /-- FILTER_ASSESSMENT (R116). -/
  | filterAssessment
  /-- FILTER_BEGIN (R123), with the filter id as received. -/
  | filterBegin (src : Master) (id : Option Byte)
  /-- FILTER_DONE (R124). -/
  | filterDone (src : Master) (id : Option Byte)
  /-- FILTER_ABANDON (R125). -/
  | filterAbandon (src : Master) (id : Option Byte)
  /-- CHANGE_DEADLINE_EXPIRY (R125). -/
  | changeDeadlineExpiry (side : Side)
  /-- FILTER_SAVE_START (R128). -/
  | filterSaveStart
  /-- FILTER_SAVE_COMPLETE (R128). -/
  | filterSaveComplete
  /-- SET_SEASON (R144), with the season's code as received. -/
  | setSeason (src : Master) (season : Option Byte)
  /-- SEASON_TIMER (R143). -/
  | seasonTimer
  /-- UNKNOWN_REQUEST (R133): a request whose kind code is `code`. -/
  | unknownRequest (src : Master) (code : Byte)
  /-- POLL_ROUND_START (R148). -/
  | pollRoundStart
  /-- POLL_START (R150). -/
  | pollStart
  /-- CALL_SENT (R150). -/
  | callSent
  /-- REPLY_WINDOW_END (R151). -/
  | replyWindowEnd
  /-- BAD_REPLY_END (R151): a reply broken or malformed, cases 2 and 3 of R151. -/
  | badReplyEnd
  /-- IDLE_REPLY (R152); `address` is the frame's address byte. -/
  | idleReply (address : Byte)
  /-- ASK_REPLY (R153). -/
  | askReply (address : Byte) (payload : List Byte)
  /-- TELL_REPLY (R154). -/
  | tellReply (address : Byte) (temperature humidity : Word16) (flags : Byte)
  /-- HEAT_REPLY (R155). -/
  | heatReply (address : Byte) (call : Byte)
  /-- SLOT_TIMER (R158). -/
  | slotTimer
  /-- ADDRESS_BYTE (R165): the byte after a START or a repeated START. -/
  | addressByte (b : Byte)
  /-- TRANSACTION_END (R170): a STOP, or a repeated START to another target. -/
  | transactionEnd
  /-- OFFSET_WRITE (R167). -/
  | offsetWrite (b : Byte)
  /-- REGISTER_WRITE (R168). -/
  | registerWrite (b : Byte)
  /-- STATUS_PAGE_SELECT_WRITE (R169). -/
  | statusPageSelectWrite (b : Byte)
  /-- STATUS_AREA_READ (R169). -/
  | statusAreaRead
  /-- DIGEST_MIRROR_READ (R169). -/
  | digestMirrorRead
  /-- EVENT_WORD_READ (R176). -/
  | eventWordRead
  /-- MASK_WRITE (R177). -/
  | maskWrite (b : Byte)
  /-- SUSPEND (R177): an IRQ control write. -/
  | suspend (b : Byte)
  /-- ACK_ALL (R176): an IRQ control write with the ACK_ALL bit set. -/
  | ackAll (b : Byte)
  /-- GO (R170). -/
  | go (b : Byte)
  /-- TABLE_SELECT_WRITE (R172). -/
  | tableSelectWrite (b : Byte)
  /-- TABLE_POINTER_WRITE (R172). -/
  | tablePointerWrite (b : Byte)
  /-- TABLE_DATA_READ (R173). -/
  | tableDataRead
  /-- RUNNING_RESET_REQUEST (R174). -/
  | runningResetRequest (b : Byte)
  /-- HOUR_MARK (R180). -/
  | hourMark
  /-- CLEAR_COUNTERS (R181). -/
  | clearCounters (src : Master)
  /-- WRITE_SETTING (R187), with the id and the value as received. -/
  | writeSetting (src : Master) (id value : Option Word16)
  /-- STORE_SETTINGS (R189). -/
  | storeSettings (src : Master)
  /-- STORE_START (R189). -/
  | storeStart
  /-- STORE_DONE (R189). -/
  | storeDone
  /-- STORE_FAILED (R189). -/
  | storeFailed
  /-- RESET_RELEASE (R165). -/
  | resetRelease
  /-- REGISTER_READ (R167). -/
  | registerRead
deriving DecidableEq, Repr

end Sys2Proof
end

