-- ==== Sys2Proof/Machine/Settings.lean ====
section
/-! DEFINITION. The commissioning record (11.3): every setting with its factory default, its id (12.5), its own
range, the cross-field limits of R188 and the settings carried along; the permission flags of R134. -/

namespace Sys2Proof.Machine

/-! ## Request kinds and classes -/

/-- The sixteen request kinds, in the order of the table of R134. -/
inductive RequestKind where
  | base
  | boost
  | away
  | purge
  | quiet
  | shutdown
  | withdraw
  | filterBegin
  | filterDone
  | filterAbandon
  | setSeason
  | clearLockout
  | inject
  | writeSetting
  | storeSettings
  | clearCounters
deriving DecidableEq, Repr

/-- The three classes, in the order of the columns of R134 and of the setting ids (12.5). -/
inductive PrivilegeClass where
  | occupant
  | installer
  | unit
deriving DecidableEq, Repr

/-- The kinds counted from BASE = 0 to CLEAR_COUNTERS = 15 (12.5). -/
def RequestKind.index : RequestKind → Fin 16
  | .base => 0
  | .boost => 1
  | .away => 2
  | .purge => 3
  | .quiet => 4
  | .shutdown => 5
  | .withdraw => 6
  | .filterBegin => 7
  | .filterDone => 8
  | .filterAbandon => 9
  | .setSeason => 10
  | .clearLockout => 11
  | .inject => 12
  | .writeSetting => 13
  | .storeSettings => 14
  | .clearCounters => 15

/-- The kinds in the order of `RequestKind.index`. -/
def RequestKind.all : List RequestKind :=
  [.base, .boost, .away, .purge, .quiet, .shutdown, .withdraw, .filterBegin, .filterDone, .filterAbandon,
   .setSeason, .clearLockout, .inject, .writeSetting, .storeSettings, .clearCounters]

/-- The request kind codes (12.3). -/
def RequestKind.code : RequestKind → Byte
  | .base => 0x01
  | .boost => 0x02
  | .away => 0x03
  | .purge => 0x04
  | .quiet => 0x05
  | .shutdown => 0x06
  | .withdraw => 0x07
  | .filterBegin => 0x10
  | .filterDone => 0x11
  | .filterAbandon => 0x12
  | .setSeason => 0x18
  | .clearLockout => 0x20
  | .inject => 0x21
  | .writeSetting => 0x30
  | .storeSettings => 0x31
  | .clearCounters => 0x32

/-- The kind that a code names; any other code is unknown (12.3, R133). -/
def RequestKind.ofCode (c : Byte) : Option RequestKind :=
  RequestKind.all.find? fun k => k.code == c

/-- The classes counted as in the setting ids: 0 OCCUPANT, 1 INSTALLER, 2 UNIT (12.5). -/
def PrivilegeClass.index : PrivilegeClass → Fin 3
  | .occupant => 0
  | .installer => 1
  | .unit => 2

/-- The class of a source (R131). -/
def classOf : Master → PrivilegeClass
  | .tool => .installer
  | .unit => .unit
  | .station _ => .occupant

/-! ## The record -/

/-- One fan's curve: eight flows and eight speeds (3.7.1). -/
structure Curve where
  flows : Vector Nat 8
  speeds : Vector Nat 8
deriving DecidableEq, Repr

/-- The factory curve of both fans (3.7.1). -/
def Curve.factory : Curve where
  flows := #v[40, 80, 120, 160, 200, 240, 280, 320]
  speeds := #v[900, 1400, 1850, 2300, 2700, 3100, 3450, 3800]

/-- The commissioning record (11.3). Units are those of 6.1; temperatures are in tenths of a degree. -/
structure Settings where
  kFail : Nat
  pullcordDuration : Nat
  qmin : Nat
  qmax : Nat
  levels : Vector Nat 5
  defaultBaseLevel : Fin 5
  derateLoaded : Nat
  derateBlocked : Nat
  balance : Nat
  defrostExtract : Nat
  unbalancedCeiling : Nat
  rampRate : Nat
  holdoffTime : Nat
  provingSpeed : Nat
  qref : Nat
  compGain : Nat
  kp : Nat
  ki : Nat
  frostBaseLimit : Int
  frostEnable : Int
  kFrost : Nat
  frostStep : Nat
  minFraction : Nat
  defrostTime : Nat
  exitMargin : Nat
  comfort : Nat
  bypassTravel : Nat
  riseThreshold : Nat
  highLimit : Nat
  lowLimit : Nat
  assessMinFlow : Nat
  absentThreshold : Nat
  loadedPct : Nat
  blockedPct : Nat
  volumeLimit : Nat
  hoursLimit : Nat
  seasonObserve : Bool
  heatAddress : Nat
  counterSnapshot : Bool
  /-- Bit n is set when address n is listed; bit 0 is always 0 (12.5). -/
  pollList : BitVec 16
  supplyCurve : Curve
  extractCurve : Curve
  /-- The allow flag of kind k for class c stands at 3k + c. -/
  permissions : Vector Bool 48
deriving DecidableEq, Repr

/-- The factory permission flags, with the fixed flags at their fixed values: OCCUPANT, INSTALLER, UNIT in each row
(R134). -/
def factoryPermissions : Vector Bool 48 :=
  #v[true, true, true,
     true, true, true,
     true, true, true,
     true, true, true,
     true, true, true,
     false, true, true,
     true, true, true,
     true, true, true,
     true, true, true,
     true, true, true,
     true, true, true,
     false, true, true,
     false, true, false,
     false, true, true,
     false, true, true,
     false, true, true]

/-- The factory defaults (11.3). -/
def Settings.factory : Settings where
  kFail := 4
  pullcordDuration := 1200
  qmin := 60
  qmax := 240
  levels := #v[70, 90, 120, 170, 200]
  defaultBaseLevel := 2
  derateLoaded := 85
  derateBlocked := 70
  balance := 970
  defrostExtract := 120
  unbalancedCeiling := 80
  rampRate := 5
  holdoffTime := 15
  provingSpeed := 600
  qref := 150
  compGain := 20
  kp := 256
  ki := 128
  frostBaseLimit := 10
  frostEnable := 30
  kFrost := 3
  frostStep := 100
  minFraction := 400
  defrostTime := 600
  exitMargin := 30
  comfort := 220
  bypassTravel := 90
  riseThreshold := 80
  highLimit := 700
  lowLimit := 300
  assessMinFlow := 80
  absentThreshold := 5
  loadedPct := 200
  blockedPct := 300
  volumeLimit := 650
  hoursLimit := 4380
  seasonObserve := true
  heatAddress := 14
  counterSnapshot := false
  pollList := 0xC01E
  supplyCurve := Curve.factory
  extractCurve := Curve.factory
  permissions := factoryPermissions

/-- The fan's own curve. -/
def Settings.curve (set : Settings) : Side → Curve
  | .supply => set.supplyCurve
  | .extract => set.extractCurve

/-- The record with one fan's curve replaced. -/
def Settings.withCurve (set : Settings) (side : Side) (c : Curve) : Settings :=
  match side with
  | .supply => { set with supplyCurve := c }
  | .extract => { set with extractCurve := c }

/-- The flow that the level table gives for a level (2.6). -/
def Settings.levelFlow (set : Settings) (i : Fin 5) : Nat := set.levels[i]

/-! ## Permissions -/

/-- The fixed flags of R134 and their values. -/
def fixedFlag : RequestKind → PrivilegeClass → Option Bool
  | .inject, .occupant => some false
  | .inject, .unit => some false
  | .writeSetting, .occupant => some false
  | .writeSetting, .installer => some true
  | .storeSettings, .occupant => some false
  | .storeSettings, .installer => some true
  | _, _ => none

/-- Where a flag stands in the permission table. -/
def permissionIndex (k : RequestKind) (c : PrivilegeClass) : Fin 48 :=
  ⟨3 * k.index.val + c.index.val, by have := k.index.isLt; have := c.index.isLt; omega⟩

/-- The allow flag in force: a fixed flag holds its value whatever the commissioning record says (R134). -/
def Settings.allows (set : Settings) (k : RequestKind) (c : PrivilegeClass) : Bool :=
  (fixedFlag k c).getD set.permissions[permissionIndex k c]

/-! ## Setting ids -/

/-- The settings, each by name (11.3). -/
inductive SettingId where
  | kFail
  | pullcordDuration
  | qmin
  | qmax
  | level (i : Fin 5)
  | defaultBaseLevel
  | derateLoaded
  | derateBlocked
  | balance
  | defrostExtract
  | unbalancedCeiling
  | rampRate
  | holdoffTime
  | provingSpeed
  | qref
  | compGain
  | kp
  | ki
  | frostBaseLimit
  | frostEnable
  | kFrost
  | frostStep
  | minFraction
  | defrostTime
  | exitMargin
  | comfort
  | bypassTravel
  | riseThreshold
  | highLimit
  | lowLimit
  | assessMinFlow
  | absentThreshold
  | loadedPct
  | blockedPct
  | volumeLimit
  | hoursLimit
  | seasonObserve
  | heatAddress
  | counterSnapshot
  | pollList
  | curveFlow (side : Side) (i : Fin 8)
  | curveSpeed (side : Side) (i : Fin 8)
  | permission (k : RequestKind) (c : PrivilegeClass)
deriving DecidableEq, Repr

/-- The settings of ids 0x01 to 0x2C, in order (12.5). -/
def scalarIds : List SettingId :=
  [.kFail, .pullcordDuration, .qmin, .qmax, .level 0, .level 1, .level 2, .level 3, .level 4, .defaultBaseLevel,
   .derateLoaded, .derateBlocked, .balance, .defrostExtract, .unbalancedCeiling, .rampRate, .holdoffTime,
   .provingSpeed, .qref, .compGain, .kp, .ki, .frostBaseLimit, .frostEnable, .kFrost, .frostStep, .minFraction,
   .defrostTime, .exitMargin, .comfort, .bypassTravel, .riseThreshold, .highLimit, .lowLimit, .assessMinFlow,
   .absentThreshold, .loadedPct, .blockedPct, .volumeLimit, .hoursLimit, .seasonObserve, .heatAddress,
   .counterSnapshot, .pollList]

/-- The classes in the order of `PrivilegeClass.index`. -/
def PrivilegeClass.all : List PrivilegeClass := [.occupant, .installer, .unit]

/-- Every setting with its id, in ascending id order (12.5). -/
def settingTable : List (Nat × SettingId) :=
  (scalarIds.zipIdx 1).map (fun p => (p.2, p.1)) ++
  (List.finRange 8).map (fun i => (0x40 + i.val, SettingId.curveFlow .supply i)) ++
  (List.finRange 8).map (fun i => (0x48 + i.val, SettingId.curveSpeed .supply i)) ++
  (List.finRange 8).map (fun i => (0x50 + i.val, SettingId.curveFlow .extract i)) ++
  (List.finRange 8).map (fun i => (0x58 + i.val, SettingId.curveSpeed .extract i)) ++
  RequestKind.all.flatMap fun k =>
    PrivilegeClass.all.map fun c => (0x80 + 4 * k.index.val + c.index.val, SettingId.permission k c)

/-- The setting that an id names; any other id names none (12.5, R187). -/
def SettingId.ofId (n : Nat) : Option SettingId :=
  (settingTable.find? fun p => p.1 == n).map Prod.snd

/-! ## Reading and writing one setting -/

/-- On/off and allow flags are 1 and 0 (R187). -/
def flagValue (b : Bool) : Int := if b then 1 else 0

/-- The value that a setting holds, as WRITE_SETTING and the table window carry it: a signed 16-bit number, the
poll list's being its bits so read (12.5). -/
def Settings.get (set : Settings) : SettingId → Int
  | .kFail => set.kFail
  | .pullcordDuration => set.pullcordDuration
  | .qmin => set.qmin
  | .qmax => set.qmax
  | .level i => set.levels[i]
  | .defaultBaseLevel => set.defaultBaseLevel.val
  | .derateLoaded => set.derateLoaded
  | .derateBlocked => set.derateBlocked
  | .balance => set.balance
  | .defrostExtract => set.defrostExtract
  | .unbalancedCeiling => set.unbalancedCeiling
  | .rampRate => set.rampRate
  | .holdoffTime => set.holdoffTime
  | .provingSpeed => set.provingSpeed
  | .qref => set.qref
  | .compGain => set.compGain
  | .kp => set.kp
  | .ki => set.ki
  | .frostBaseLimit => set.frostBaseLimit
  | .frostEnable => set.frostEnable
  | .kFrost => set.kFrost
  | .frostStep => set.frostStep
  | .minFraction => set.minFraction
  | .defrostTime => set.defrostTime
  | .exitMargin => set.exitMargin
  | .comfort => set.comfort
  | .bypassTravel => set.bypassTravel
  | .riseThreshold => set.riseThreshold
  | .highLimit => set.highLimit
  | .lowLimit => set.lowLimit
  | .assessMinFlow => set.assessMinFlow
  | .absentThreshold => set.absentThreshold
  | .loadedPct => set.loadedPct
  | .blockedPct => set.blockedPct
  | .volumeLimit => set.volumeLimit
  | .hoursLimit => set.hoursLimit
  | .seasonObserve => flagValue set.seasonObserve
  | .heatAddress => set.heatAddress
  | .counterSnapshot => flagValue set.counterSnapshot
  | .pollList => set.pollList.toInt
  | .curveFlow side i => (set.curve side).flows[i]
  | .curveSpeed side i => (set.curve side).speeds[i]
  | .permission k c => flagValue (set.allows k c)

/-- The record with one setting replaced by a value that its range admits. -/
def Settings.put (set : Settings) (id : SettingId) (v : Int) : Settings :=
  match id with
  | .kFail => { set with kFail := v.toNat }
  | .pullcordDuration => { set with pullcordDuration := v.toNat }
  | .qmin => { set with qmin := v.toNat }
  | .qmax => { set with qmax := v.toNat }
  | .level i => { set with levels := set.levels.set i.val v.toNat i.isLt }
  | .defaultBaseLevel => { set with defaultBaseLevel := ⟨min v.toNat 4, by omega⟩ }
  | .derateLoaded => { set with derateLoaded := v.toNat }
  | .derateBlocked => { set with derateBlocked := v.toNat }
  | .balance => { set with balance := v.toNat }
  | .defrostExtract => { set with defrostExtract := v.toNat }
  | .unbalancedCeiling => { set with unbalancedCeiling := v.toNat }
  | .rampRate => { set with rampRate := v.toNat }
  | .holdoffTime => { set with holdoffTime := v.toNat }
  | .provingSpeed => { set with provingSpeed := v.toNat }
  | .qref => { set with qref := v.toNat }
  | .compGain => { set with compGain := v.toNat }
  | .kp => { set with kp := v.toNat }
  | .ki => { set with ki := v.toNat }
  | .frostBaseLimit => { set with frostBaseLimit := v }
  | .frostEnable => { set with frostEnable := v }
  | .kFrost => { set with kFrost := v.toNat }
  | .frostStep => { set with frostStep := v.toNat }
  | .minFraction => { set with minFraction := v.toNat }
  | .defrostTime => { set with defrostTime := v.toNat }
  | .exitMargin => { set with exitMargin := v.toNat }
  | .comfort => { set with comfort := v.toNat }
  | .bypassTravel => { set with bypassTravel := v.toNat }
  | .riseThreshold => { set with riseThreshold := v.toNat }
  | .highLimit => { set with highLimit := v.toNat }
  | .lowLimit => { set with lowLimit := v.toNat }
  | .assessMinFlow => { set with assessMinFlow := v.toNat }
  | .absentThreshold => { set with absentThreshold := v.toNat }
  | .loadedPct => { set with loadedPct := v.toNat }
  | .blockedPct => { set with blockedPct := v.toNat }
  | .volumeLimit => { set with volumeLimit := v.toNat }
  | .hoursLimit => { set with hoursLimit := v.toNat }
  | .seasonObserve => { set with seasonObserve := v != 0 }
  | .heatAddress => { set with heatAddress := v.toNat }
  | .counterSnapshot => { set with counterSnapshot := v != 0 }
  | .pollList => { set with pollList := BitVec.ofInt 16 v &&& 0xFFFE }
  | .curveFlow side i =>
    set.withCurve side { set.curve side with flows := (set.curve side).flows.set i.val v.toNat i.isLt }
  | .curveSpeed side i =>
    set.withCurve side { set.curve side with speeds := (set.curve side).speeds.set i.val v.toNat i.isLt }
  | .permission k c =>
    { set with permissions := set.permissions.set (permissionIndex k c).val (v != 0) (permissionIndex k c).isLt }

/-! ## Ranges, cross-field limits, settings carried along -/

/-- The setting's own range (11.3). A level, defrost_extract and unbalanced_ceiling have the range Qmin to Qmax; a
fixed flag's range is its fixed value (R135); every set of addresses is in range. -/
def Settings.range (set : Settings) : SettingId → Int × Int
  | .kFail => (3, 6)
  | .pullcordDuration => (60, 3600)
  | .qmin => (20, 200)
  | .qmax => (40, 400)
  | .level _ => (set.qmin, set.qmax)
  | .defaultBaseLevel => (0, 4)
  | .derateLoaded => (50, 100)
  | .derateBlocked => (50, 100)
  | .balance => (900, 1000)
  | .defrostExtract => (set.qmin, set.qmax)
  | .unbalancedCeiling => (set.qmin, set.qmax)
  | .rampRate => (1, 50)
  | .holdoffTime => (5, 60)
  | .provingSpeed => (300, 2000)
  | .qref => (60, 400)
  | .compGain => (0, 255)
  | .kp => (0, 1023)
  | .ki => (0, 1023)
  | .frostBaseLimit => (-50, 50)
  | .frostEnable => (-100, 100)
  | .kFrost => (2, 6)
  | .frostStep => (50, 250)
  | .minFraction => (300, 900)
  | .defrostTime => (120, 1800)
  | .exitMargin => (10, 100)
  | .comfort => (180, 260)
  | .bypassTravel => (30, 180)
  | .riseThreshold => (30, 200)
  | .highLimit => (500, 950)
  | .lowLimit => (150, 450)
  | .assessMinFlow => (40, 200)
  | .absentThreshold => (1, 20)
  | .loadedPct => (150, 400)
  | .blockedPct => (200, 600)
  | .volumeLimit => (100, 2000)
  | .hoursLimit => (500, 8760)
  | .seasonObserve => (0, 1)
  | .heatAddress => (5, 14)
  | .counterSnapshot => (0, 1)
  | .pollList => (-32768, 32767)
  | .curveFlow _ _ => (0, 400)
  | .curveSpeed _ _ => (0, 6000)
  | .permission k c =>
    match fixedFlag k c with
    | some b => (flagValue b, flagValue b)
    | none => (0, 1)

/-- The least and greatest value between the neighbours of point `i` of a strictly increasing column (R188). -/
def betweenNeighbours (v : Vector Nat 8) (top : Nat) (i : Fin 8) : Int × Int :=
  (if h : 0 < i.val then ((v[i.val - 1] : Nat) : Int) + 1 else 0,
   if h : i.val + 1 < 8 then ((v[i.val + 1] : Nat) : Int) - 1 else top)

/-- The cross-field limits applied to the written value (R188). -/
def Settings.crossLimits (set : Settings) : SettingId → Int × Int
  | .qmin => (20, (set.qmax / 2 : Nat))
  | .qmax => ((2 * set.qmin : Nat), 400)
  | .derateBlocked => (50, set.derateLoaded)
  | .derateLoaded => (set.derateBlocked, 100)
  | .blockedPct => ((set.loadedPct + 1 : Nat), 600)
  | .loadedPct => (150, (set.blockedPct : Int) - 1)
  | .curveFlow side i => betweenNeighbours (set.curve side).flows 400 i
  | .curveSpeed side i => betweenNeighbours (set.curve side).speeds 6000 i
  | id => set.range id

/-- A value brought into a range. -/
def clampTo (r : Int × Int) (v : Int) : Int := max r.1 (min v r.2)

/-- A flow brought between two flows. -/
def clampFlow (lo hi v : Nat) : Nat := max lo (min v hi)

/-- The settings carried along with a written Qmin or Qmax: each level, defrost_extract and unbalanced_ceiling is
brought within the new range (R188). -/
def Settings.carryFlows (set : Settings) : Settings :=
  { set with
    levels := set.levels.map (clampFlow set.qmin set.qmax)
    defrostExtract := clampFlow set.qmin set.qmax set.defrostExtract
    unbalancedCeiling := clampFlow set.qmin set.qmax set.unbalancedCeiling }

/-- The value as the setting counts it before any clamp: bit 0 of a poll list is disregarded (12.5; DEDUCED, log
entry 31). -/
def normalValue (id : SettingId) (v : Int) : Int :=
  match id with
  | .pollList => (BitVec.ofInt 16 v &&& 0xFFFE).toInt
  | _ => v

/-- The value that a write leaves in the setting: clamped to its own range, then to the cross-field limits
(R187 step 3). -/
def Settings.clampValue (set : Settings) (id : SettingId) (v : Int) : Int :=
  clampTo (set.crossLimits id) (clampTo (set.range id) v)

/-- The record after a write of an already clamped value, with the settings carried along (R188). -/
def Settings.write (set : Settings) (id : SettingId) (v : Int) : Settings :=
  match id with
  | .qmin => (set.put .qmin v).carryFlows
  | .qmax => (set.put .qmax v).carryFlows
  | _ => set.put id v

/-- Whether address `n` is in the poll list (8.2). -/
def Settings.listed (set : Settings) (n : Nat) : Bool := set.pollList.getLsbD n

end Sys2Proof.Machine
end

