-- ==== Sys2Proof/Machine/Records.lean ====
section
/-! DEFINITION. The record that each block owns, with its values after a master reset: the tables of Chapters 1 to
11 as plain data. -/

namespace Sys2Proof.Machine

/-! ## Measurement channels (Chapter 1) -/

/-- A channel's validity verdict (1.3.1). -/
inductive ChannelState where
  | valid
  | suspect
  | failed
deriving DecidableEq, Repr

/-- Fault injection in force (1.4). -/
inductive InjectMode where
  | none
  | single
  | hold
deriving DecidableEq, Repr

/-- A channel record (1.2). A mark in the window is `true`: out of range. Lists run oldest first. -/
structure Channel where
  raw : Int
  window : List Bool
  history : List Int
  filtered : Int
  state : ChannelState
  injection : InjectMode
  settling : Nat
deriving DecidableEq, Repr

/-- A channel record after a master reset (R3). -/
def Channel.initial : Channel where
  raw := 0
  window := []
  history := []
  filtered := 0
  state := .valid
  injection := .none
  settling := 0

/-- A pull-cord input (1.6), with its pin level and whether its 16 ms debounce timer runs. -/
structure CordRecord where
  pinHigh : Bool
  debouncing : Bool
  pressed : Bool
  armed : Bool
  pressTime : Nat
  holdTaken : Bool
deriving DecidableEq, Repr

/-- A pull-cord input after a master reset (R12); the pin stands as the switch holds it. -/
def CordRecord.initial (pinHigh : Bool) : CordRecord where
  pinHigh := pinHigh
  debouncing := false
  pressed := false
  armed := false
  pressTime := 0
  holdTaken := false

/-- The channels in the order of their ids (1.1), the measurement-ready indication (R6) and the two cords. -/
structure Measurement where
  channels : Vector Channel 8
  ready : Bool
  kitchen : CordRecord
  bathroom : CordRecord
deriving DecidableEq, Repr

/-- The channel ids of 1.1. -/
abbrev chOda : Fin 8 := 0
/-- T_SUP. -/
abbrev chSup : Fin 8 := 1
/-- T_ETA. -/
abbrev chEta : Fin 8 := 2
/-- T_EHA. -/
abbrev chEha : Fin 8 := 3
/-- RH_ETA. -/
abbrev chRh : Fin 8 := 4
/-- DP_SF. -/
abbrev chDpSf : Fin 8 := 5
/-- DP_EF. -/
abbrev chDpEf : Fin 8 := 6
/-- DP_CORE. -/
abbrev chDpCore : Fin 8 := 7

/-- The pressure channel of a side's filter: DP_SF or DP_EF (6.1). -/
def filterChannel : Side → Fin 8
  | .supply => chDpSf
  | .extract => chDpEf

/-! ## The demand arbiter (Chapter 2) -/

/-- The demand kinds (2.1). -/
inductive DemandKind where
  | base
  | boost
  | away
  | purge
  | quiet
  | shutdown
deriving DecidableEq, Repr

/-- The nine sources (2.1). -/
inductive Source where
  | master (m : Master)
  | cord (c : Cord)
  | humidity
deriving DecidableEq, Repr

/-- An entry of the demand table (2.2). -/
structure Entry where
  source : Source
  kind : DemandKind
  flow : Nat
  remaining : Option Nat
  seq : Word16
deriving DecidableEq, Repr

/-- The demand table: the general part, oldest first, the three reserved slots and the sequence counter (2.3, 2.4,
R21). -/
structure DemandTable where
  general : List Entry
  pcK : Option Entry
  pcB : Option Entry
  humidity : Option Entry
  seq : Word16
deriving DecidableEq, Repr

/-- The reasons, in the order of their codes (12.3). -/
inductive Reason where
  | filterChange
  | shutdown
  | purge
  | boost
  | quiet
  | ceiling
  | away
  | base
  | default
deriving DecidableEq, Repr

/-- The flow plan record (2.9). -/
structure FlowPlan where
  target : Nat
  reason : Reason
  baseSource : Option Master
  ceiling : Nat
deriving DecidableEq, Repr

/-- The demand arbiter: its table, the plan, and the ceiling contribution of each filter (R33). -/
structure Arbiter where
  table : DemandTable
  plan : FlowPlan
  supplyCeiling : Nat
  extractCeiling : Nat
deriving DecidableEq, Repr

/-- The demand table after a master reset (R31). -/
def DemandTable.initial : DemandTable where
  general := []
  pcK := none
  pcB := none
  humidity := none
  seq := 0

/-- The demand arbiter between a master reset and the first plan. The spec gives the plan record and the
contributions no value there: DESIGN CHOICE, all 0 with reason DEFAULT (log entry 4). -/
def Arbiter.initial : Arbiter where
  table := DemandTable.initial
  plan := { target := 0, reason := .default, baseSource := none, ceiling := 0 }
  supplyCeiling := 0
  extractCeiling := 0

/-! ## The airflow engine (Chapter 3) -/

/-- The fan states (3.5), in the order of their codes. -/
inductive FanState where
  | stopped
  | holdoff
  | starting
  | running
  | stalled
  | lockedOut
deriving DecidableEq, Repr

/-- What is noted of a fan's tacho pulses (R42). Times are in microseconds from the latest control step, so a pulse
before it stands below 0; the periods are those that ended since that step. -/
structure Tacho where
  latest : Option Int
  periodSum : Nat
  periodCount : Nat
deriving DecidableEq, Repr

/-- A fan record (3.2) with its tacho's notes. -/
structure FanRecord where
  state : FanState
  duty : Nat
  measured : Nat
  qc : Nat
  qr : Nat
  speedTarget : Nat
  ePrev : Int
  remainder : Int
  wait : Option Nat
  startTime : Option Nat
  retries : Nat
  runningTime : Nat
  curveLimit : Bool
  saturation : Nat
  flowLimited : Bool
  tacho : Tacho
deriving DecidableEq, Repr

/-- A fan record after a master reset (3.2, R43). -/
def FanRecord.initial : FanRecord where
  state := .stopped
  duty := 0
  measured := 0
  qc := 0
  qr := 0
  speedTarget := 0
  ePrev := 0
  remainder := 0
  wait := none
  startTime := none
  retries := 0
  runningTime := 0
  curveLimit := false
  saturation := 0
  flowLimited := false
  tacho := { latest := none, periodSum := 0, periodCount := 0 }

/-- The airflow engine: both fan records and the duty driven on each fan port (R41, R65). -/
structure Airflow where
  supply : FanRecord
  extract : FanRecord
  dutyA : Nat
  dutyB : Nat
deriving DecidableEq, Repr

/-- The airflow engine after a master reset (R43). -/
def Airflow.initial : Airflow where
  supply := FanRecord.initial
  extract := FanRecord.initial
  dutyA := 0
  dutyB := 0

/-- The fan of a role. -/
def Airflow.fan (ae : Airflow) : Side → FanRecord
  | .supply => ae.supply
  | .extract => ae.extract

/-- The engine with the fan of a role replaced. -/
def Airflow.withFan (ae : Airflow) (side : Side) (f : FanRecord) : Airflow :=
  match side with
  | .supply => { ae with supply := f }
  | .extract => { ae with extract := f }

/-! ## The frost guard (Chapter 4) -/

/-- The frost states (4.4), in the order of their codes. -/
inductive FrostState where
  | inactive
  | watch
  | protect
  | defrost
  | recover
  | frostHold
  | fallback
deriving DecidableEq, Repr

/-- Why a defrost runs (4.1). -/
inductive DefrostOrigin where
  | normal
  | fallback
deriving DecidableEq, Repr

/-- DP_CORE and the extract flow recorded at a WATCH entry (R72). -/
structure CoreReference where
  pressure : Int
  flow : Nat
deriving DecidableEq, Repr

/-- The frost record (4.1). A marked entry of the window is `true`. -/
structure FrostRecord where
  state : FrostState
  origin : Option DefrostOrigin
  fraction : Nat
  proportion : Nat
  limit : Int
  window : List Bool
  coreRef : Option CoreReference
  defrostElapsed : Option Nat
  holdElapsed : Option Nat
  holdEntryOda : Option Int
  fallbackCycle : Option Nat
  history : List Nat
  paused : Bool
  wantedOpen : Bool
deriving DecidableEq, Repr

/-- The frost record after a master reset (4.1, R67): T_lim is taken from the frost_base_limit given. -/
def FrostRecord.initial (frostBaseLimit : Int) : FrostRecord where
  state := .inactive
  origin := none
  fraction := 1000
  proportion := 0
  limit := frostBaseLimit + 20
  window := []
  coreRef := none
  defrostElapsed := none
  holdElapsed := none
  holdEntryOda := none
  fallbackCycle := none
  history := []
  paused := true
  wantedOpen := false

/-- The pre-heater's 60 s window and output (R88): whether a window runs, its on-time in seconds, and the PREHEAT
pin. -/
structure Preheat where
  windowRunning : Bool
  onTime : Nat
  output : Bool
deriving DecidableEq, Repr

/-- The pre-heater after a master reset (R67): output off, no window. -/
def Preheat.initial : Preheat where
  windowRunning := false
  onTime := 0
  output := false

/-- The damper states (4.9), in the order of their codes. -/
inductive DamperState where
  | closed
  | opening
  | opened
  | closing
  | fault
deriving DecidableEq, Repr

/-- The motor drive (4.9): which of BYP_OPEN and BYP_CLOSE is driven. -/
inductive MotorDrive where
  | off
  | opening
  | closing
deriving DecidableEq, Repr

/-- The damper record (4.9) and the two end switch inputs. -/
structure Damper where
  state : DamperState
  position : Nat
  allowance : Option Nat
  elapsed : Option Nat
  drive : MotorDrive
  openMade : Bool
  closedMade : Bool
deriving DecidableEq, Repr

/-- The damper record between a master reset and the load (R90); the position estimate is given no value there:
DESIGN CHOICE 0 (log entry 4). The switch inputs stand as the damper holds them. -/
def Damper.initial (openMade closedMade : Bool) : Damper where
  state := .closed
  position := 0
  allowance := none
  elapsed := none
  drive := .off
  openMade := openMade
  closedMade := closedMade

/-! ## The humidity manager (Chapter 5) -/

/-- What the manager has posted in its slot (5.1). -/
inductive SlotView where
  | none
  | boost
  | away
deriving DecidableEq, Repr

/-- A station's acceptance record (5.1); `humid` is the accepted state HUMID. -/
structure Acceptance where
  reports : List Nat
  humid : Bool
deriving DecidableEq, Repr

/-- An acceptance record after a master reset (R97). -/
def Acceptance.initial : Acceptance where
  reports := []
  humid := false

/-- The humidity record and the four acceptance records (5.1). -/
structure Humidity where
  dewPoint : Option Int
  rise : List Int
  view : SlotView
  boostElapsed : Option Nat
  startMinimum : Option Int
  dryCount : Nat
  stations : Vector Acceptance 4
deriving DecidableEq, Repr

/-- The humidity manager after a master reset (R97). -/
def Humidity.initial : Humidity where
  dewPoint := none
  rise := []
  view := .none
  boostElapsed := none
  startMinimum := none
  dryCount := 0
  stations := Vector.replicate 4 Acceptance.initial

/-! ## The filter monitor (Chapter 6) -/

/-- The filter states (6.4), in the order of their codes. -/
inductive FilterState where
  | learning
  | clean
  | loading
  | loaded
  | blocked
  | absent
  | changing
deriving DecidableEq, Repr

/-- The result of the latest hourly assessment (6.1), in the order of the codes. -/
inductive Assessment where
  | none
  | assessed
  | notReady
  | lowFlow
  | unsteady
  | channel
  | changing
deriving DecidableEq, Repr

/-- The fields of a filter record that a stored filter record holds (6.7, 12.5). -/
structure FilterCore where
  state : FilterState
  saved : Option FilterState
  dpClean : Option Nat
  volume : Nat
  accumulator : Nat
  runSeconds : Nat
  runHours : Nat
  loadedMarks : Nat
  blockedMarks : Nat
deriving DecidableEq, Repr

/-- A filter record (6.1). -/
structure FilterRecord extends FilterCore where
  steadyFlow : Nat
  steadyCount : Nat
  lastAssessment : Assessment
  lastDpNorm : Option Nat
  owner : Option Master
  deadline : Option Nat
deriving DecidableEq, Repr

/-- What a stored record that fails its check loads as: LEARNING, nothing counted (R129). -/
def FilterCore.blank : FilterCore where
  state := .learning
  saved := none
  dpClean := none
  volume := 0
  accumulator := 0
  runSeconds := 0
  runHours := 0
  loadedMarks := 0
  blockedMarks := 0

/-- A filter record taken from the load (R113). -/
def FilterRecord.loaded (core : FilterCore) : FilterRecord where
  toFilterCore := core
  steadyFlow := 0
  steadyCount := 0
  lastAssessment := .none
  lastDpNorm := none
  owner := none
  deadline := none

/-- The filter monitor: both filter records (6.1). -/
structure Filters where
  supply : FilterRecord
  extract : FilterRecord
deriving DecidableEq, Repr

/-- The filter records between a master reset and the load: DESIGN CHOICE, as a load without stored records would
leave them (log entry 4). -/
def Filters.initial : Filters where
  supply := FilterRecord.loaded FilterCore.blank
  extract := FilterRecord.loaded FilterCore.blank

/-- The filter of a side. -/
def Filters.filter (fm : Filters) : Side → FilterRecord
  | .supply => fm.supply
  | .extract => fm.extract

/-- The filter monitor with one record replaced. -/
def Filters.withFilter (fm : Filters) (side : Side) (f : FilterRecord) : Filters :=
  match side with
  | .supply => { fm with supply := f }
  | .extract => { fm with extract := f }

/-! ## The season (Chapter 7) -/

/-- The season in force (7.5). -/
inductive SeasonMode where
  | winter
  | summer
deriving DecidableEq, Repr

/-- What last changed the mode (7.5). -/
inductive LastSetBy where
  | none
  | heatCall
  | noCall
  | master (m : Master)
deriving DecidableEq, Repr

/-- The season record (7.5). -/
structure SeasonRecord where
  mode : SeasonMode
  observing : Bool
  heatCallAge : Nat
  lastSetBy : LastSetBy
deriving DecidableEq, Repr

/-- The season record after a master reset (R140): observation in force follows the season_observe given. -/
def SeasonRecord.initial (seasonObserve : Bool) : SeasonRecord where
  mode := .winter
  observing := seasonObserve
  heatCallAge := 0
  lastSetBy := .none

/-! ## The room link (Chapter 8) -/

/-- The outcome codes of 7.3 without NONE, in the order of their codes from 1 (12.3). -/
inductive RequestOutcome where
  | done
  | doneClamped
  | doneNothing
  | refusedPermission
  | refusedUnknown
  | tableFull
  | owned
  | busy
  | notApplicable
deriving DecidableEq, Repr

/-- An outcome with the kind code it answered (R138). -/
structure Answer where
  outcome : RequestOutcome
  kindCode : Byte
deriving DecidableEq, Repr

/-- The presence of a partner (8.6), in the order of the codes. -/
inductive SlotState where
  | unknown
  | present
  | missing
  | lost
deriving DecidableEq, Repr

/-- The contents of the last TELL (R154): the temperature is absent when its flag says so. -/
structure TellContents where
  temperature : Option Word16
  humidity : Word16
  flags : Byte
deriving DecidableEq, Repr

/-- A station slot (8.6). A miss in the window is `true`. -/
structure Slot where
  state : SlotState
  window : List Bool
  goodRun : Nat
  timeMissing : Option Nat
  lastOutcome : Option Answer
  tell : Option TellContents
deriving DecidableEq, Repr

/-- A slot after a master reset (R158). -/
def Slot.initial : Slot where
  state := .unknown
  window := []
  goodRun := 0
  timeMissing := none
  lastOutcome := none
  tell := none

/-- Where the poll in progress stands (8.3): the CALL to an address is being sent, or its reply window is open.
Slot i is that of address i + 1. -/
inductive PollStage where
  | idle
  | calling (slot : Fin 15)
  | window (slot : Fin 15)
deriving DecidableEq, Repr

/-- The room link controller: the feed, the round counter, the addresses that the round has still to visit, the
poll in progress, whether the polled address has left the poll list (R149), the fifteen slots, the common part of
the current digest (R156) and the characters of the latest CALL. -/
structure RoomLink where
  feed : Bool
  roundCounter : Nat
  round : List (Fin 15)
  stage : PollStage
  lossDue : Bool
  slots : Vector Slot 15
  digest : List Byte
  callFrame : List Byte
deriving DecidableEq, Repr

/-- The room link controller after a master reset (R146, R158). No digest has been formed: DESIGN CHOICE, its ten
bytes are 0 and no CALL stands (log entry 4). -/
def RoomLink.initial : RoomLink where
  feed := false
  roundCounter := 0
  round := []
  stage := .idle
  lossDue := false
  slots := Vector.replicate 15 Slot.initial
  digest := List.replicate 10 0
  callFrame := []

/-! ## The local port (Chapter 9) -/

/-- Where a transaction with the part stands (R166, R167): none; the offset byte is awaited; data bytes are
written; data bytes are read. -/
inductive PortStage where
  | idle
  | awaitOffset
  | writing
  | reading
deriving DecidableEq, Repr

/-- The entry snapshot (R173): an index into the selected table and the copied bytes. -/
structure EntrySnapshot where
  index : Nat
  bytes : List Byte
deriving DecidableEq, Repr

/-- The local port (Chapter 9). `sent` is the byte last sent on SDA, `acked` whether the last address byte was
acknowledged. -/
structure LocalPort where
  stage : PortStage
  pointer : BitVec 6
  pageSelect : Byte
  tableSelect : Byte
  tablePointer : Word16
  pageSnapshot : Option (List Byte)
  mirrorSnapshot : Option (List Byte)
  entrySnapshot : Option EntrySnapshot
  requestKind : Byte
  params : Vector Byte 8
  pending : Bool
  resetRequested : Bool
  answer : Option Answer
  resultCount : Byte
  sent : Byte
  acked : Bool
deriving DecidableEq, Repr

/-- The local port after a reset of either kind (R167, R169, R170, R171, R172, R174). The byte last sent and the last
acknowledgement are given no value: DESIGN CHOICE 0 and no (log entry 4). -/
def LocalPort.initial : LocalPort where
  stage := .idle
  pointer := 0
  pageSelect := 0
  tableSelect := 0
  tablePointer := 0
  pageSnapshot := none
  mirrorSnapshot := none
  entrySnapshot := none
  requestKind := 0
  params := Vector.replicate 8 0
  pending := false
  resetRequested := false
  answer := none
  resultCount := 0
  sent := 0
  acked := false

/-! ## The event unit (Chapter 10) -/

/-- The four event words (10.1). -/
inductive EventWord where
  | fan
  | core
  | service
  | system
deriving DecidableEq, Repr

/-- One byte for each event word: the flags, or the masks (10.1, 10.3). -/
structure EventBytes where
  fan : Byte
  core : Byte
  service : Byte
  system : Byte
deriving DecidableEq, Repr

/-- The eight counters, in the order of the table of 10.4. -/
inductive Counter where
  | defrosts
  | supStalls
  | extStalls
  | linkFrameErrors
  | linkMisses
  | requestsRefused
  | filterChanges
  | channelFailures
deriving DecidableEq, Repr

/-- The event unit: flags, masks, SUSPEND, the IRQ pin (true: driven active), the live counters and their readable
copies (10.1 to 10.4). -/
structure EventUnit where
  flags : EventBytes
  masks : EventBytes
  suspended : Bool
  irq : Bool
  live : Vector Word16 8
  copies : Vector Word16 8
deriving DecidableEq, Repr

/-- The event unit after a master reset (R178, R182). -/
def EventUnit.initial : EventUnit where
  flags := { fan := 0, core := 0, service := 0, system := 0 }
  masks := { fan := 0xFF, core := 0xFF, service := 0xFF, system := 0xFF }
  suspended := false
  irq := false
  live := Vector.replicate 8 0
  copies := Vector.replicate 8 0

/-! ## The settings store (Chapter 11) -/

/-- The causes of a reset (11.2), in the order of their codes from 1. -/
inductive ResetCause where
  | power
  | supplyDip
  | pinMaster
  | pinRunning
  | portRunning
deriving DecidableEq, Repr

/-- The stored commissioning record (R189, R191): its contents, the CRC-16 stored with them, and the mark that the
settings store holds of the copy. -/
structure StoredSettings where
  contents : Settings
  crc : Word16
  valid : Bool
deriving DecidableEq, Repr

/-- A stored filter record (6.7): its contents, its CRC-16, and whether it was written whole. -/
structure StoredFilter where
  contents : FilterCore
  crc : Word16
  whole : Bool
deriving DecidableEq, Repr

/-- A STORE_SETTINGS: none in flight; accepted and waiting for a filter save to end; being written (R189). -/
inductive StoreStage where
  | idle
  | accepted
  | writing
deriving DecidableEq, Repr

/-- The settings store: the working record, the stored copy, the two stored filter records, the reset cause, the
store in flight, the filter save in flight with the records it writes, and whether a save waits. -/
structure SettingsStore where
  working : Settings
  stored : StoredSettings
  storedSupply : StoredFilter
  storedExtract : StoredFilter
  cause : ResetCause
  store : StoreStage
  saving : Option (StoredFilter × StoredFilter)
  saveWaiting : Bool
deriving DecidableEq, Repr

/-- A filter record never written, as in a new part (R129). -/
def StoredFilter.never : StoredFilter where
  contents := FilterCore.blank
  crc := 0
  whole := false

/-- The settings store of a new part after its first power-up: nothing has been stored (R129, R191). The working
record before the load is given no value: DESIGN CHOICE, the factory defaults (log entry 4). -/
def SettingsStore.initial : SettingsStore where
  working := Settings.factory
  stored := { contents := Settings.factory, crc := 0, valid := false }
  storedSupply := StoredFilter.never
  storedExtract := StoredFilter.never
  cause := .power
  store := .idle
  saving := none
  saveWaiting := false

end Sys2Proof.Machine
end

