-- ==== Sys2Proof/Machine/State.lean ====
section
/-! DEFINITION. The state of the part, the state after reset, and the ways a step can stop (there is none). -/

namespace Sys2Proof.Machine

/-- Where the part stands in a reset (R184, R191): held by a master reset's cause; the load of the stored records in
progress; running. -/
inductive Phase where
  | held
  | loading
  | running
deriving DecidableEq, Repr

/-- The whole state. `pending` is the queue of commands that wait, first in, first out; `freeCount` is the model's
own counter of the free values used (log entry 1). -/
structure State where
  phase : Phase
  /-- The RESET pin is asserted. -/
  resetPin : Bool
  /-- The strap levels latched at the latest master reset (R183). -/
  straps : Straps
  mc : Measurement
  da : Arbiter
  ae : Airflow
  fg : FrostRecord
  preheat : Preheat
  damper : Damper
  hm : Humidity
  fm : Filters
  season : SeasonRecord
  rl : RoomLink
  lp : LocalPort
  eu : EventUnit
  ss : SettingsStore
  freeCount : Nat
  pending : List Instr
deriving DecidableEq, Repr

/-- No step of this block ends in a fault: the spec gives every event an effect (INVENTORY.md, Faults). The type has
no constructor, so that a fault is impossible and not merely absent. -/
inductive Fault where
deriving DecidableEq, Repr

/-- Refusals. -/
inductive Refusal where
  /-- Raised by `exec` for a command that has no meaning yet; safe. No command of this model is left so. -/
  | notModelled (mnemonic : String)
deriving DecidableEq, Repr

/-- The part right after the POWER reset of a new part, before the reset's end (R184, R185): every block holds its
initial values. Pins and straps are inputs: DESIGN CHOICE, straps at level 0, cords released (high), end switches not
made, RESET released (log entries 3 and 4). -/
def State.reset : State where
  phase := .held
  resetPin := false
  straps := { a := 0, b := 0, c := 0 }
  mc :=
    { channels := Vector.replicate 8 Channel.initial
      ready := false
      kitchen := CordRecord.initial true
      bathroom := CordRecord.initial true }
  da := Arbiter.initial
  ae := Airflow.initial
  fg := FrostRecord.initial Settings.factory.frostBaseLimit
  preheat := Preheat.initial
  damper := Damper.initial false false
  hm := Humidity.initial
  fm := Filters.initial
  season := SeasonRecord.initial Settings.factory.seasonObserve
  rl := RoomLink.initial
  lp := LocalPort.initial
  eu := EventUnit.initial
  ss := SettingsStore.initial
  freeCount := 0
  pending := []

/-! ## One setter for each field -/

/-- Replaces the phase. -/
def State.setPhase (s : State) (x : Phase) : State := { s with phase := x }
/-- Replaces the RESET pin's level. -/
def State.setResetPin (s : State) (x : Bool) : State := { s with resetPin := x }
/-- Replaces the latched straps. -/
def State.setStraps (s : State) (x : Straps) : State := { s with straps := x }
/-- Replaces the measurement channels block. -/
def State.setMc (s : State) (x : Measurement) : State := { s with mc := x }
/-- Replaces the demand arbiter. -/
def State.setDa (s : State) (x : Arbiter) : State := { s with da := x }
/-- Replaces the airflow engine. -/
def State.setAe (s : State) (x : Airflow) : State := { s with ae := x }
/-- Replaces the frost record. -/
def State.setFg (s : State) (x : FrostRecord) : State := { s with fg := x }
/-- Replaces the pre-heater. -/
def State.setPreheat (s : State) (x : Preheat) : State := { s with preheat := x }
/-- Replaces the damper. -/
def State.setDamper (s : State) (x : Damper) : State := { s with damper := x }
/-- Replaces the humidity manager. -/
def State.setHm (s : State) (x : Humidity) : State := { s with hm := x }
/-- Replaces the filter records. -/
def State.setFm (s : State) (x : Filters) : State := { s with fm := x }
/-- Replaces the season record. -/
def State.setSeason (s : State) (x : SeasonRecord) : State := { s with season := x }
/-- Replaces the room link controller. -/
def State.setRl (s : State) (x : RoomLink) : State := { s with rl := x }
/-- Replaces the local port. -/
def State.setLp (s : State) (x : LocalPort) : State := { s with lp := x }
/-- Replaces the event unit. -/
def State.setEu (s : State) (x : EventUnit) : State := { s with eu := x }
/-- Replaces the settings store. -/
def State.setSs (s : State) (x : SettingsStore) : State := { s with ss := x }
/-- Replaces the free value counter. -/
def State.setFreeCount (s : State) (x : Nat) : State := { s with freeCount := x }
/-- Replaces the queue. -/
def State.setPending (s : State) (x : List Instr) : State := { s with pending := x }

end Sys2Proof.Machine
end

