-- ==== Sys2Proof/Machine/Ops.lean ====
section
/-! DEFINITION. The operations that the blocks share: the views of the state that every block reads, bounded
windows, bytes in the order the part sends them (6.6), the two CRCs (12.1, 12.5), and the outcome of a command. -/

namespace Sys2Proof.Machine

/-! ## Views -/

/-- The working commissioning record (Chapter 11). -/
def State.settings (s : State) : Settings := s.ss.working

/-- A channel record. -/
def State.channel (s : State) (ch : Fin 8) : Channel := s.mc.channels[ch]

/-- A channel is FAILED. -/
def State.channelFailed (s : State) (ch : Fin 8) : Bool := (s.channel ch).state == .failed

/-- A channel's filtered value. -/
def State.filtered (s : State) (ch : Fin 8) : Int := (s.channel ch).filtered

/-- Stand-alone strapping: strap C at level 2 or 3 (R183). -/
def State.standAlone (s : State) : Bool := decide (2 ≤ s.straps.c.val)

/-- A pre-heater is fitted: strap B at level 1 or 3 (R87). -/
def State.preheaterFitted (s : State) : Bool := s.straps.b.val % 2 == 1

/-- Right-handed: strap B at level 2 or 3 (3.1). -/
def State.rightHanded (s : State) : Bool := decide (2 ≤ s.straps.b.val)

/-- A bypass damper is fitted: strap C at level 1 or 3 (R90). -/
def State.damperFitted (s : State) : Bool := s.straps.c.val % 2 == 1

/-- The role that a fan port carries (R41, 3.1). -/
def State.roleOf (s : State) (port : FanPort) : Side :=
  match port, s.rightHanded with
  | .a, false => .supply
  | .a, true => .extract
  | .b, false => .extract
  | .b, true => .supply

/-- A filter is CHANGING. -/
def Filters.changing (fm : Filters) : Bool := fm.supply.state == .changing || fm.extract.state == .changing

/-! ## The outcome of a command -/

/-- Every command of the part ends in a next state. -/
def done (s : State) : Host.Outcome State Fault Refusal := .next s

/-- A master reset holds every block at its initial values from its cause until its end (R184): until then a
command of a block has no effect (log entry 6). -/
def State.unlessHeld (s : State) (f : State → State) : State :=
  match s.phase with
  | .held => s
  | _ => f s

/-- Once the load has completed (R191): requests and room link traffic reach the part only then (log
entry 6). -/
def State.whenRunning (s : State) (f : State → State) : State :=
  match s.phase with
  | .running => f s
  | _ => s

/-! ## Windows -/

/-- Appends at the newest end of a window of at most `n` entries; a full window drops its oldest entry first. -/
def pushWindow {α : Type} (n : Nat) (x : α) (l : List α) : List α :=
  (l ++ [x]).drop (l.length + 1 - n)

/-- The number of marked entries of a window. -/
def marks (l : List Bool) : Nat := l.count true

/-- No entry of the window is marked (4.1). -/
def isClear (l : List Bool) : Bool := marks l == 0

/-- The marks as bits: bit n is set when the nth oldest entry is marked (12.5). -/
def markBits : List Bool → Nat
  | [] => 0
  | m :: l => (if m then 1 else 0) + 2 * markBits l

/-! ## Elements of a vector by index -/

/-- The vector with one element replaced. -/
def setAt {α : Type} {n : Nat} (v : Vector α n) (i : Fin n) (x : α) : Vector α n := v.set i.val x i.isLt

/-! ## Bytes (6.6, R192) -/

/-- A one-byte field. -/
def byteOf (n : Nat) : Byte := BitVec.ofNat 8 n

/-- A Boolean as one bit at a place. -/
def bitAt (b : Bool) (place : Nat) : Nat := if b then 2 ^ place else 0

/-- The two bytes of a 16-bit quantity, least significant first (6.6). -/
def bytes16 (w : Word16) : List Byte := [w.setWidth 8, (w >>> 8).setWidth 8]

/-- An unsigned 16-bit field. -/
def field16 (n : Nat) : List Byte := bytes16 (BitVec.ofNat 16 n)

/-- A signed 16-bit field, two's complement (R192). -/
def signed16 (i : Int) : List Byte := bytes16 (BitVec.ofInt 16 i)

/-- A 24-bit field: the heat-call age of status page 0 and the accumulator of a filter entry (12.4, 12.5). -/
def field24 (n : Nat) : List Byte := [byteOf n, byteOf (n / 256), byteOf (n / 65536)]

/-- An unsigned 16-bit field that may be absent: 0xFFFF (R192). -/
def field16? (o : Option Nat) : List Byte := o.elim [0xFF, 0xFF] field16

/-- A signed 16-bit field that may be absent: 0x8000 (R192). -/
def signed16? (o : Option Int) : List Byte := o.elim [0x00, 0x80] signed16

/-- A one-byte field that may be absent: 0xFF (R192). -/
def byte? (o : Option Nat) : Byte := o.elim 0xFF byteOf

/-- The 16-bit quantity that two bytes carry, low byte first (6.6). -/
def wordOf (lo hi : Byte) : Word16 := hi ++ lo

/-! ## CRCs -/

/-- One bit of the CRC-8 register, generator x⁸ + x² + x + 1 (12.1). -/
def crc8Shift (r : Byte) : Byte := if r.msb then (r <<< 1) ^^^ 0x07 else r <<< 1

/-- One byte taken into the CRC-8 register, most significant bit first (12.1). -/
def crc8Byte (r b : Byte) : Byte :=
  crc8Shift (crc8Shift (crc8Shift (crc8Shift (crc8Shift (crc8Shift (crc8Shift (crc8Shift (r ^^^ b))))))))

/-- The CRC-8 of a frame's covered bytes; the register starts at 0x00 (12.1). -/
def crc8 (l : List Byte) : Byte := l.foldl crc8Byte 0x00

/-- One bit of the CRC-16 register, generator x¹⁶ + x¹² + x⁵ + 1 (12.5). -/
def crc16Shift (r : Word16) : Word16 := if r.msb then (r <<< 1) ^^^ 0x1021 else r <<< 1

/-- One byte taken into the CRC-16 register, most significant bit first (12.5). -/
def crc16Byte (r : Word16) (b : Byte) : Word16 :=
  crc16Shift (crc16Shift (crc16Shift (crc16Shift (crc16Shift (crc16Shift (crc16Shift (crc16Shift
    (r ^^^ (b.setWidth 16 <<< 8)))))))))

/-- The CRC-16 over a stored record's bytes; the register starts at 0xFFFF (12.5). -/
def crc16 (l : List Byte) : Word16 := l.foldl crc16Byte 0xFFFF

end Sys2Proof.Machine
end

