-- ==== Sys2Proof/Machine/Flags.lean ====
section
/-! DEFINITION. The event unit (Chapter 10): where each flag stands, raising and clearing flags, masks, SUSPEND, the
IRQ condition, and the counters with their readable copies. -/

namespace Sys2Proof.Machine

/-! ## Flags -/

/-- The event flags, in the order of the table of 10.1. -/
inductive Flag where
  | supStall
  | extStall
  | supLockout
  | extLockout
  | flowLimited
  | protectEntered
  | defrostStarted
  | defrostUnresolved
  | frostHoldEntered
  | frostHoldLeft
  | bypassFault
  | guardFallback
  | supFilterState
  | extFilterState
  | filterAbsent
  | changeAbandoned
  | humidBoost
  | dryProtect
  | channelFailed
  | channelRecovered
  | stationLost
  | stationFound
  | seasonChanged
  | entryEvicted
  | storeDone
  | storeFailed
  | defaultsInUse
  | counterWrapped
deriving DecidableEq, Repr

/-- The event word of a flag (10.1). -/
def Flag.word : Flag → EventWord
  | .supStall | .extStall | .supLockout | .extLockout | .flowLimited => .fan
  | .protectEntered | .defrostStarted | .defrostUnresolved | .frostHoldEntered | .frostHoldLeft | .bypassFault
  | .guardFallback => .core
  | .supFilterState | .extFilterState | .filterAbsent | .changeAbandoned | .humidBoost | .dryProtect
  | .channelFailed | .channelRecovered => .service
  | .stationLost | .stationFound | .seasonChanged | .entryEvicted | .storeDone | .storeFailed | .defaultsInUse
  | .counterWrapped => .system

/-- The place of a flag in its word: bit n carries the nth flag, counted from 0 in the order of 10.1 (12.4). -/
def Flag.mask : Flag → Byte
  | .supStall => 0x01
  | .extStall => 0x02
  | .supLockout => 0x04
  | .extLockout => 0x08
  | .flowLimited => 0x10
  | .protectEntered => 0x01
  | .defrostStarted => 0x02
  | .defrostUnresolved => 0x04
  | .frostHoldEntered => 0x08
  | .frostHoldLeft => 0x10
  | .bypassFault => 0x20
  | .guardFallback => 0x40
  | .supFilterState => 0x01
  | .extFilterState => 0x02
  | .filterAbsent => 0x04
  | .changeAbandoned => 0x08
  | .humidBoost => 0x10
  | .dryProtect => 0x20
  | .channelFailed => 0x40
  | .channelRecovered => 0x80
  | .stationLost => 0x01
  | .stationFound => 0x02
  | .seasonChanged => 0x04
  | .entryEvicted => 0x08
  | .storeDone => 0x10
  | .storeFailed => 0x20
  | .defaultsInUse => 0x40
  | .counterWrapped => 0x80

/-- One of the four bytes. -/
def EventBytes.get (e : EventBytes) : EventWord → Byte
  | .fan => e.fan
  | .core => e.core
  | .service => e.service
  | .system => e.system

/-- One of the four bytes replaced. -/
def EventBytes.put (e : EventBytes) (w : EventWord) (b : Byte) : EventBytes :=
  match w with
  | .fan => { e with fan := b }
  | .core => { e with core := b }
  | .service => { e with service := b }
  | .system => { e with system := b }

/-- No flag set. -/
def EventBytes.zero : EventBytes := { fan := 0, core := 0, service := 0, system := 0 }

/-- Every position masked. -/
def EventBytes.allMasked : EventBytes := { fan := 0xFF, core := 0xFF, service := 0xFF, system := 0xFF }

/-! ## The IRQ condition (R178) -/

/-- A word holds an unmasked flag. -/
def EventUnit.wordDrives (e : EventUnit) (w : EventWord) : Bool := e.flags.get w &&& ~~~(e.masks.get w) != 0

/-- The IRQ condition: an unmasked flag is set and SUSPEND is clear (R178). -/
def EventUnit.condition (e : EventUnit) : Bool :=
  (e.wordDrives .fan || e.wordDrives .core || e.wordDrives .service || e.wordDrives .system) && !e.suspended

/-- Drives the pin from the condition recomputed (R178). -/
def EventUnit.settle (e : EventUnit) : EventUnit := { e with irq := e.condition }

/-- A flag raised (R175). -/
def EventUnit.raise (e : EventUnit) (f : Flag) : EventUnit :=
  { e with flags := e.flags.put f.word (e.flags.get f.word ||| f.mask) }.settle

/-- A flag is set. -/
def EventUnit.isSet (e : EventUnit) (f : Flag) : Bool := e.flags.get f.word &&& f.mask != 0

/-- A read of an event word clears every flag that the returned value showed set (R176). -/
def EventUnit.clearWord (e : EventUnit) (w : EventWord) : EventUnit :=
  { e with flags := e.flags.put w (e.flags.get w &&& ~~~(e.flags.get w)) }.settle

/-- A write of a mask word replaces it (R177). -/
def EventUnit.writeMask (e : EventUnit) (w : EventWord) (b : Byte) : EventUnit :=
  { e with masks := e.masks.put w b }.settle

/-- A write of the IRQ control register: bit 0 sets or clears SUSPEND, bit 1 clears every flag (R176, R177). -/
def EventUnit.control (e : EventUnit) (b : Byte) : EventUnit :=
  { e with
    suspended := b.getLsbD 0
    flags := if b.getLsbD 1 then EventBytes.zero else e.flags }.settle

/-- The event unit's part of a running reset: flags clear, everything masked, SUSPEND clear; the counters stand
(R178, R182). -/
def EventUnit.runningReset (e : EventUnit) : EventUnit :=
  { e with flags := EventBytes.zero, masks := EventBytes.allMasked, suspended := false }.settle

/-! ## Counters (10.4) -/

/-- The place of a counter in the table of 10.4. -/
def Counter.index : Counter → Fin 8
  | .defrosts => 0
  | .supStalls => 1
  | .extStalls => 2
  | .linkFrameErrors => 3
  | .linkMisses => 4
  | .requestsRefused => 5
  | .filterChanges => 6
  | .channelFailures => 7

/-- A count (R179): the live value goes up by one, wrapping from 65535 to 0 with COUNTER_WRAPPED raised; while
`snapshot` is off the readable copy follows it (R180). -/
def EventUnit.count (e : EventUnit) (snapshot : Bool) (c : Counter) : EventUnit :=
  let live := e.live[c.index] + 1
  let counted :=
    { e with
      live := setAt e.live c.index live
      copies := if snapshot then e.copies else setAt e.copies c.index live }
  if live = 0 then counted.raise .counterWrapped else counted

/-- All copies set from the live values together (R180). -/
def EventUnit.copyAll (e : EventUnit) : EventUnit := { e with copies := e.live }

/-- Every live value and copy is 0. -/
def EventUnit.allZero (e : EventUnit) : Bool :=
  e.live == Vector.replicate 8 0 && e.copies == Vector.replicate 8 0

/-- CLEAR_COUNTERS (R181). -/
def EventUnit.clearCounters (e : EventUnit) : EventUnit :=
  { e with live := Vector.replicate 8 0, copies := Vector.replicate 8 0 }

/-! ## At the state -/

/-- Raises a flag (R175). -/
def State.raise (s : State) (f : Flag) : State := s.setEu (s.eu.raise f)

/-- Counts one (R179, R180). -/
def State.count (s : State) (c : Counter) : State := s.setEu (s.eu.count s.settings.counterSnapshot c)

/-- Raises the flags of a list in turn. -/
def State.raiseAll (s : State) (l : List Flag) : State := l.foldl State.raise s

end Sys2Proof.Machine
end

