-- ==== Sys2Proof/Machine/Channels.lean ====
section
/-! DEFINITION. The measurement channels (1.1 to 1.4): one sample, validity, the measurement-ready indication and
fault injection. -/

namespace Sys2Proof.Machine

/-- A pressure channel: DP_SF, DP_EF or DP_CORE (1.1). -/
def isPressure (ch : Fin 8) : Bool := decide (5 ≤ ch.val)

/-- A channel's plausible range (1.1). -/
def plausible (ch : Fin 8) : Int × Int :=
  if ch.val < 4 then (-400, 600) else if ch.val = 4 then (0, 1000) else (-20, 500)

/-- A reading is in range when it lies within the plausible range, ends included (R2). -/
def inRange (ch : Fin 8) (reading : Int) : Bool :=
  decide ((plausible ch).1 ≤ reading) && decide (reading ≤ (plausible ch).2)

/-- What an in-range reading enters the filter history as: a pressure from −20 to −1 is taken as 0 (R2, R5). -/
def historyReading (ch : Fin 8) (reading : Int) : Int :=
  if isPressure ch && decide (reading < 0) then 0 else reading

/-- The mean of a filter history, truncated toward zero (R5). -/
def meanOf (l : List Int) : Int := l.sum.tdiv l.length

/-- The notable occurrences of one sample. -/
inductive SampleEvent where
  | none
  | failed
  | recovered
deriving DecidableEq, Repr

/-- The sample taken into the window, history, filtered value, settling count and injection mode (R4, R5, R6, R10):
`out` says whether the sample is out of range or marked. -/
def Channel.take (c : Channel) (ch : Fin 8) (reading : Int) (out : Bool) : Channel :=
  let history := if out then c.history else pushWindow 4 (historyReading ch reading) c.history
  { c with
    raw := reading
    window := pushWindow 8 out c.window
    history := history
    filtered := if out then c.filtered else meanOf history
    settling := if out then c.settling else min 4 (c.settling + 1)
    injection := if c.injection = .single then .none else c.injection }

/-- The state judged on the window as it now stands (R7, R8, R9). -/
def Channel.judge (c : Channel) (kFail : Nat) : Channel × SampleEvent :=
  match c.state with
  | .valid => if marks c.window = 0 then (c, .none) else ({ c with state := .suspect }, .none)
  | .suspect =>
    if kFail ≤ marks c.window then ({ c with state := .failed }, .failed)
    else if marks c.window = 0 then ({ c with state := .valid }, .none)
    else (c, .none)
  | .failed =>
    if c.window.length = 8 ∧ marks c.window = 0 then ({ c with state := .valid, window := [] }, .recovered)
    else (c, .none)

/-- One whole sample of a channel (R4 to R10). -/
def Channel.sample (c : Channel) (ch : Fin 8) (reading : Int) (kFail : Nat) : Channel × SampleEvent :=
  (c.take ch reading (!inRange ch reading || c.injection != .none)).judge kFail

/-- A channel has settled or is FAILED (R6). -/
def Channel.readyOrFailed (c : Channel) : Bool := c.settling == 4 || c.state == .failed

/-- The block after a channel's sample, with the measurement-ready indication raised when every channel has settled
or failed (R6). -/
def Measurement.withSample (mc : Measurement) (ch : Fin 8) (c : Channel) : Measurement :=
  let channels := setAt mc.channels ch c
  { mc with channels := channels, ready := mc.ready || channels.all Channel.readyOrFailed }

/-- The flag and the count that a sample calls for (R8, R9). -/
def State.reportSample (s : State) : SampleEvent → State
  | .none => s
  | .failed => (s.raise .channelFailed).count .channelFailures
  | .recovered => s.raise .channelRecovered

/-- A channel sample at the state (R1). -/
def State.sampleChannel (s : State) (ch : Fin 8) (reading : Int) : State :=
  let r := (s.channel ch).sample ch reading s.settings.kFail
  (s.setMc (s.mc.withSample ch r.1)).reportSample r.2

/-- CHANNEL_SAMPLE (R1). -/
def execChannelSample (ch : Fin 8) (reading : Int) (s : State) : Host.Outcome State Fault Refusal :=
  done (s.unlessHeld fun s => s.sampleChannel ch reading)

/-! ## Fault injection -/

/-- The injection modes by code (12.2). -/
def InjectMode.ofCode (b : Byte) : Option InjectMode :=
  if b = 0 then some .none else if b = 1 then some .single else if b = 2 then some .hold else Option.none

/-- The code of an injection mode (12.2, 12.5). -/
def InjectMode.code : InjectMode → Nat
  | .none => 0
  | .single => 1
  | .hold => 2

/-- INJECT at the block (R11): the named channel takes the named mode. -/
def State.inject (s : State) (channel mode : Byte) : State × RequestOutcome :=
  if h : channel.toNat < 8 then
    match InjectMode.ofCode mode with
    | none => (s, .notApplicable)
    | some m =>
      let ch : Fin 8 := ⟨channel.toNat, h⟩
      let c := s.channel ch
      if c.injection = m then (s, .doneNothing)
      else (s.setMc { s.mc with channels := setAt s.mc.channels ch { c with injection := m } }, .done)
  else (s, .notApplicable)

end Sys2Proof.Machine
end

