-- ==== Sys2Proof/Machine/Formats.lean ====
section
/-! DEFINITION. The layouts of Chapter 12: codes, the digest and the CALL frame, the status pages, the table-window
entries, and the two stored records with their CRC-16. -/

namespace Sys2Proof.Machine

/-! ## Codes (12.3) -/

/-- The outcome codes; NONE is 0. -/
def RequestOutcome.code : RequestOutcome → Nat
  | .done => 1
  | .doneClamped => 2
  | .doneNothing => 3
  | .refusedPermission => 4
  | .refusedUnknown => 5
  | .tableFull => 6
  | .owned => 7
  | .busy => 8
  | .notApplicable => 9

/-- The reason codes. -/
def Reason.code : Reason → Nat
  | .filterChange => 0
  | .shutdown => 1
  | .purge => 2
  | .boost => 3
  | .quiet => 4
  | .ceiling => 5
  | .away => 6
  | .base => 7
  | .default => 8

/-- The frost state codes. -/
def FrostState.code : FrostState → Nat
  | .inactive => 0
  | .watch => 1
  | .protect => 2
  | .defrost => 3
  | .recover => 4
  | .frostHold => 5
  | .fallback => 6

/-- The filter state codes. -/
def FilterState.code : FilterState → Nat
  | .learning => 0
  | .clean => 1
  | .loading => 2
  | .loaded => 3
  | .blocked => 4
  | .absent => 5
  | .changing => 6

/-- The fan state codes. -/
def FanState.code : FanState → Nat
  | .stopped => 0
  | .holdoff => 1
  | .starting => 2
  | .running => 3
  | .stalled => 4
  | .lockedOut => 5

/-- The damper state codes. -/
def DamperState.code : DamperState → Nat
  | .closed => 0
  | .opening => 1
  | .opened => 2
  | .closing => 3
  | .fault => 4

/-- The channel state codes. -/
def ChannelState.code : ChannelState → Nat
  | .valid => 0
  | .suspect => 1
  | .failed => 2

/-- The slot state codes. -/
def SlotState.code : SlotState → Nat
  | .unknown => 0
  | .present => 1
  | .missing => 2
  | .lost => 3

/-- The codes of the master sources; 0 is the empty code. -/
def masterCode : Master → Nat
  | .tool => 1
  | .unit => 2
  | .station n => 3 + n.val

/-- The source codes. -/
def Source.code : Source → Nat
  | .master m => masterCode m
  | .cord .kitchen => 7
  | .cord .bathroom => 8
  | .humidity => 9

/-- The codes of the last assessment. -/
def Assessment.code : Assessment → Nat
  | .none => 0
  | .assessed => 1
  | .notReady => 2
  | .lowFlow => 3
  | .unsteady => 4
  | .channel => 5
  | .changing => 6

/-- The codes of Last set by. -/
def LastSetBy.code : LastSetBy → Nat
  | .none => 0
  | .heatCall => 1
  | .noCall => 2
  | .master m => 2 + masterCode m

/-- The reset cause codes. -/
def ResetCause.code : ResetCause → Nat
  | .power => 1
  | .supplyDip => 2
  | .pinMaster => 3
  | .pinRunning => 4
  | .portRunning => 5

/-- The codes of an absent or present defrost origin (12.4). -/
def originCode : Option DefrostOrigin → Nat
  | none => 0
  | some .normal => 1
  | some .fallback => 2

/-- The codes of the motor drive (12.5). -/
def MotorDrive.code : MotorDrive → Nat
  | .off => 0
  | .opening => 1
  | .closing => 2

/-- An absent source reads 0 (R192). -/
def sourceCode (m : Option Master) : Nat := m.elim 0 masterCode

/-- The demand kind codes (12.3). -/
def DemandKind.code : DemandKind → Byte
  | .base => RequestKind.base.code
  | .boost => RequestKind.boost.code
  | .away => RequestKind.away.code
  | .purge => RequestKind.purge.code
  | .quiet => RequestKind.quiet.code
  | .shutdown => RequestKind.shutdown.code

/-- An outcome with the kind it answered; NONE with its kind reads 0, 0 (R192). -/
def answerBytes : Option Answer → List Byte
  | none => [0, 0]
  | some a => [byteOf a.outcome.code, a.kindCode]

/-! ## The digest and the CALL (8.5, 12.1) -/

/-- The three bits of a fan in the fault summary: LOCKED_OUT, STALLED, flow limited. -/
def FanRecord.faultBits (f : FanRecord) : Nat :=
  bitAt (f.state == .lockedOut) 0 + bitAt (f.state == .stalled) 1 + bitAt f.flowLimited 2

/-- The channels' byte of the fault summary: bit n is set when channel n is FAILED. -/
def Measurement.failedBits (mc : Measurement) : Nat :=
  markBits (mc.channels.toList.map fun c => c.state == .failed)

/-- Bytes 0 to 9 of a digest: every item but the last outcome (R156). -/
def State.digestCommon (s : State) : List Byte :=
  field16 s.da.plan.target ++ field16 s.ae.supply.qr ++ field16 s.ae.extract.qr ++
  [ byteOf (s.da.plan.reason.code + 16 * s.fg.state.code + bitAt (s.season.mode == .summer) 7),
    byteOf (s.fm.supply.state.code + 16 * s.fm.extract.state.code),
    byteOf (s.ae.supply.faultBits + 8 * s.ae.extract.faultBits + bitAt (s.damper.state == .fault) 6),
    byteOf s.mc.failedBits ]

/-- SYNC (12.1). -/
def syncByte : Byte := 0xA9
/-- The kind byte of a CALL (12.1). -/
def callKind : Byte := 0xC1

/-- A frame's covered bytes, and the frame around them (R147, 12.1). -/
def frameOf (address kind : Byte) (payload : List Byte) : List Byte :=
  let covered := [address, kind, byteOf payload.length] ++ payload
  [syncByte] ++ covered ++ [crc8 covered]

/-- The CALL to an address: destination in the high nibble, source 0, and the digest (R147, R156). -/
def callFrame (address : Nat) (digest : List Byte) : List Byte := frameOf (byteOf (16 * address)) callKind digest

/-! ## Status pages (9.4, 12.4) -/

/-- Byte 0 of status page 0. -/
def State.unitBits (s : State) : Nat :=
  bitAt s.mc.ready 0 + bitAt s.preheaterFitted 1 + bitAt s.damperFitted 2 + bitAt s.standAlone 3 +
  bitAt s.rightHanded 4 + bitAt (s.ss.store != .idle) 5 + bitAt (s.season.mode == .summer) 6 +
  bitAt s.season.observing 7

/-- Status page 0: the unit. -/
def State.pageUnit (s : State) : List Byte :=
  [byteOf s.unitBits, byteOf (s.straps.a.val + 4 * s.straps.b.val + 16 * s.straps.c.val)] ++
  field24 s.season.heatCallAge ++ [byteOf s.season.lastSetBy.code] ++ signed16? s.hm.dewPoint ++
  [byteOf s.rl.roundCounter]

/-- Status pages 1 and 2: one fan. -/
def FanRecord.page (f : FanRecord) : List Byte :=
  [byteOf f.state.code] ++ field16 f.duty ++ field16 f.measured ++ field16 f.qc ++ field16 f.qr ++
  field16 f.speedTarget ++ [byteOf f.retries, byteOf (bitAt f.curveLimit 0 + bitAt f.flowLimited 1)]

/-- Status page 3: the core. -/
def State.pageCore (s : State) : List Byte :=
  [byteOf s.fg.state.code, byteOf (originCode s.fg.origin)] ++ field16 s.fg.fraction ++ field16 s.fg.proportion ++
  signed16 s.fg.limit ++
  [ byteOf (marks s.fg.window),
    byteOf (bitAt s.fg.paused 0 + bitAt s.preheat.output 1 + bitAt s.fg.wantedOpen 2),
    byteOf s.damper.state.code, byteOf s.damper.position ]

/-- Status page 4: the plan. -/
def State.pagePlan (s : State) : List Byte :=
  field16 s.da.plan.target ++ [byteOf s.da.plan.reason.code, byteOf (sourceCode s.da.plan.baseSource)] ++
  field16 s.da.plan.ceiling

/-- The size of the status area (12.4). -/
def statusSize : Nat := 16

/-- A page filled up with zeros to the 16 bytes of the area (R192). -/
def padPage (l : List Byte) : List Byte := l ++ List.replicate (statusSize - l.length) 0

/-- The selected status page; a select that names no page gives zeros (R169). -/
def State.statusPage (s : State) (select : Byte) : List Byte :=
  padPage (match select.toNat with
    | 0 => s.pageUnit
    | 1 => s.ae.supply.page
    | 2 => s.ae.extract.page
    | 3 => s.pageCore
    | 4 => s.pagePlan
    | _ => [])

/-! ## Table-window entries (12.5) -/

/-- A demand table place: an empty place is 8 zero bytes (R40, R192). -/
def demandPlace : Option Entry → List Byte
  | none => List.replicate 8 0
  | some e =>
    [byteOf e.source.code, e.kind.code] ++ field16 e.flow ++ field16? e.remaining ++ bytes16 e.seq

/-- The fifteen places (R40). -/
def DemandTable.place? (t : DemandTable) (n : Nat) : Option Entry :=
  if n < 12 then t.general[n]? else if n = 12 then t.pcK else if n = 13 then t.pcB else t.humidity

/-- A station table place: the slot and, for addresses 1 to 4, the accepted state (R164). Absent fields: DEDUCED (log
entry 19). -/
def stationPlace (slot : Slot) (humid : Bool) : List Byte :=
  [ byteOf slot.state.code, byteOf (markBits slot.window),
    byteOf (slot.window.length + 16 * slot.goodRun + bitAt slot.tell.isSome 6 + bitAt humid 7) ] ++
  field16? slot.timeMissing ++
  (match slot.lastOutcome with
    | none => [0, 0xFF]
    | some a => [byteOf a.outcome.code, a.kindCode]) ++
  (match slot.tell with
    | none => [0x00, 0x80, 0xFF, 0xFF, 0xFF]
    | some t => (t.temperature.elim [0x00, 0x80] bytes16) ++ bytes16 t.humidity ++ [t.flags])

/-- The accepted state shown with a slot. -/
def Humidity.humidAt (hm : Humidity) (i : Fin 15) : Bool :=
  if h : i.val < 4 then hm.stations[i.val].humid else false

/-- Bytes 0 to 14 of a filter entry: what a stored filter record holds (6.7, 12.5). -/
def FilterCore.image (f : FilterCore) : List Byte :=
  [byteOf f.state.code, byte? (f.saved.map FilterState.code)] ++ field16? f.dpClean ++ field16 f.volume ++
  field24 f.accumulator ++ field16 f.runSeconds ++ field16 f.runHours ++
  [byteOf f.loadedMarks, byteOf f.blockedMarks]

/-- A filter entry. -/
def FilterRecord.place (f : FilterRecord) : List Byte :=
  f.toFilterCore.image ++ field16 f.steadyFlow ++ [byteOf f.steadyCount, byteOf f.lastAssessment.code] ++
  field16? f.lastDpNorm ++ [byteOf (sourceCode f.owner)] ++ field16? f.deadline

/-- The four ages, oldest first; the places beyond the last entry read 0. -/
def agesBytes (l : List Nat) : List Byte := ((l ++ List.replicate (4 - l.length) 0).take 4).flatMap field16

/-- The FROST entry. Absent fields: DEDUCED (log entry 19). -/
def State.frostPlace (s : State) : List Byte :=
  s.pageCore ++ [byteOf (markBits s.fg.window), byteOf s.fg.window.length] ++ field16? s.fg.defrostElapsed ++
  field16? s.fg.holdElapsed ++ signed16? s.fg.holdEntryOda ++ field16? s.fg.fallbackCycle ++
  (match s.fg.coreRef with
    | none => [0xFF, 0xFF, 0xFF, 0xFF]
    | some r => signed16 r.pressure ++ field16 r.flow) ++
  [byteOf s.fg.history.length] ++ agesBytes s.fg.history ++
  [byte? s.damper.allowance, byte? s.damper.elapsed, byteOf s.damper.drive.code]

/-- The four history readings, oldest first; the places beyond the last entry read 0. -/
def readingsBytes (l : List Int) : List Byte := ((l ++ List.replicate (4 - l.length) 0).take 4).flatMap signed16

/-- A channel entry. -/
def Channel.place (c : Channel) (id : Fin 8) : List Byte :=
  [byteOf id.val] ++ signed16 c.raw ++
  [ byteOf (markBits c.window), byteOf c.window.length, byteOf c.state.code, byteOf c.injection.code,
    byteOf c.settling, byteOf c.history.length ] ++
  readingsBytes c.history ++ signed16 c.filtered

/-- A COMMISSIONING entry. -/
def Settings.place (set : Settings) (p : Nat × SettingId) : List Byte := field16 p.1 ++ signed16 (set.get p.2)

/-- A curve entry. -/
def Curve.place (c : Curve) (i : Fin 8) : List Byte := field16 c.flows[i] ++ field16 c.speeds[i]

/-- The tables of the window (9.6). -/
inductive Table where
  | demand
  | stations
  | filters
  | counters
  | frost
  | commissioning
  | curve (side : Side)
  | channels
deriving DecidableEq, Repr

/-- The table that a select names (12.3, R172). -/
def Table.ofSelect (b : Byte) : Option Table :=
  match b.toNat with
  | 0 => some .demand
  | 1 => some .stations
  | 2 => some .filters
  | 3 => some .counters
  | 4 => some .frost
  | 5 => some .commissioning
  | 6 => some (.curve .supply)
  | 7 => some (.curve .extract)
  | 8 => some .channels
  | _ => none

/-- The number of entries of a table (9.6). -/
def Table.count : Table → Nat
  | .demand => 15
  | .stations => 15
  | .filters => 2
  | .counters => 8
  | .frost => 1
  | .commissioning => settingTable.length
  | .curve _ => 8
  | .channels => 8

/-- The size of a table's entries (12.5). -/
def Table.size : Table → Nat
  | .demand => 8
  | .stations => 12
  | .filters => 24
  | .counters => 2
  | .frost => 38
  | .commissioning => 4
  | .curve _ => 4
  | .channels => 19

/-- A value at an index of fewer than `n`, or nothing. -/
def atIndex {n : Nat} (i : Nat) (f : Fin n → List Byte) : List Byte := if h : i < n then f ⟨i, h⟩ else []

/-- An entry of a table as its owner holds it (R172, R173). -/
def State.tableEntry (s : State) (t : Table) (i : Nat) : List Byte :=
  match t with
  | .demand => demandPlace (s.da.table.place? i)
  | .stations => atIndex i fun n : Fin 15 => stationPlace s.rl.slots[n] (s.hm.humidAt n)
  | .filters => (if i = 0 then s.fm.supply else s.fm.extract).place
  | .counters => atIndex i fun n : Fin 8 => bytes16 s.eu.copies[n]
  | .frost => s.frostPlace
  | .commissioning => (settingTable[i]?).elim [] s.settings.place
  | .curve side => atIndex i (s.settings.curve side).place
  | .channels => atIndex i fun n : Fin 8 => (s.channel n).place n

/-! ## The stored records (12.5) -/

/-- The COMMISSIONING entries in id order: what the stored commissioning record consists of. -/
def Settings.image (set : Settings) : List Byte := settingTable.flatMap set.place

/-- A stored commissioning record passes its check (R191). -/
def StoredSettings.passes (r : StoredSettings) : Bool := r.valid && r.crc == crc16 r.contents.image

/-- A commissioning record written whole, with a fresh CRC-16 (R189). -/
def StoredSettings.written (set : Settings) : StoredSettings :=
  { contents := set, crc := crc16 set.image, valid := true }

/-- A stored filter record passes its check (R129). -/
def StoredFilter.passes (r : StoredFilter) : Bool := r.whole && r.crc == crc16 r.contents.image

/-- A filter record written whole, with a fresh CRC-16 (R128). -/
def StoredFilter.written (f : FilterCore) : StoredFilter :=
  { contents := f, crc := crc16 f.image, whole := true }

end Sys2Proof.Machine
end

