-- ==== Sys2Proof/WellFormed.lean ====
section
/-! DEFINITION. Which commands can arrive as they are written: the numbers that an input carries, and the operands that
select a row. The meanings are total; an ill-formed command has a meaning all the same. -/

namespace Sys2Proof

/-- A reading is a signed 16-bit quantity, as the channel record shows it (6.1, 12.5). -/
def readingOk (reading : Int) : Bool := decide (-32768 ≤ reading) && decide (reading ≤ 32767)

/-- A pulse arrives within the second that its control step opens (R42, R44). -/
def microsOk (micros : Nat) : Bool := decide (micros ≤ 1000000)

/-- The code of an unknown request names none of the sixteen kinds (R133). -/
def unknownCodeOk (code : Byte) : Bool := (Machine.RequestKind.ofCode code).isNone

/-- An ASK carries 1 to 12 bytes of payload; a frame of another length is no ASK (R147, R151). -/
def payloadOk (payload : List Byte) : Bool := decide (1 ≤ payload.length) && decide (payload.length ≤ 12)

/-- CLEAR_LOCKOUT(bypass) is a row of its own. -/
def fanTargetOk (target : Option Byte) : Bool := target != some 2

/-- A command is well-formed. -/
def Instr.wf : Instr → Bool
  | .channelSample _ reading => readingOk reading
  | .tachoPulse _ micros => microsOk micros
  | .unknownRequest _ code => unknownCodeOk code
  | .askReply _ payload => payloadOk payload
  | .clearLockoutFan _ target => fanTargetOk target
  | _ => true

end Sys2Proof
end

