-- ==== Sys2Proof/Decode.lean ====
section
/-! DEFINITION. What spells a command in bits. The table gives its rows no bits, so that `decodeTableWord` reads none; the
room link's replies do have an encoding, the frames of R147 and 12.1, and are decoded from their characters and encoded
here. -/

namespace Sys2Proof

/-- The command that a word spells by the table's bits: the table gives none of its rows bits (log entry 25). -/
def decodeTableWord (_nbits _w : Nat) : Option Instr := none

/-! ## Room link frames (R147, R151, 12.1) -/

/-- The kind byte of an IDLE. -/
def idleKind : Byte := 0x10
/-- The kind byte of an ASK. -/
def askKind : Byte := 0x20
/-- The kind byte of a TELL. -/
def tellKind : Byte := 0x30
/-- The kind byte of a HEAT. -/
def heatKind : Byte := 0x40

/-- The reply of a kind and a payload whose CRC-8 matches: another kind, or a length outside the kind's, is malformed
(R151, case 3). -/
def replyOf (address kind : Byte) (payload : List Byte) : Instr :=
  if kind = idleKind then (match payload with
    | [] => .idleReply address
    | _ => .badReplyEnd)
  else if kind = askKind then (if payloadOk payload then .askReply address payload else .badReplyEnd)
  else if kind = tellKind then (match payload with
    | [t0, t1, h0, h1, flags] => .tellReply address (Machine.wordOf t0 t1) (Machine.wordOf h0 h1) flags
    | _ => .badReplyEnd)
  else if kind = heatKind then (match payload with
    | [call] => .heatReply address call
    | _ => .badReplyEnd)
  else .badReplyEnd

/-- The command that the characters of one frame amount to, from its SYNC to its last character: cut short, with a
length byte above 12, or with a CRC-8 that does not match, the frame is broken (R151, case 2). -/
def decodeReply (chars : List Byte) : Instr :=
  match chars with
  | sync :: address :: kind :: len :: rest =>
    if sync = Machine.syncByte ∧ len.toNat ≤ 12 ∧ rest.length = len.toNat + 1 ∧
        Machine.crc8 (address :: kind :: len :: rest.take len.toNat) = rest.getD len.toNat 0 then
      replyOf address kind (rest.take len.toNat)
    else .badReplyEnd
  | _ => .badReplyEnd

/-- The frame of a reply; the other commands are not sent on the room link. -/
def encodeReply : Instr → Option (List Byte)
  | .idleReply address => some (Machine.frameOf address idleKind [])
  | .askReply address payload => some (Machine.frameOf address askKind payload)
  | .tellReply address t h flags =>
    some (Machine.frameOf address tellKind (Machine.bytes16 t ++ Machine.bytes16 h ++ [flags]))
  | .heatReply address call => some (Machine.frameOf address heatKind [call])
  | _ => none

end Sys2Proof
end

