-- ==== Sys2Proof/Machine/Demand.lean ====
section
/-! DEFINITION. The demand arbiter (Chapter 2): acceptance, the general part, the reserved slots, expiry and removal,
the ceiling, and the resolution of the table into the flow plan. -/

namespace Sys2Proof.Machine

/-! ## Sources and kinds -/

/-- The master sources in the precedence of R36. -/
def Master.precedence : List Master := [.tool, .unit, .station 0, .station 1, .station 2, .station 3]

/-- The default level of a demand kind (2.1). -/
def DemandKind.defaultLevel : DemandKind → Fin 5
  | .base => 2
  | .away => 0
  | .boost => 3
  | .quiet => 1
  | .purge => 4
  | .shutdown => 0

/-- The demand kind that a code names (12.3). -/
def DemandKind.ofCode (b : Byte) : Option DemandKind :=
  match RequestKind.ofCode b with
  | some .base => some .base
  | some .boost => some .boost
  | some .away => some .away
  | some .purge => some .purge
  | some .quiet => some .quiet
  | some .shutdown => some .shutdown
  | _ => none

/-- The request kind of a demand kind. -/
def DemandKind.request : DemandKind → RequestKind
  | .base => .base
  | .boost => .boost
  | .away => .away
  | .purge => .purge
  | .quiet => .quiet
  | .shutdown => .shutdown

/-! ## What an accepted demand holds -/

/-- A quantity fixed at acceptance, with whether it was clamped. -/
structure Fixed (α : Type) where
  value : α
  clamped : Bool
deriving DecidableEq, Repr

/-- A demand's flow at acceptance (R18, R19): a level is converted by the level table, a flow is clamped, neither
gives the kind's default level, and a level above 4 names no level. A level is used before a flow (R193). -/
def demandFlow (set : Settings) (kind : DemandKind) (p : DemandParams) : Option (Fixed Nat) :=
  match kind with
  | .shutdown => some ⟨0, false⟩
  | _ =>
    match p.level, p.flow with
    | some l, _ => if h : l.toNat < 5 then some ⟨set.levelFlow ⟨l.toNat, h⟩, false⟩ else none
    | none, some f =>
      let v := clampFlow set.qmin set.qmax f.toNat
      some ⟨v, v != f.toNat⟩
    | none, none => some ⟨set.levelFlow kind.defaultLevel, false⟩

/-- A demand's remaining duration at acceptance (R20). -/
def demandDuration (kind : DemandKind) (duration : Option Word16) : Fixed (Option Nat) :=
  match duration.map BitVec.toNat with
  | none | some 0 => ⟨if kind = .purge then some 900 else none, false⟩
  | some d => if d ≤ 14400 then ⟨some d, false⟩ else ⟨some 14400, true⟩

/-! ## The table -/

/-- The general part holds at most 12 entries (2.3). -/
def generalSize : Nat := 12

/-- The entry has the pair (source, kind). -/
def Entry.hasPair (e : Entry) (src : Source) (kind : DemandKind) : Bool := e.source == src && e.kind == kind

/-- Every entry of both parts. -/
def DemandTable.entries (t : DemandTable) : List Entry :=
  t.general ++ t.pcK.toList ++ t.pcB.toList ++ t.humidity.toList

/-- The general part after its oldest entry that is not a SHUTDOWN has left, if there is one (R24). -/
def evictOldest : List Entry → Option (List Entry)
  | [] => none
  | e :: l => if e.kind = .shutdown then (evictOldest l).map (e :: ·) else some l

/-- How a demand enters the general part (R22, R23, R24). -/
inductive Placement where
  | placed (rest : List Entry)
  | evicting (rest : List Entry)
  | full
deriving DecidableEq, Repr

/-- Where a demand of a pair is placed: the entries that stay before it, or no place (R22, R23, R24). Twelve
SHUTDOWN entries, which no run reaches, leave no place (log entry 22). -/
def DemandTable.place (t : DemandTable) (src : Source) (kind : DemandKind) : Placement :=
  if t.general.any (fun e => e.hasPair src kind) then
    .placed (t.general.filter fun e => !e.hasPair src kind)
  else if t.general.length < generalSize then .placed t.general
  else if kind = .shutdown then
    match evictOldest t.general with
    | some rest => .evicting rest
    | none => .full
  else .full

/-- The table with an entry appended at the newest end under the next sequence number (R21, R22). -/
def DemandTable.append (t : DemandTable) (rest : List Entry) (src : Source) (kind : DemandKind) (flow : Nat)
    (remaining : Option Nat) : DemandTable :=
  { t with
    general := rest ++ [{ source := src, kind := kind, flow := flow, remaining := remaining, seq := t.seq + 1 }]
    seq := t.seq + 1 }

/-- A reserved slot (2.4). -/
def DemandTable.slot (t : DemandTable) : Source → Option Entry
  | .cord .kitchen => t.pcK
  | .cord .bathroom => t.pcB
  | .humidity => t.humidity
  | .master _ => none

/-- A reserved slot replaced. -/
def DemandTable.withSlot (t : DemandTable) (src : Source) (e : Option Entry) : DemandTable :=
  match src with
  | .cord .kitchen => { t with pcK := e }
  | .cord .bathroom => { t with pcB := e }
  | .humidity => { t with humidity := e }
  | .master _ => t

/-- A posting to a reserved slot, with a new sequence number (R26). -/
def DemandTable.post (t : DemandTable) (src : Source) (kind : DemandKind) (flow : Nat) (remaining : Option Nat) :
    DemandTable :=
  { t.withSlot src
      (some { source := src, kind := kind, flow := flow, remaining := remaining, seq := t.seq + 1 }) with
    seq := t.seq + 1 }

/-- An entry at an expiry event: its remaining duration goes down by one, and it is removed at 0 (R27). -/
def Entry.tick (e : Entry) : Option Entry :=
  match e.remaining with
  | none => some e
  | some d => if d ≤ 1 then none else some { e with remaining := some (d - 1) }

/-- The table after an expiry event (R27). -/
def DemandTable.expire (t : DemandTable) : DemandTable :=
  { t with
    general := t.general.filterMap Entry.tick
    pcK := t.pcK.bind Entry.tick
    pcB := t.pcB.bind Entry.tick
    humidity := t.humidity.bind Entry.tick }

/-- The table without the entries of a master source (R29, R30). -/
def DemandTable.without (t : DemandTable) (m : Master) : DemandTable :=
  { t with general := t.general.filter fun e => e.source != .master m }

/-! ## The ceiling (R33) -/

/-- The ceiling given by a filter state other than CHANGING (2.7). -/
def stateCeiling (set : Settings) : FilterState → Nat
  | .loaded => set.qmax * set.derateLoaded / 100
  | .blocked => set.qmax * set.derateBlocked / 100
  | _ => set.qmax

/-- A filter's contribution: while it is CHANGING, that of its saved state (R33). -/
def contribution (set : Settings) (f : FilterRecord) : Nat :=
  match f.state with
  | .changing => stateCeiling set (f.saved.getD .learning)
  | st => stateCeiling set st

/-! ## Resolution (2.8) -/

/-- A running value with its reason. -/
structure Running where
  value : Nat
  reason : Reason
deriving DecidableEq, Repr

/-- The flows of the entries of a kind. -/
def flowsOf (l : List Entry) (kind : DemandKind) : List Nat := (l.filter fun e => e.kind == kind).map Entry.flow

/-- The greatest flow of a list, 0 if it is empty. -/
def greatest (l : List Nat) : Nat := l.foldl max 0

/-- The least flow of a list, if there is one. -/
def least : List Nat → Option Nat
  | [] => none
  | x :: l => some (l.foldl min x)

/-- The BASE entry of the source highest in the precedence of R36. -/
def baseEntry (l : List Entry) : Option (Master × Entry) :=
  Master.precedence.findSome? fun m => (l.find? fun e => e.hasPair (.master m) .base).map fun e => (m, e)

/-- The value lowered to a limit, if there is one, with the reason set when it is lowered strictly. -/
def Running.lower (r : Running) (limit : Option Nat) (reason : Reason) : Running :=
  match limit with
  | none => r
  | some v => if v < r.value then ⟨v, reason⟩ else r

/-- The value raised to a flow, with the reason set when it is raised strictly. -/
def Running.lift (r : Running) (v : Nat) (reason : Reason) : Running :=
  if r.value < v then ⟨v, reason⟩ else r

/-- The base with its reason (R36). -/
def resolveBase (set : Settings) (l : List Entry) : Running × Option Master :=
  match baseEntry l with
  | some (m, e) => (⟨e.flow, .base⟩, some m)
  | none => (⟨set.levelFlow set.defaultBaseLevel, .default⟩, none)

/-- The modifying kinds in the order of R36 and R37: AWAY, BOOST, QUIET, PURGE. -/
def resolveKinds (l : List Entry) (r : Running) : Running :=
  (((r.lower (least (flowsOf l .away)) .away).lift (greatest (flowsOf l .boost)) .boost).lower
    (least (flowsOf l .quiet)) .quiet).lift (greatest (flowsOf l .purge)) .purge

/-- The clamp to the range Qmin to the ceiling in force (R38). -/
def resolveClamp (qmin ceiling : Nat) (r : Running) : Running :=
  if ceiling < r.value then ⟨ceiling, .ceiling⟩ else ⟨max qmin r.value, r.reason⟩

/-- The flow plan resolved from the table, the filter states and the ceiling (R35 to R38). -/
def resolve (set : Settings) (t : DemandTable) (changing : Bool) (ceiling : Nat) : FlowPlan :=
  if changing then { target := 0, reason := .filterChange, baseSource := none, ceiling := ceiling }
  else if t.entries.any (fun e => e.kind == .shutdown) then
    { target := 0, reason := .shutdown, baseSource := none, ceiling := ceiling }
  else
    let b := resolveBase set t.entries
    let r := resolveClamp set.qmin ceiling (resolveKinds t.entries b.1)
    { target := r.value, reason := r.reason, baseSource := b.2, ceiling := ceiling }

/-! ## At the state -/

/-- A replan (R34): the ceiling in force is the lesser of the two contributions held (R33). -/
def State.replan (s : State) : State :=
  s.setDa { s.da with
    plan := resolve s.settings s.da.table s.fm.changing (min s.da.supplyCeiling s.da.extractCeiling) }

/-- Both contributions recomputed from the filter states, and a replan (R33, R34). The contributions are functions of
the states and the settings, so recomputing the one that did not change leaves it as it is. -/
def State.recomputeCeiling (s : State) : State :=
  (s.setDa { s.da with
    supplyCeiling := contribution s.settings s.fm.supply
    extractCeiling := contribution s.settings s.fm.extract }).replan

/-- The state with another table, replanned. -/
def State.withTable (s : State) (t : DemandTable) : State := (s.setDa { s.da with table := t }).replan

/-- A master demand (R18 to R24). The level is judged before the room: a level above 4 is NOT_APPLICABLE (R19) in a full
table as well, where R23 alone would give TABLE_FULL (DESIGN CHOICE, log entry 33). -/
def State.demand (s : State) (src : Master) (kind : DemandKind) (p : DemandParams) : State × RequestOutcome :=
  match demandFlow s.settings kind p with
  | none => (s, .notApplicable)
  | some flow =>
    let dur := demandDuration kind p.duration
    let outcome : RequestOutcome := if flow.clamped || dur.clamped then .doneClamped else .done
    match s.da.table.place (.master src) kind with
    | .full => (s, .tableFull)
    | .placed rest => (s.withTable (s.da.table.append rest (.master src) kind flow.value dur.value), outcome)
    | .evicting rest =>
      ((s.raise .entryEvicted).withTable (s.da.table.append rest (.master src) kind flow.value dur.value), outcome)

/-- WITHDRAW (R25). -/
def State.withdraw (s : State) (src : Master) (code : Byte) : State × RequestOutcome :=
  match DemandKind.ofCode code with
  | none => (s, .notApplicable)
  | some kind =>
    if s.da.table.general.any (fun e => e.hasPair (.master src) kind) then
      (s.withTable { s.da.table with
        general := s.da.table.general.filter fun e => !e.hasPair (.master src) kind }, .done)
    else (s, .doneNothing)

/-- A posting to a reserved slot at a level of the level table (R18, R26). -/
def State.post (s : State) (src : Source) (kind : DemandKind) (level : Fin 5) (remaining : Option Nat) : State :=
  s.withTable (s.da.table.post src kind (s.settings.levelFlow level) remaining)

/-- A removal from a reserved slot: it empties a slot that holds an entry of the kind it names (R26). -/
def State.removeKind (s : State) (src : Source) (kind : DemandKind) : State :=
  match s.da.table.slot src with
  | some e => if e.kind = kind then s.withTable (s.da.table.withSlot src none) else s
  | none => s

/-- A pull-cord's removal: whatever its slot holds (R14, R26). -/
def State.removeAny (s : State) (src : Source) : State := s.withTable (s.da.table.withSlot src none)

/-- The entries of a master source removed, with one replan (R29, R30). -/
def State.removeMaster (s : State) (m : Master) : State := s.withTable (s.da.table.without m)

/-- DEMAND_EXPIRY (R27): the plan is a function of the table, so a replan after an event that removes nothing leaves
it as it is. -/
def execDemandExpiry (s : State) : Host.Outcome State Fault Refusal :=
  done (s.unlessHeld fun s =>
    if s.da.table.expire.entries.length = s.da.table.entries.length then
      s.setDa { s.da with table := s.da.table.expire }
    else s.withTable s.da.table.expire)

end Sys2Proof.Machine
end

