-- ==== Sys2Proof/Machine/PullCords.lean ====
section
/-! DEFINITION. The pull-cord inputs (1.6): debounce, arming, the short press and the long hold. -/

namespace Sys2Proof.Machine

/-- The input of a cord. -/
def Measurement.cord (mc : Measurement) : Cord → CordRecord
  | .kitchen => mc.kitchen
  | .bathroom => mc.bathroom

/-- The block with one input replaced. -/
def Measurement.withCord (mc : Measurement) (c : Cord) (r : CordRecord) : Measurement :=
  match c with
  | .kitchen => { mc with kitchen := r }
  | .bathroom => { mc with bathroom := r }

/-- The state with one input replaced. -/
def State.withCord (s : State) (c : Cord) (r : CordRecord) : State := s.setMc (s.mc.withCord c r)

/-- A change of the pin level (R12): it starts the debounce timer, or stops it when the pin returns to the debounced
level. Before the input is armed the debounced level is RELEASED and a high pin is timed for arming, so every change
starts the timer afresh. -/
def CordRecord.pinChange (r : CordRecord) (high : Bool) : CordRecord :=
  if high = r.pinHigh then r
  else { r with pinHigh := high, debouncing := !r.armed || (high == r.pressed) }

/-- A release (R14): press time returns to 0 and Hold taken to no. -/
def CordRecord.released (r : CordRecord) : CordRecord :=
  { r with debouncing := false, pressed := false, pressTime := 0, holdTaken := false }

/-- An accepted press (R13). -/
def CordRecord.accepted (r : CordRecord) : CordRecord :=
  { r with debouncing := false, pressed := true, pressTime := 0, holdTaken := false }

/-- The press that ends is a short press (R14): below 3000 ms, and it has posted no PURGE. -/
def CordRecord.shortPress (r : CordRecord) : Bool := r.pressed && decide (r.pressTime < 3000) && !r.holdTaken

/-- A short press acts on the input's reserved slot as it stands (R14). -/
def State.shortPress (s : State) (c : Cord) : State :=
  match s.da.table.slot (.cord c) with
  | none => s.post (.cord c) .boost 3 (some s.settings.pullcordDuration)
  | some _ => s.removeAny (.cord c)

/-- The debounce timer of an input expires (R12 to R14). -/
def State.debounceExpired (s : State) (c : Cord) : State :=
  let r := s.mc.cord c
  if !r.debouncing then s
  else if r.pinHigh then
    if r.pressed then
      let t := s.withCord c r.released
      if r.shortPress then t.shortPress c else t
    else s.withCord c { r with debouncing := false, armed := true }
  else if r.armed && !r.pressed then s.withCord c r.accepted
  else s.withCord c { r with debouncing := false }

/-- The press of an input has lasted 3000 ms (R15). -/
def State.longHold (s : State) (c : Cord) : State :=
  let r := s.mc.cord c
  if r.pressed && !r.holdTaken then
    (s.withCord c { r with pressTime := 3000, holdTaken := true }).post (.cord c) .purge 4 (some 900)
  else s

/-- PULLCORD_PIN_CHANGE (R12). While a master reset holds the input, the pin moves and no timer starts. -/
def execPullcordPinChange (cord : Cord) (high : Bool) (s : State) : Host.Outcome State Fault Refusal :=
  done (match s.phase with
    | .held => s.withCord cord { s.mc.cord cord with pinHigh := high }
    | _ => s.withCord cord ((s.mc.cord cord).pinChange high))

/-- DEBOUNCE_EXPIRY (R12). -/
def execDebounceExpiry (cord : Cord) (s : State) : Host.Outcome State Fault Refusal :=
  done (s.unlessHeld fun s => s.debounceExpired cord)

/-- LONG_HOLD (R15). -/
def execLongHold (cord : Cord) (s : State) : Host.Outcome State Fault Refusal :=
  done (s.unlessHeld fun s => s.longHold cord)

end Sys2Proof.Machine
end

