-- ==== Sys2Proof/Machine/Clock.lean ====
section
/-! DEFINITION. The second that passes when no command waits. The part's timers are rows of the table at their expiry;
what some of them show of the time left, or gone by, in between has no row, and moves here (log entry 9). -/

namespace Sys2Proof.Machine

/-- A remaining time one second later. It stays above 0: reaching 0 is the timer's expiry, which is a command. -/
def countDown (o : Option Nat) : Option Nat := o.map fun n => if 2 ≤ n then n - 1 else n

/-- A fan's hold-off, retry wait and start time (3.2). -/
def FanRecord.secondPasses (f : FanRecord) : FanRecord :=
  { f with wait := countDown f.wait, startTime := countDown f.startTime }

/-- A filter change's deadline (6.1). -/
def FilterRecord.secondPasses (f : FilterRecord) : FilterRecord := { f with deadline := countDown f.deadline }

/-- An input's press time in milliseconds (1.6). It stays below 3000: reaching 3000 is the long hold, which is a
command (R15). -/
def CordRecord.secondPasses (r : CordRecord) : CordRecord :=
  if r.pressed && !r.holdTaken then { r with pressTime := max r.pressTime (min 2999 (r.pressTime + 1000)) } else r

/-- One second without a command. A master reset holds every timer (R184, R185). -/
def State.secondPasses (s : State) : State :=
  s.unlessHeld fun s =>
    ((s.setAe { s.ae with supply := s.ae.supply.secondPasses, extract := s.ae.extract.secondPasses }).setFm
      { supply := s.fm.supply.secondPasses, extract := s.fm.extract.secondPasses }).setMc
      { s.mc with kitchen := s.mc.kitchen.secondPasses, bathroom := s.mc.bathroom.secondPasses }

end Sys2Proof.Machine
end

