-- ==== Sys2Proof/Machine/Fans.lean ====
section
/-! DEFINITION. The airflow engine (Chapter 3): tacho, fan states, commands, ramp, curve, compensation, speed loop, the
control step and the fans' own timers; with it the pre-heater's interlock, which follows the supply fan (R88, R89). -/

namespace Sys2Proof.Machine

/-! ## Tacho and measured speed (R42) -/

/-- The control step's period in microseconds (R44; log entry 12). -/
def stepMicros : Int := 1000000

/-- A pulse noted `at` microseconds after the latest control step: the period since the pulse before it belongs to
this one (R42). -/
def Tacho.pulse (t : Tacho) (micros : Nat) : Tacho :=
  match t.latest with
  | none => { t with latest := some micros }
  | some before =>
    { latest := some micros
      periodSum := t.periodSum + ((micros : Int) - before).toNat
      periodCount := t.periodCount + 1 }

/-- The notes as the next control step's second begins. -/
def Tacho.shift (t : Tacho) : Tacho :=
  { latest := t.latest.map (· - stepMicros), periodSum := 0, periodCount := 0 }

/-- At a control step, the latest pulse is 2 s old or more, or no pulse has been seen (R42, R52). -/
def Tacho.silent (t : Tacho) : Bool :=
  match t.latest with
  | none => true
  | some at0 => decide (2 * stepMicros ≤ stepMicros - at0)

/-- The mean of the periods of the last second is 0 µs: R42 gives no quotient (log entry 1). -/
def Tacho.meanZero (t : Tacho) : Bool := t.periodCount != 0 && t.periodSum / t.periodCount == 0

/-- The measured speed at a control step (R42); `free` stands for the quotient by a mean of 0. -/
def Tacho.speed (t : Tacho) (previous free : Nat) : Nat :=
  if t.periodCount = 0 then (if t.silent then 0 else previous)
  else if t.meanZero then min free 6000
  else min (30000000 / (t.periodSum / t.periodCount)) 6000

/-! ## State changes of one fan -/

/-- The fields that every leaving of RUNNING or STARTING sets: duty and Q_r 0, loop and saturation cleared (R51,
R53). -/
def FanRecord.cleared (f : FanRecord) : FanRecord :=
  { f with
    duty := 0
    qr := 0
    speedTarget := 0
    ePrev := 0
    remainder := 0
    startTime := none
    runningTime := 0
    curveLimit := false
    saturation := 0
    flowLimited := false }

/-- Entry to HOLDOFF (R51). -/
def FanRecord.enterHoldoff (f : FanRecord) (holdoff : Nat) : FanRecord :=
  { f.cleared with state := .holdoff, wait := some holdoff }

/-- Entry to STARTING (R49): start duty 300, start time 10 s. -/
def FanRecord.enterStarting (f : FanRecord) : FanRecord :=
  { f with state := .starting, duty := 300, qr := 0, wait := none, startTime := some 10 }

/-- Entry to RUNNING (R50). -/
def FanRecord.enterRunning (f : FanRecord) : FanRecord :=
  { f with state := .running, startTime := none, remainder := 0, runningTime := 0 }

/-- Entry to STALLED, and at the third stall on to LOCKED_OUT (R53). -/
def FanRecord.enterStalled (f : FanRecord) (holdoff : Nat) : FanRecord :=
  if f.retries + 1 < 3 then
    { f.cleared with state := .stalled, retries := f.retries + 1, wait := some (max 30 holdoff) }
  else { f.cleared with state := .lockedOut, retries := f.retries + 1, wait := none }

/-- The stall flag of a fan (R53). -/
def stallFlag : Side → Flag
  | .supply => .supStall
  | .extract => .extStall

/-- The lockout flag of a fan (R53). -/
def lockoutFlag : Side → Flag
  | .supply => .supLockout
  | .extract => .extLockout

/-- The stall counter of a fan (R53). -/
def stallCounter : Side → Counter
  | .supply => .supStalls
  | .extract => .extStalls

/-! ## Ports (R41, R65) -/

/-- The duties applied to the ports by role (R41). -/
def Airflow.drive (ae : Airflow) (rightHanded : Bool) : Airflow :=
  { ae with
    dutyA := if rightHanded then ae.extract.duty else ae.supply.duty
    dutyB := if rightHanded then ae.supply.duty else ae.extract.duty }

/-- One fan replaced, and its duty applied to the port that carries it. -/
def State.withFan (s : State) (side : Side) (f : FanRecord) : State :=
  s.setAe ((s.ae.withFan side f).drive s.rightHanded)

/-- One fan stalls: its record, its flags and its counter (R53). -/
def State.stallFan (s : State) (side : Side) : State :=
  let f := (s.ae.fan side).enterStalled s.settings.holdoffTime
  let t := ((s.withFan side f).raise (stallFlag side)).count (stallCounter side)
  if f.state = .lockedOut then t.raise (lockoutFlag side) else t

/-! ## The pre-heater's window (R88, R89) -/

/-- A window starts (R88): the output is on for the on-time of the proportion. -/
def Preheat.startWindow (proportion : Nat) : Preheat :=
  let onTime := proportion * 60 / 1000
  { windowRunning := true, onTime := onTime, output := decide (0 < onTime) }

/-- The pre-heater follows the supply fan's entry to RUNNING and its leaving (R88, R89); without a pre-heater the
output is held off (R87). -/
def State.followSupply (s : State) (before : FanState) : State :=
  let after := s.ae.supply.state
  if after ≠ .running then s.setPreheat Preheat.initial
  else if before ≠ .running && s.preheaterFitted then s.setPreheat (Preheat.startWindow s.fg.proportion)
  else s

/-! ## Stage 1 (R42, R50, R52) -/

/-- The measured speed recomputed, and the tacho's notes moved on. -/
def FanRecord.measure (f : FanRecord) (free : Nat) : FanRecord :=
  { f with measured := f.tacho.speed f.measured free, tacho := f.tacho.shift }

/-- A RUNNING fan has stalled: no pulse for 2 s at a duty of 150 or more (R52). `silent` is judged at the step. -/
def FanRecord.hasStalled (f : FanRecord) (silent : Bool) : Bool :=
  f.state == .running && silent && decide (150 ≤ f.duty)

/-- A STARTING fan has proved (R50). -/
def FanRecord.hasProved (f : FanRecord) (provingSpeed : Nat) : Bool :=
  f.state == .starting && decide (provingSpeed ≤ f.measured)

/-- Stage 1 for one fan: speed, stall check, proving check. A free value is used for each mean of 0. -/
def State.stageMeasure (s : State) (side : Side) : State :=
  let f := s.ae.fan side
  let silent := f.tacho.silent
  let m := f.measure (Config.freeSpeed s.freeCount)
  let t := (s.withFan side m).setFreeCount (if f.tacho.meanZero then s.freeCount + 1 else s.freeCount)
  if m.hasStalled silent then t.stallFan side
  else if m.hasProved s.settings.provingSpeed then t.withFan side m.enterRunning
  else t

/-! ## Stage 2: the commands (R46, R47, R48) -/

/-- The extract command (R46). -/
def extractCommand (set : Settings) (plan : FlowPlan) (frost : FrostState) (supply extract : FanState) : Nat :=
  if extract = .lockedOut then 0
  else
    let raised :=
      if frost = .defrost ∧ 0 < plan.target then max plan.target (min set.defrostExtract plan.ceiling)
      else plan.target
    if supply = .lockedOut ∨ frost = .frostHold then min raised set.unbalancedCeiling else raised

/-- The supply command before R48 (R47). -/
def supplyProduct (set : Settings) (frost : FrostState) (fraction : Nat) (supply extract : FanState) (qce : Nat) :
    Nat :=
  if extract ≠ .running ∨ supply = .lockedOut ∨ frost = .defrost ∨ frost = .frostHold then 0
  else qce * set.balance * fraction / 1000000

/-- The supply command: below the supply curve's first flow it is 0 (R48). -/
def supplyCommand (set : Settings) (frost : FrostState) (fraction : Nat) (supply extract : FanState) (qce : Nat) :
    Nat :=
  let q := supplyProduct set frost fraction supply extract qce
  if q < set.supplyCurve.flows[0] then 0 else q

/-- Stage 2: both commands computed and written; until the measurements are ready both are 0 (R44). -/
def State.stageCommands (s : State) : State :=
  let sup := s.ae.supply.state
  let ext := s.ae.extract.state
  let qce := if s.mc.ready then extractCommand s.settings s.da.plan s.fg.state sup ext else 0
  let qcs := if s.mc.ready then supplyCommand s.settings s.fg.state s.fg.fraction sup ext qce else 0
  s.setAe { s.ae with supply := { s.ae.supply with qc := qcs }, extract := { s.ae.extract with qc := qce } }

/-! ## Stage 3: moves by command (R49, R51) -/

/-- The fan moved by its command. -/
def FanRecord.move (f : FanRecord) (holdoff : Nat) : FanRecord :=
  match f.state with
  | .running | .starting => if f.qc = 0 then f.enterHoldoff holdoff else f
  | .stopped => if 0 < f.qc then f.enterStarting else f
  | _ => f

/-! ## Stages 4 and 5: ramp and clip (R58, R59) -/

/-- A flow moved toward a command by at most `rate`. -/
def ramp (rate q qc : Nat) : Nat := if q < qc then min (q + rate) qc else max (q - rate) qc

/-- The ramp of a RUNNING fan (R58). -/
def FanRecord.ramped (f : FanRecord) (rate : Nat) : FanRecord :=
  if f.state = .running then { f with qr := ramp rate f.qr f.qc } else f

/-! ## Stage 6: curve and compensation (R60, R61) -/

/-- The curve's points. -/
def Curve.points (c : Curve) : List (Nat × Nat) := c.flows.toList.zip c.speeds.toList

/-- The speed on the segment from one point to the next (R60). -/
def interpolate (p r : Nat × Nat) (q : Nat) : Nat := p.2 + (q - p.1) * (r.2 - p.2) / (r.1 - p.1)

/-- The speed from the points after `p`, for a flow above `p`, and whether the flow lies above the last (R60). -/
def curveFrom (q : Nat) (p : Nat × Nat) : List (Nat × Nat) → Nat × Bool
  | [] => (p.2, true)
  | r :: l => if q ≤ r.1 then (interpolate p r q, false) else curveFrom q r l

/-- The curve speed at a flow, and the curve limit (R60). -/
def Curve.speedAt (c : Curve) (q : Nat) : Nat × Bool :=
  match c.points with
  | [] => (0, false)
  | p :: l => if q ≤ p.1 then (p.2, false) else curveFrom q p l

/-- The excess pressure over the clean filter's at the applied flow (R61): 0 where the channel is FAILED or there is no
clean reference. -/
def excessPressure (qref : Nat) (dpClean : Option Nat) (pressure : Channel) (qr : Nat) : Nat :=
  match dpClean with
  | none => 0
  | some dp =>
    if pressure.state = .failed then 0
    else (pressure.filtered - ((dp * qr * qr / (qref * qref) : Nat) : Int)).toNat

/-- The target speed S′ (R61). -/
def compensate (gain speed excess : Nat) : Nat := min 6000 (speed + excess * gain / 16)

/-- Stage 6 for one fan. -/
def FanRecord.target (f : FanRecord) (set : Settings) (curve : Curve) (dpClean : Option Nat) (pressure : Channel) :
    FanRecord :=
  if f.state = .running then
    let c := curve.speedAt f.qr
    { f with
      speedTarget := compensate set.compGain c.1 (excessPressure set.qref dpClean pressure f.qr)
      curveLimit := c.2 }
  else f

/-! ## Stage 7: speed loop, saturation, running time (R55, R62, R63, R64) -/

/-- The speed error of a step. -/
def FanRecord.error (f : FanRecord) : Int := (f.speedTarget : Int) - f.measured

/-- The sum of the loop (R62). -/
def loopSum (kp ki : Nat) (e ePrev remainder : Int) : Int := kp * (e - ePrev) + ki * e + remainder

/-- The loop stepped (R62), with the duty kept from 100 to 1000 and the remainder dropped at a limit (R63). -/
def FanRecord.stepLoop (f : FanRecord) (kp ki : Nat) : FanRecord :=
  let num := loopSum kp ki f.error f.ePrev f.remainder
  let step := num.tdiv 1024
  let duty := (f.duty : Int) + step
  if 1000 < duty then { f with duty := 1000, remainder := 0, ePrev := f.error }
  else if duty < 100 then { f with duty := 100, remainder := 0, ePrev := f.error }
  else { f with duty := duty.toNat, remainder := num - step * 1024, ePrev := f.error }

/-- The saturation count and the flow-limited indication (R64). -/
def FanRecord.assessSaturation (f : FanRecord) : FanRecord :=
  if f.duty = 1000 ∧ f.measured < f.speedTarget then
    let n := min 30 (f.saturation + 1)
    { f with saturation := n, flowLimited := f.flowLimited || n == 30 }
  else { f with saturation := 0, flowLimited := false }

/-- The running time, and the retry count cleared at 600 (R55). -/
def FanRecord.advanceRunning (f : FanRecord) : FanRecord :=
  let n := min 600 (f.runningTime + 1)
  { f with runningTime := n, retries := if n = 600 then 0 else f.retries }

/-- Stage 7 for one fan: `wasRunning` says that it was RUNNING at the start of the step. A fan that has just proved
takes its error and keeps its duty (R50). -/
def FanRecord.stageLoop (f : FanRecord) (set : Settings) (wasRunning : Bool) : FanRecord :=
  if f.state ≠ .running then f
  else if wasRunning then (f.stepLoop set.kp set.ki).assessSaturation.advanceRunning
  else { f with ePrev := f.error }

/-! ## The control step (R45) -/

/-- Stages 3 to 7 on both fans. -/
def Airflow.stages (ae : Airflow) (set : Settings) (fm : Filters) (mc : Measurement) (supplyWas extractWas : Bool) :
    Airflow :=
  let sup := (ae.supply.move set.holdoffTime).ramped set.rampRate
  let ext := (ae.extract.move set.holdoffTime).ramped set.rampRate
  let sup := { sup with qr := min sup.qr ext.qr }
  let sup := sup.target set set.supplyCurve fm.supply.dpClean mc.channels[chDpSf]
  let ext := ext.target set set.extractCurve fm.extract.dpClean mc.channels[chDpEf]
  { ae with supply := sup.stageLoop set supplyWas, extract := ext.stageLoop set extractWas }

/-- The FLOW_LIMITED flag for a fan whose indication has just been set (R64). -/
def State.reportLimited (s : State) (before after : FanRecord) : State :=
  if after.flowLimited && !before.flowLimited then s.raise .flowLimited else s

/-- Stages 1 and 2. -/
def State.stepCommands (s : State) : State :=
  ((s.stageMeasure .supply).stageMeasure .extract).stageCommands

/-- Stages 3 to 8 on a state `t` that stages 1 and 2 left of `s`. -/
def State.stepFlows (t s : State) : State :=
  let ae := t.ae.stages t.settings t.fm t.mc (s.ae.supply.state == .running) (s.ae.extract.state == .running)
  ((((t.setAe (ae.drive t.rightHanded)).reportLimited t.ae.supply ae.supply).reportLimited t.ae.extract
    ae.extract)).followSupply s.ae.supply.state

/-- One control step (R45). -/
def State.controlStep (s : State) : State := s.stepCommands.stepFlows s

/-- TACHO_PULSE (R42). -/
def execTachoPulse (port : FanPort) (micros : Nat) (s : State) : Host.Outcome State Fault Refusal :=
  done (s.unlessHeld fun s =>
    let side := s.roleOf port
    let f := s.ae.fan side
    s.setAe (s.ae.withFan side { f with tacho := f.tacho.pulse micros }))

/-- CONTROL_STEP (R45). -/
def execControlStep (s : State) : Host.Outcome State Fault Refusal :=
  done (s.unlessHeld State.controlStep)

/-! ## The fans' own timers (R50, R51, R54) -/

/-- HOLDOFF_EXPIRY (R51): a fan in HOLDOFF enters STOPPED. -/
def execHoldoffExpiry (fan : Side) (s : State) : Host.Outcome State Fault Refusal :=
  done (s.unlessHeld fun s =>
    let f := s.ae.fan fan
    if f.state = .holdoff then s.withFan fan { f with state := .stopped, wait := none } else s)

/-- START_TIME_EXPIRY (R50): a fan still STARTING enters STALLED. -/
def execStartTimeExpiry (fan : Side) (s : State) : Host.Outcome State Fault Refusal :=
  done (s.unlessHeld fun s => if (s.ae.fan fan).state = .starting then s.stallFan fan else s)

/-- RETRY_WAIT_EXPIRY (R54): the command of the latest control step decides where a STALLED fan goes. -/
def execRetryWaitExpiry (fan : Side) (s : State) : Host.Outcome State Fault Refusal :=
  done (s.unlessHeld fun s =>
    let f := s.ae.fan fan
    if f.state = .stalled then
      s.withFan fan (if 0 < f.qc then f.enterStarting else { f with state := .stopped, wait := none })
    else s)

/-- CLEAR_LOCKOUT(supply) or CLEAR_LOCKOUT(extract) at the engine (R56). -/
def State.clearLockoutFan (s : State) (side : Side) : State × RequestOutcome :=
  let f := s.ae.fan side
  if f.state = .lockedOut then
    (s.withFan side { f.enterHoldoff s.settings.holdoffTime with retries := 0, runningTime := 0 }, .done)
  else (s, .doneNothing)

/-- PREHEAT_WINDOW_START (R88): while the supply fan is RUNNING and a pre-heater is fitted. -/
def execPreheatWindowStart (s : State) : Host.Outcome State Fault Refusal :=
  done (s.unlessHeld fun s =>
    if s.ae.supply.state = .running && s.preheaterFitted then s.setPreheat (Preheat.startWindow s.fg.proportion)
    else s)

/-- PREHEAT_ON_TIME_END (R88): the output goes off for the rest of the window; at an on-time of 60 s it stays on across
the window's end. -/
def execPreheatOnTimeEnd (s : State) : Host.Outcome State Fault Refusal :=
  done (s.unlessHeld fun s =>
    if s.preheat.windowRunning && decide (s.preheat.onTime < 60) then s.setPreheat { s.preheat with output := false }
    else s)

end Sys2Proof.Machine
end

