-- ==== Sys2Proof/Machine/Operands.lean ====
section
/-! DEFINITION. The request record (7.1) and how it is formed from a kind code and parameter bytes (12.2, R193), for the
local port's request block and for an ASK. -/

namespace Sys2Proof.Machine

/-- A request record (7.1), with every number as it arrived. The class is `classOf source` (R131). -/
structure Request where
  code : Byte
  source : Master
  demand : DemandParams
  namedKind : Option Byte
  filterId : Option Byte
  target : Option Byte
  channel : Option Byte
  mode : Option Byte
  settingId : Option Word16
  value : Option Word16
  season : Option Byte
deriving DecidableEq, Repr

/-- A record with every parameter absent. -/
def Request.bare (code : Byte) (source : Master) : Request where
  code := code
  source := source
  demand := { level := none, flow := none, duration := none }
  namedKind := none
  filterId := none
  target := none
  channel := none
  mode := none
  settingId := none
  value := none
  season := none

/-- Presence bit `n` of P0; with no P0 received no parameter is present (R193). -/
def presence (p : List Byte) (n : Nat) : Bool :=
  match p[0]? with
  | none => false
  | some b => b.getLsbD n

/-- A one-byte parameter at P`i` with presence bit `n` (R193). -/
def param8 (p : List Byte) (n i : Nat) : Option Byte := if presence p n then p[i]? else none

/-- A two-byte parameter at P`i` and the byte after it with presence bit `n`: absent if either byte was cut off (R193). -/
def param16 (p : List Byte) (n i : Nat) : Option Word16 :=
  match param8 p n i, param8 p n (i + 1) with
  | some lo, some hi => some (wordOf lo hi)
  | _, _ => none

/-- The kind's code names a demand kind. -/
def isDemandCode (code : Byte) : Bool := (DemandKind.ofCode code).isSome

/-- The record formed from the parameter bytes received, P0 first (12.2, R193). A byte after P7 is disregarded. -/
def Request.ofParams (source : Master) (code : Byte) (params : List Byte) : Request :=
  let p := params.take 8
  let r := Request.bare code source
  match RequestKind.ofCode code with
  | some .base | some .boost | some .away | some .purge | some .quiet | some .shutdown =>
    { r with demand := { level := param8 p 0 1, flow := param16 p 1 2, duration := param16 p 2 4 } }
  | some .withdraw => { r with namedKind := param8 p 0 1 }
  | some .filterBegin | some .filterDone | some .filterAbandon => { r with filterId := param8 p 0 1 }
  | some .clearLockout => { r with target := param8 p 0 1 }
  | some .inject => { r with channel := param8 p 0 1, mode := param8 p 1 2 }
  | some .writeSetting => { r with settingId := param16 p 0 1, value := param16 p 1 3 }
  | some .setSeason => { r with season := param8 p 0 1 }
  | some .storeSettings | some .clearCounters | none => r

/-- The level and duration of a demand byte, the short form (12.1, R193). -/
def shortForm (b : Byte) : DemandParams where
  level := if b >>> 5 = 7 then none else some (b >>> 5)
  flow := none
  duration := if b &&& 0x1F = 0 then none else some ((b &&& 0x1F).setWidth 16 * 60)

/-- The record formed from an ASK payload (R153, R193): the kind code, then P0 to P7; for a demand kind a payload of
exactly two bytes is the short form. -/
def Request.ofAsk (source : Master) (payload : List Byte) : Request :=
  match payload with
  | [] => Request.bare 0 source
  | [code, b] =>
    if isDemandCode code then { Request.bare code source with demand := shortForm b }
    else Request.ofParams source code [b]
  | code :: params => Request.ofParams source code params

end Sys2Proof.Machine
end

