-- ==== Sys2Proof/Machine/Bypass.lean ====
section
/-! DEFINITION. The bypass damper (4.9): travels, reversals, faults, the wanted-open indication and the clearing
request. -/

namespace Sys2Proof.Machine

/-! ## Travels (R92, R93) -/

/-- The switch at the end of a travel is made. -/
def Damper.switchMade (d : Damper) : DamperEnd → Bool
  | .opened => d.openMade
  | .closed => d.closedMade

/-- A travel completes: drive off, at the end, allowance and elapsed absent (R92). -/
def Damper.complete (d : Damper) (target : DamperEnd) (travel : Nat) : Damper :=
  match target with
  | .opened => { d with state := .opened, position := travel, allowance := none, elapsed := none, drive := .off }
  | .closed => { d with state := .closed, position := 0, allowance := none, elapsed := none, drive := .off }

/-- A travel begins, with its allowance from the position estimate; it completes at once if the target's switch is
already made (R92). A reversal is the opposite travel begun from the estimate as it stands (R93). -/
def Damper.begin (d : Damper) (target : DamperEnd) (travel : Nat) : Damper :=
  if d.switchMade target then d.complete target travel
  else
    match target with
    | .opened =>
      { d with state := .opening, allowance := some (travel - d.position), elapsed := some 0, drive := .opening }
    | .closed => { d with state := .closing, allowance := some d.position, elapsed := some 0, drive := .closing }

/-- A failed travel (R94): FAULT, driven closed until the closed switch is made. -/
def Damper.fail (d : Damper) : Damper :=
  { d with
    state := .fault
    allowance := none
    elapsed := none
    drive := if d.closedMade then .off else .closing }

/-- The damper timer's expiry during a travel (R92, R94): elapsed and the estimate advance, and a travel that has
taken its allowance and 30 s more has failed. -/
def Damper.tick (d : Damper) (travel : Nat) : Damper :=
  let elapsed := d.elapsed.getD 0 + 1
  let moved : Damper :=
    { d with
      elapsed := some elapsed
      position := if d.state = .opening then min (d.position + 1) travel else min (d.position - 1) travel }
  if d.allowance.getD 0 + 30 ≤ elapsed then moved.fail else moved

/-- A travel is in progress. -/
def Damper.travelling (d : Damper) : Bool := d.state == .opening || d.state == .closing

/-- A change of bypass_travel taken at its arrival (R92). -/
def Damper.retravel (d : Damper) (travel : Nat) : Damper :=
  { d with position := if d.state = .opened then travel else min d.position travel }

/-! ## The wanted-open indication (R91) and the takeover (R96) -/

/-- What the indication is judged from. -/
structure BypassInputs where
  summer : Bool
  inactive : Bool
  etaFailed : Bool
  eta : Int
  odaFailed : Bool
  oda : Int
  comfort : Int
deriving DecidableEq, Repr

/-- All of the conditions for yes hold (R91). -/
def BypassInputs.opens (b : BypassInputs) : Bool :=
  b.summer && b.inactive && !b.etaFailed && decide (b.comfort < b.eta) && !b.odaFailed && decide (120 < b.oda) &&
    decide (b.oda < b.eta - 20)

/-- One of the conditions for no holds (R91). -/
def BypassInputs.closes (b : BypassInputs) : Bool :=
  !b.summer || !b.inactive || b.etaFailed || b.odaFailed || decide (b.eta ≤ b.comfort - 10) ||
    decide (b.eta - 10 ≤ b.oda) || decide (b.oda ≤ 110)

/-- The indication judged: otherwise it keeps its value (R91). -/
def BypassInputs.wanted (b : BypassInputs) (before : Bool) : Bool :=
  if b.opens then true else if b.closes then false else before

/-- The damper moved by the indication (R91, R93). -/
def Damper.follow (d : Damper) (wanted : Bool) (travel : Nat) : Damper :=
  match d.state, wanted with
  | .closed, true => d.begin .opened travel
  | .closing, true => d.begin .opened travel
  | .opened, false => d.begin .closed travel
  | .opening, false => d.begin .closed travel
  | _, _ => d

/-- The frost takeover when the frost state leaves INACTIVE (R96). -/
def Damper.takeover (d : Damper) (travel : Nat) : Damper :=
  match d.state with
  | .opened | .opening => d.begin .closed travel
  | _ => d

/-! ## At the state -/

/-- DAMPER_TIMER_EXPIRY (R92, R94): it runs while a travel is in progress. -/
def execDamperTimerExpiry (s : State) : Host.Outcome State Fault Refusal :=
  done (s.unlessHeld fun s =>
    if s.damper.travelling then
      let d := s.damper.tick s.settings.bypassTravel
      let t := s.setDamper d
      if d.state = .fault then t.raise .bypassFault else t
    else s)

/-- An end switch input moves; a switch that becomes made completes the travel toward its end, or stops the drive of a
FAULT damper at the closed end (R92, R94). Without a damper the inputs are not read (R90). -/
def Damper.switched (d : Damper) (sw : DamperEnd) (made : Bool) (travel : Nat) (fitted : Bool) : Damper :=
  let e : Damper := match sw with
    | .opened => { d with openMade := made }
    | .closed => { d with closedMade := made }
  if !made || !fitted then e
  else
    match sw, d.state with
    | .opened, .opening => e.complete .opened travel
    | .closed, .closing => e.complete .closed travel
    | .closed, .fault => { e with drive := .off }
    | _, _ => e

/-- END_SWITCH_MADE (R92). From a master reset to the load the record is CLOSED (R90), so that only the input moves. -/
def execEndSwitchMade (sw : DamperEnd) (made : Bool) (s : State) : Host.Outcome State Fault Refusal :=
  done (s.setDamper (s.damper.switched sw made s.settings.bypassTravel s.damperFitted))

/-- CLEAR_LOCKOUT(bypass) at the frost guard (R95). -/
def State.clearLockoutBypass (s : State) : State × RequestOutcome :=
  if !s.damperFitted then (s, .notApplicable)
  else if s.damper.state = .fault then
    let travel := s.settings.bypassTravel
    (s.setDamper ({ s.damper with position := travel }.begin .closed travel), .done)
  else (s, .doneNothing)

/-- The damper record at the load's completion (R90). -/
def Damper.afterLoad (d : Damper) (fitted : Bool) (travel : Nat) : Damper :=
  let atRest : Damper := Damper.initial d.openMade d.closedMade
  if !fitted || d.closedMade then atRest else { atRest with position := travel }.begin .closed travel

end Sys2Proof.Machine
end

