-- ==== Sys2Proof/Machine/Frost.lean ====
section
/-! DEFINITION. The frost guard (4.1 to 4.8): the frost limit, cold marks, the rules of the frost states, the pause, the
fallback, and the evaluation as a whole with the bypass and the pre-heater that follow it. -/

namespace Sys2Proof.Machine

/-! ## What an evaluation reads (R68) -/

/-- The values of other blocks as they stand at the evaluation. -/
structure FrostInputs where
  set : Settings
  oda : Channel
  eta : Channel
  eha : Channel
  rh : Channel
  dpCore : Channel
  dewPoint : Option Int
  extractRunning : Bool
  extractQr : Nat
  preheater : Bool
deriving DecidableEq, Repr

/-- The channel is FAILED. -/
def Channel.isFailed (c : Channel) : Bool := c.state == .failed

/-- "T_ODA is cold" (R73). -/
def FrostInputs.cold (i : FrostInputs) : Bool := i.oda.isFailed || decide (i.oda.filtered < i.set.frostEnable)

/-- "T_ODA is warm" (R73). -/
def FrostInputs.warm (i : FrostInputs) : Bool :=
  !i.oda.isFailed && decide (i.set.frostEnable + 10 ≤ i.oda.filtered)

/-- The adder to frost_base_limit (R70). -/
def FrostInputs.adder (i : FrostInputs) : Int :=
  if i.rh.isFailed || i.eta.isFailed then 20
  else
    match i.dewPoint with
    | none => 20
    | some td => if 100 ≤ td then min 20 ((td - 100).tdiv 4) else 0

/-- A record with the flags that its changes raise, in order. -/
structure Guarded where
  record : FrostRecord
  flags : List Flag
deriving DecidableEq, Repr

/-- A record changed without a flag. -/
def quietly (r : FrostRecord) : Guarded := ⟨r, []⟩

/-! ## Cold marks and the core reference (R71, R72) -/

/-- The mark of an evaluation (R71). -/
def FrostInputs.coldMark (i : FrostInputs) (r : FrostRecord) : Bool :=
  decide (i.eha.filtered < r.limit) ||
    match r.coreRef with
    | none => false
    | some c => !i.dpCore.isFailed && decide (i.extractQr ≤ c.flow) &&
        decide ((c.pressure * 3).tdiv 2 < i.dpCore.filtered)

/-- The core reference after an entry to WATCH (R72). -/
def FrostInputs.reference (i : FrostInputs) (r : FrostRecord) : Option CoreReference :=
  if i.extractRunning && decide (i.set.qmin ≤ i.extractQr) && i.dpCore.state == .valid &&
      decide (5 ≤ i.dpCore.filtered) then
    some { pressure := i.dpCore.filtered, flow := i.extractQr }
  else r.coreRef

/-- The window meets k_frost (R71). -/
def FrostInputs.meets (i : FrostInputs) (r : FrostRecord) : Bool := decide (i.set.kFrost ≤ marks r.window)

/-! ## Entries to the states -/

/-- Entry to WATCH from another state, with the core reference recorded (R72). -/
def FrostInputs.enterWatch (i : FrostInputs) (r : FrostRecord) : FrostRecord :=
  { r with state := .watch, fraction := 1000, proportion := 0, coreRef := i.reference r }

/-- Entry to INACTIVE at an unpaused evaluation (R73, R83, R84). -/
def enterInactive (r : FrostRecord) : FrostRecord :=
  { r with state := .inactive, window := [], fraction := 1000, proportion := 0, fallbackCycle := none }

/-- The fields of a defrost made absent at its end. -/
def endDefrost (r : FrostRecord) : FrostRecord := { r with origin := none, defrostElapsed := none }

/-- Entry to DEFROST, of either origin (R76). -/
def enterDefrost (origin : DefrostOrigin) (r : FrostRecord) : FrostRecord :=
  { r with
    state := .defrost
    origin := some origin
    fraction := 0
    proportion := 0
    window := []
    defrostElapsed := some 0
    history := pushWindow 4 0 r.history }

/-- Entry to FROST_HOLD (R79). -/
def FrostInputs.enterHold (i : FrostInputs) (r : FrostRecord) : FrostRecord :=
  { r with
    state := .frostHold
    fraction := 0
    proportion := 0
    window := []
    holdElapsed := some 0
    holdEntryOda := if i.oda.isFailed then none else some i.oda.filtered }

/-- Entry to RECOVER (R78). -/
def FrostInputs.enterRecover (i : FrostInputs) (r : FrostRecord) : FrostRecord :=
  { r with state := .recover, fraction := i.set.minFraction, proportion := 0, window := [] }

/-- The table fraction for the filtered T_ODA (4.6). -/
def FrostInputs.tableFraction (i : FrostInputs) : Nat :=
  if i.oda.isFailed then i.set.minFraction
  else if 0 ≤ i.oda.filtered then 1000
  else if -50 ≤ i.oda.filtered then 800
  else if -100 ≤ i.oda.filtered then 600
  else i.set.minFraction

/-- The cold regime: T_ODA FAILED or below −100 (4.6). -/
def FrostInputs.coldRegime (i : FrostInputs) : Bool := i.oda.isFailed || decide (i.oda.filtered < -100)

/-- The fraction and proportion of FALLBACK (R82). -/
def FrostInputs.fallbackValues (i : FrostInputs) (r : FrostRecord) : FrostRecord :=
  { r with
    fraction := max i.tableFraction i.set.minFraction
    proportion := if i.preheater && decide (i.tableFraction < 1000) then 1000 else 0 }

/-- Entry to FALLBACK (R81); the cycle count is left to the next evaluation (DEDUCED, log entry 15). -/
def FrostInputs.enterFallback (i : FrostInputs) (r : FrostRecord) : FrostRecord :=
  i.fallbackValues { r with state := .fallback, window := [] }

/-! ## Escalation and step back (R74, R75, R76) -/

/-- A defrost falls due in PROTECT: the fourth start within 60 minutes becomes a frost hold (R76, R79). -/
def FrostInputs.defrostDue (i : FrostInputs) (r : FrostRecord) : Guarded :=
  if 3 ≤ r.history.length then ⟨i.enterHold r, [.frostHoldEntered]⟩ else ⟨enterDefrost .normal r, [.defrostStarted]⟩

/-- One escalation step (R74). -/
def FrostInputs.escalate (i : FrostInputs) (r : FrostRecord) : Guarded :=
  if i.preheater && decide (r.proportion < 1000) then quietly { r with proportion := r.proportion + 200 }
  else if i.set.minFraction < r.fraction then
    quietly { r with fraction := max i.set.minFraction (r.fraction - i.set.frostStep) }
  else i.defrostDue r

/-- Entry to PROTECT with one escalation step (R74, R78). -/
def FrostInputs.enterProtect (i : FrostInputs) (r : FrostRecord) : Guarded :=
  let g := i.escalate { r with state := .protect }
  ⟨g.record, .protectEntered :: g.flags⟩

/-- The fraction raised by frost_step, up to 1000. -/
def FrostInputs.raised (i : FrostInputs) (r : FrostRecord) : Nat := min 1000 (r.fraction + i.set.frostStep)

/-- One step back in PROTECT (R75). -/
def FrostInputs.stepBack (i : FrostInputs) (r : FrostRecord) : FrostRecord :=
  let stepped : FrostRecord :=
    if r.fraction < 1000 then { r with fraction := i.raised r } else { r with proportion := r.proportion - 200 }
  if stepped.fraction = 1000 ∧ stepped.proportion = 0 then i.enterWatch stepped else stepped

/-! ## The rule of each state (stage 5) -/

/-- INACTIVE (R73). -/
def FrostInputs.ruleInactive (i : FrostInputs) (r : FrostRecord) : Guarded :=
  if i.cold then
    if i.eha.isFailed then ⟨i.enterFallback r, [.guardFallback]⟩ else quietly (i.enterWatch r)
  else quietly r

/-- WATCH (R73, R74). -/
def FrostInputs.ruleWatch (i : FrostInputs) (r : FrostRecord) : Guarded :=
  if i.meets r then i.enterProtect r
  else if i.warm && isClear r.window then quietly (enterInactive r)
  else quietly r

/-- PROTECT (R75). -/
def FrostInputs.ruleProtect (i : FrostInputs) (r : FrostRecord) : Guarded :=
  if i.meets r then i.escalate r else if isClear r.window then quietly (i.stepBack r) else quietly r

/-- DEFROST of origin NORMAL (R77). -/
def FrostInputs.ruleDefrostNormal (i : FrostInputs) (r : FrostRecord) : Guarded :=
  let elapsed := r.defrostElapsed.getD 0
  if 3 * i.set.defrostTime ≤ elapsed then ⟨i.enterRecover (endDefrost r), [.defrostUnresolved]⟩
  else if i.set.defrostTime ≤ elapsed ∧ i.eha.isFailed then ⟨i.enterFallback (endDefrost r), [.guardFallback]⟩
  else if i.set.defrostTime ≤ elapsed ∧ r.limit + i.set.exitMargin ≤ i.eha.filtered then
    quietly (i.enterRecover (endDefrost r))
  else quietly r

/-- DEFROST of origin FALLBACK (R83). -/
def FrostInputs.ruleDefrostFallback (i : FrostInputs) (r : FrostRecord) : Guarded :=
  if r.defrostElapsed.getD 0 < 600 then quietly r
  else if i.warm then quietly (enterInactive (endDefrost r))
  else if !i.eha.isFailed then
    quietly (i.enterWatch { endDefrost r with window := [], fallbackCycle := none })
  else quietly (i.enterFallback (endDefrost r))

/-- RECOVER (R78). -/
def FrostInputs.ruleRecover (i : FrostInputs) (r : FrostRecord) : Guarded :=
  if i.meets r then i.enterProtect r
  else if isClear r.window then
    let up : FrostRecord := { r with fraction := i.raised r }
    quietly (if up.fraction = 1000 then i.enterWatch up else up)
  else quietly r

/-- FALLBACK: left first (R84), then the fraction and proportion (R82), then the periodic defrost (R83). -/
def FrostInputs.ruleFallback (i : FrostInputs) (r : FrostRecord) : Guarded :=
  if i.warm then quietly (enterInactive r)
  else if !i.eha.isFailed then quietly (i.enterWatch { r with window := [], fallbackCycle := none })
  else
    let f := i.fallbackValues r
    if i.coldRegime then
      match f.fallbackCycle with
      | none => quietly { f with fallbackCycle := some 0 }
      | some n =>
        if 3600 ≤ n then ⟨enterDefrost .fallback { f with fallbackCycle := some 0 }, [.defrostStarted]⟩ else quietly f
    else quietly { f with fallbackCycle := none }

/-! ## Pause (R80) and the end of a hold (R79) -/

/-- The pause (R80). -/
def FrostInputs.pause (i : FrostInputs) (r : FrostRecord) : FrostRecord :=
  { endDefrost r with
    state := if !i.oda.isFailed && decide (i.set.frostEnable ≤ i.oda.filtered) then .inactive else .watch
    window := []
    fraction := 1000
    proportion := 0
    fallbackCycle := none
    paused := true }

/-- The hold ends (R79): T_ODA has risen by 20 after 3600 s, or 14400 s have passed. -/
def FrostInputs.holdEnds (i : FrostInputs) (r : FrostRecord) : Bool :=
  let elapsed := r.holdElapsed.getD 0
  decide (14400 ≤ elapsed) ||
    (decide (3600 ≤ elapsed) && !i.oda.isFailed &&
      match r.holdEntryOda with
      | none => false
      | some entry => decide (entry + 20 ≤ i.oda.filtered))

/-- FROST_HOLD (R79); an end with the extract fan stopped takes the whole pause (DEDUCED, log entry 16). -/
def FrostInputs.ruleHold (i : FrostInputs) (r : FrostRecord) : Guarded :=
  if i.holdEnds r then
    let freed : FrostRecord := { r with holdElapsed := none, holdEntryOda := none }
    if !i.extractRunning then ⟨i.pause freed, [.frostHoldLeft]⟩
    else if i.eha.isFailed then ⟨i.enterFallback freed, [.frostHoldLeft, .guardFallback]⟩
    else ⟨i.enterRecover freed, [.frostHoldLeft]⟩
  else quietly r

/-! ## The evaluation (R69) -/

/-- Stage 1: the ages of the history and the elapsed times advance by 10. -/
def FrostRecord.age (r : FrostRecord) : FrostRecord :=
  { r with
    history := (r.history.map (· + 10)).filter fun a => decide (a < 3600)
    defrostElapsed := r.defrostElapsed.map (· + 10)
    holdElapsed := r.holdElapsed.map (· + 10)
    fallbackCycle := r.fallbackCycle.map (· + 10) }

/-- Stage 2: T_lim (R70). -/
def FrostInputs.withLimit (i : FrostInputs) (r : FrostRecord) : FrostRecord :=
  { r with limit := i.set.frostBaseLimit + i.adder }

/-- Stage 5: the rule of the current state. -/
def FrostInputs.rule (i : FrostInputs) (r : FrostRecord) : Guarded :=
  match r.state with
  | .inactive => i.ruleInactive r
  | .watch => i.ruleWatch r
  | .protect => i.ruleProtect r
  | .defrost => if r.origin = some .fallback then i.ruleDefrostFallback r else i.ruleDefrostNormal r
  | .recover => i.ruleRecover r
  | .frostHold => i.ruleHold r
  | .fallback => i.ruleFallback r

/-- The states in which stage 4 judges a cold mark. -/
def FrostState.judgesMarks : FrostState → Bool
  | .watch | .protect | .recover => true
  | _ => false

/-- Stages 3 to 5. -/
def FrostInputs.stages (i : FrostInputs) (r : FrostRecord) : Guarded :=
  if !i.extractRunning && r.state != .frostHold then quietly (i.pause r)
  else
    let u : FrostRecord := { r with paused := false }
    if u.state.judgesMarks then
      if i.eha.isFailed then ⟨i.enterFallback u, [.guardFallback]⟩
      else i.rule { u with window := pushWindow 6 (i.coldMark u) u.window }
    else i.rule u

/-- Stages 1 to 5 of an evaluation. -/
def FrostInputs.evaluate (i : FrostInputs) (r : FrostRecord) : Guarded := i.stages (i.withLimit r.age)

/-! ## At the state -/

/-- What the evaluation reads of the state. -/
def State.frostInputs (s : State) : FrostInputs where
  set := s.settings
  oda := s.channel chOda
  eta := s.channel chEta
  eha := s.channel chEha
  rh := s.channel chRh
  dpCore := s.channel chDpCore
  dewPoint := s.hm.dewPoint
  extractRunning := s.ae.extract.state == .running
  extractQr := s.ae.extract.qr
  preheater := s.preheaterFitted

/-- What the bypass is judged from, for a frost state (R91). -/
def State.bypassInputs (s : State) (frost : FrostState) : BypassInputs where
  summer := s.season.mode == .summer
  inactive := frost == .inactive
  etaFailed := s.channelFailed chEta
  eta := s.filtered chEta
  odaFailed := s.channelFailed chOda
  oda := s.filtered chOda
  comfort := s.settings.comfort

/-- The wanted-open indication at stage 6 (R91); without a damper it stays no (R90). -/
def State.wantedOpen (s : State) (frost : FrostState) : Bool :=
  s.damperFitted && (s.bypassInputs frost).wanted s.fg.wantedOpen

/-- The damper after the takeover (R96) and stage 6 (R91), for the new frost state. -/
def State.damperAfter (s : State) (frost : FrostState) : Damper :=
  let travel := s.settings.bypassTravel
  let d := if s.fg.state = .inactive ∧ frost ≠ .inactive then s.damper.takeover travel else s.damper
  if s.damperFitted then d.follow (s.wantedOpen frost) travel else s.damper

/-- The PREHEAT output at a publication: a proportion of 0 turns it off at once (R88). -/
def Preheat.published (p : Preheat) (proportion : Nat) : Preheat :=
  { p with output := p.output && decide (proportion ≠ 0) }

/-- An entry to DEFROST counts one (R76). -/
def State.countDefrost (s : State) (flags : List Flag) : State :=
  if flags.contains .defrostStarted then s.count .defrosts else s

/-- One acting evaluation, stages 1 to 7 (R69). -/
def State.evaluateFrost (s : State) : State :=
  let g := s.frostInputs.evaluate s.fg
  let t := (s.raiseAll g.flags).countDefrost g.flags
  ((t.setFg { g.record with wantedOpen := s.wantedOpen g.record.state }).setDamper (s.damperAfter g.record.state)).setPreheat
    (s.preheat.published g.record.proportion)

/-- FROST_EVALUATION (R69): it takes no action before the measurements are ready (R68). -/
def execFrostEvaluation (s : State) : Host.Outcome State Fault Refusal :=
  done (s.unlessHeld fun s => if s.mc.ready then s.evaluateFrost else s)

/-- A changed min_fraction (R86): a lower fraction is raised to it in PROTECT, RECOVER and FALLBACK. -/
def FrostRecord.raiseFraction (r : FrostRecord) (minFraction : Nat) : FrostRecord :=
  match r.state with
  | .protect | .recover | .fallback => { r with fraction := max r.fraction minFraction }
  | _ => r

end Sys2Proof.Machine
end

