-- ==== Sys2Proof/Machine/Filters.lean ====
section
/-! DEFINITION. The filter monitor (6.1 to 6.6): accumulation, the hourly assessment, the change protocol, and what a
state change hands on. The saving and loading of 6.7 is in Store.lean. -/

namespace Sys2Proof.Machine

/-! ## Volume, running time, steadiness (R114, R115) -/

/-- 1000 m³ in m³/h·s (R114). -/
def kiloM3 : Nat := 3600000

/-- A filter at one accumulation, with the side's Q_r (R114, R115). -/
def FilterRecord.accumulate (f : FilterRecord) (qr : Nat) : FilterRecord :=
  let sum := f.accumulator + qr
  let carried := decide (kiloM3 ≤ sum)
  let hourDone := decide (0 < qr) && f.runSeconds + 1 == 3600
  { f with
    accumulator := if carried then sum - kiloM3 else sum
    volume := if carried then min 65535 (f.volume + 1) else f.volume
    runSeconds := if qr = 0 then f.runSeconds else if hourDone then 0 else f.runSeconds + 1
    runHours := if hourDone then min 65535 (f.runHours + 1) else f.runHours
    steadyFlow := qr
    steadyCount := if qr = f.steadyFlow then min 60 (f.steadyCount + 1) else 0 }

/-- FILTER_ACCUMULATION (R114, R115), of the records that the load leaves (R113). -/
def execFilterAccumulation (s : State) : Host.Outcome State Fault Refusal :=
  done (s.whenRunning fun s =>
    s.setFm { supply := s.fm.supply.accumulate s.ae.supply.qr, extract := s.fm.extract.accumulate s.ae.extract.qr })

/-! ## Handing on a state change (R122) -/

/-- The state flag of a filter (R122). -/
def filterFlag : Side → Flag
  | .supply => .supFilterState
  | .extract => .extFilterState

/-- A filter record written and, when its state has changed, handed on: published, reported to the demand arbiter,
and the state flag raised (R122). -/
def State.handOn (s : State) (side : Side) (f : FilterRecord) : State :=
  let t := s.setFm (s.fm.withFilter side f)
  if f.state = (s.fm.filter side).state then t else t.recomputeCeiling.raise (filterFlag side)

/-! ## The hourly assessment (R116 to R121) -/

/-- The conditions that an assessment needs, in the order of R116: the first that fails gives the reason. -/
def FilterRecord.readiness (f : FilterRecord) (set : Settings) (ready : Bool) (pressure : Channel) : Assessment :=
  if !ready then .notReady
  else if f.state = .changing then .changing
  else if f.steadyFlow < set.assessMinFlow then .lowFlow
  else if f.steadyCount ≠ 60 then .unsteady
  else if pressure.state ≠ .valid then .channel
  else .assessed

/-- The normalized pressure (R117). -/
def dpNorm (pressure : Int) (qref steady : Nat) : Nat := pressure.toNat * qref * qref / (steady * steady)

/-- The loading, loaded and blocked thresholds of a clean reference (6.4). -/
def loadingThreshold (set : Settings) (dp : Nat) : Nat := dp * (100 + set.loadedPct) / 200
/-- The loaded threshold. -/
def loadedThreshold (set : Settings) (dp : Nat) : Nat := dp * set.loadedPct / 100
/-- The blocked threshold. -/
def blockedThreshold (set : Settings) (dp : Nat) : Nat := dp * set.blockedPct / 100

/-- The limit test (R120). -/
def FilterRecord.atLimit (f : FilterRecord) (set : Settings) : Bool :=
  decide (set.volumeLimit ≤ f.volume) || decide (set.hoursLimit ≤ f.runHours)

/-- The graded states from best to worst (6.4). -/
def FilterState.grade : FilterState → Nat
  | .clean => 0
  | .loading => 1
  | .loaded => 2
  | .blocked => 3
  | _ => 0

/-- The worse of two graded states. -/
def FilterState.worse (a b : FilterState) : FilterState := if a.grade < b.grade then b else a

/-- The marks after a valid assessment of a graded filter (R119). -/
def FilterRecord.mark (f : FilterRecord) (set : Settings) (dp norm : Nat) : FilterRecord :=
  if blockedThreshold set dp ≤ norm then
    { f with loadedMarks := min 3 (f.loadedMarks + 1), blockedMarks := min 3 (f.blockedMarks + 1) }
  else if loadedThreshold set dp ≤ norm then
    { f with loadedMarks := min 3 (f.loadedMarks + 1), blockedMarks := 0 }
  else { f with loadedMarks := 0, blockedMarks := 0 }

/-- The state that the marks and dp_norm indicate (R119). -/
def FilterRecord.indicated (f : FilterRecord) (set : Settings) (dp norm : Nat) : FilterState :=
  if f.blockedMarks = 3 then .blocked
  else if f.loadedMarks = 3 then .loaded
  else if loadingThreshold set dp ≤ norm then .loading
  else .clean

/-- The limit test applied to a filter in CLEAN or LOADING (R120). -/
def FilterRecord.limitTested (f : FilterRecord) (set : Settings) : FilterRecord :=
  match f.state with
  | .clean | .loading => if f.atLimit set then { f with state := .loaded } else f
  | _ => f

/-- Entry to ABSENT (R118, R119). -/
def FilterRecord.enterAbsent (f : FilterRecord) : FilterRecord :=
  { f with state := .absent, dpClean := none, loadedMarks := 0, blockedMarks := 0 }

/-- A valid assessment of a graded filter with its clean reference (R119, R120). -/
def FilterRecord.assessGraded (f : FilterRecord) (set : Settings) (norm : Nat) : FilterRecord :=
  if norm < set.absentThreshold then f.enterAbsent
  else
    let dp := f.dpClean.getD 0
    let m := f.mark set dp norm
    { m with state := f.state.worse (m.indicated set dp norm) }.limitTested set

/-- A valid assessment of a LEARNING filter (R118). -/
def FilterRecord.learn (f : FilterRecord) (set : Settings) (norm : Nat) : FilterRecord :=
  if norm < set.absentThreshold then { f with state := .absent, dpClean := none }
  else { f with dpClean := some (min 500 norm), loadedMarks := 0, blockedMarks := 0, state := .clean }.limitTested set

/-- A valid assessment of an ABSENT filter (R121). -/
def FilterRecord.assessAbsent (f : FilterRecord) (set : Settings) (norm : Nat) : FilterRecord :=
  if norm < set.absentThreshold then f
  else { f with state := .learning, dpClean := none, loadedMarks := 0, blockedMarks := 0 }

/-- The rule of the filter's state at a valid assessment (R118, R119, R121). -/
def FilterRecord.assessValid (f : FilterRecord) (set : Settings) (norm : Nat) : FilterRecord :=
  match f.state with
  | .learning => f.learn set norm
  | .absent => f.assessAbsent set norm
  | .changing => f
  | _ => f.assessGraded set norm

/-- One filter at an expiry of the assessment timer (R116). -/
def FilterRecord.assess (f : FilterRecord) (set : Settings) (ready : Bool) (pressure : Channel) : FilterRecord :=
  match f.readiness set ready pressure with
  | .assessed =>
    let norm := dpNorm pressure.filtered set.qref f.steadyFlow
    { f.assessValid set norm with lastAssessment := .assessed, lastDpNorm := some norm }
  | reason => { f.limitTested set with lastAssessment := reason }

/-- One side assessed and handed on; entry to ABSENT raises FILTER_ABSENT (R118, R119, R122). -/
def State.assessSide (s : State) (side : Side) : State :=
  let f := s.fm.filter side
  let g := f.assess s.settings s.mc.ready (s.channel (filterChannel side))
  let t := s.handOn side g
  if g.state = .absent ∧ f.state ≠ .absent then t.raise .filterAbsent else t

/-! ## Changing a filter (R123 to R127) -/

/-- The filter that an id names (12.2). -/
def filterSide (code : Byte) : Option Side :=
  if code = 0 then some .supply else if code = 1 then some .extract else none

/-- A filter taken to CHANGING under an owner (R123). -/
def FilterRecord.beginChange (f : FilterRecord) (src : Master) : FilterRecord :=
  { f with state := .changing, saved := some f.state, owner := some src, deadline := some 900 }

/-- A change abandoned: back to the saved state (R125). -/
def FilterRecord.abandon (f : FilterRecord) : FilterRecord :=
  { f with state := f.saved.getD .learning, saved := none, owner := none, deadline := none }

/-- A change completed: counts zero, LEARNING (R124). -/
def FilterRecord.completeChange (f : FilterRecord) : FilterRecord :=
  { f with
    state := .learning
    saved := none
    dpClean := none
    volume := 0
    accumulator := 0
    runSeconds := 0
    runHours := 0
    loadedMarks := 0
    blockedMarks := 0
    owner := none
    deadline := none }

/-- FILTER_BEGIN (R123). -/
def State.filterBegin (s : State) (src : Master) (code : Byte) : State × RequestOutcome :=
  match filterSide code with
  | none => (s, .notApplicable)
  | some side =>
    let f := s.fm.filter side
    if f.state ≠ .changing then (s.handOn side (f.beginChange src), .done)
    else if f.owner = some src then (s.setFm (s.fm.withFilter side { f with deadline := some 900 }), .done)
    else (s, .owned)

/-- FILTER_ABANDON (R125). -/
def State.filterAbandon (s : State) (src : Master) (code : Byte) : State × RequestOutcome :=
  match filterSide code with
  | none => (s, .notApplicable)
  | some side =>
    let f := s.fm.filter side
    if f.state ≠ .changing then (s, .notApplicable)
    else if f.owner ≠ some src then (s, .owned)
    else (s.handOn side f.abandon, .done)

/-- A change abandoned by its deadline or by the loss of its owner (R125, R126). -/
def State.abandonChange (s : State) (side : Side) : State :=
  let f := s.fm.filter side
  if f.state = .changing then (s.handOn side f.abandon).raise .changeAbandoned else s

/-- A change abandoned if its owner is the source given (R126). -/
def State.abandonOwned (s : State) (side : Side) (m : Master) : State :=
  if (s.fm.filter side).owner = some m then s.abandonChange side else s

/-- The change of one filter abandoned at a running reset, without a flag, if the unit processor owns it (R127). -/
def FilterRecord.abandonUnit (f : FilterRecord) : FilterRecord :=
  if f.state = .changing ∧ f.owner = some .unit then f.abandon else f

/-- The changes owned by UNIT abandoned at a running reset, and reported to the demand arbiter (R127), which recomputes
the ceiling and replans (R30). While the load is in progress, before the first plan of R31, it does so from the filter
records and the working record as they then stand (DESIGN CHOICE, log entry 35). -/
def State.abandonUnitChanges (s : State) : State :=
  (s.setFm { supply := s.fm.supply.abandonUnit, extract := s.fm.extract.abandonUnit }).recomputeCeiling

/-- A filter's change has more than its last second to run. -/
def FilterRecord.deadlineRuns (f : FilterRecord) : Bool := f.deadline.any fun n => decide (2 ≤ n)

/-- CHANGE_DEADLINE_EXPIRY (R125): the last second of the deadline runs out. An expiry that finds more than that, as after
a renewal taken first, does nothing (DEDUCED, log entry 32). -/
def execChangeDeadlineExpiry (side : Side) (s : State) : Host.Outcome State Fault Refusal :=
  done (s.unlessHeld fun s => if (s.fm.filter side).deadlineRuns then s else s.abandonChange side)

/-! ## A change of Qref (R130) -/

/-- A clean pressure expressed at another reference flow: truncated, then kept from 1 to 500 (R130, R190). -/
def rescale (dp target source : Nat) : Nat := max 1 (min 500 (dp * target * target / (source * source)))

/-- The clean references rescaled to a new Qref (R130). -/
def Filters.rescaled (fm : Filters) (target source : Nat) : Filters :=
  { supply := { fm.supply with dpClean := fm.supply.dpClean.map fun dp => rescale dp target source }
    extract := { fm.extract with dpClean := fm.extract.dpClean.map fun dp => rescale dp target source } }

end Sys2Proof.Machine
end

