-- ==== Sys2Proof/Machine/Humidity.lean ====
section
/-! DEFINITION. The humidity manager (Chapter 5): the dew point, the rise window, the humid boost, dry protection and
the acceptance of the stations' reports. -/

namespace Sys2Proof.Machine

/-! ## Dew point and rise window (R100, R101) -/

/-- The extract dew point (R100). -/
def dewPointOf (eta rh : Int) : Int := eta - (1000 - rh).tdiv 5

/-- Stage 1: the dew point is published unless T_ETA or RH_ETA is FAILED (R100). -/
def State.publishDewPoint (s : State) : State :=
  if s.channelFailed chEta || s.channelFailed chRh then s
  else s.setHm { s.hm with dewPoint := some (dewPointOf (s.filtered chEta) (s.filtered chRh)) }

/-- Stage 2: the rise window takes the extract humidity, or is emptied while RH_ETA is FAILED (R101). -/
def State.fillRise (s : State) : State :=
  s.setHm { s.hm with rise := if s.channelFailed chRh then [] else pushWindow 30 (s.filtered chRh) s.hm.rise }

/-- The window minimum (R101). -/
def windowMinimum : List Int → Option Int
  | [] => none
  | x :: l => some (l.foldl min x)

/-! ## The humid boost (R102, R103, R104) -/

/-- A station has the accepted state HUMID. -/
def Humidity.anyHumid (hm : Humidity) : Bool := hm.stations.any Acceptance.humid

/-- The conditions for the start of a humid boost (R102). -/
def State.boostStarts (s : State) : Bool :=
  s.hm.anyHumid ||
    (!s.channelFailed chRh &&
      (decide ((s.settings.highLimit : Int) ≤ s.filtered chRh) ||
        match windowMinimum s.hm.rise with
        | none => false
        | some m => decide ((s.settings.riseThreshold : Int) ≤ s.filtered chRh - m)))

/-- A humid boost starts (R102). -/
def State.startBoost (s : State) : State :=
  ((s.post .humidity .boost 3 none).setHm
    { s.hm with
      view := .boost
      boostElapsed := some 0
      startMinimum := if s.channelFailed chRh then none else windowMinimum s.hm.rise }).raise .humidBoost

/-- The record as a boost in progress advances (R103, R104): elapsed goes up by 10 to at most 600, and an absent start
minimum is set when RH_ETA is not FAILED. -/
def State.advanceBoost (s : State) : Humidity :=
  { s.hm with
    boostElapsed := some (min 600 (s.hm.boostElapsed.getD 0 + 10))
    startMinimum :=
      match s.hm.startMinimum with
      | some m => some m
      | none => if s.channelFailed chRh then none else windowMinimum s.hm.rise }

/-- The conditions for the end of a humid boost on the advanced record (R103). -/
def State.boostEnds (s : State) (hm : Humidity) : Bool :=
  hm.boostElapsed == some 600 && !hm.anyHumid &&
    (s.channelFailed chRh ||
      (decide (s.filtered chRh < (s.settings.highLimit : Int) - 50) &&
        match hm.startMinimum with
        | none => false
        | some m => decide (s.filtered chRh < m + (s.settings.riseThreshold / 2 : Nat))))

/-- A humid boost ends (R103). -/
def State.endBoost (s : State) (hm : Humidity) : State :=
  ((s.setHm { hm with view := .none, boostElapsed := none, startMinimum := none }).removeKind .humidity
    .boost).raise .humidBoost

/-- Stage 3 (R102 to R104). -/
def State.stageBoost (s : State) : State :=
  match s.hm.view with
  | .boost => let hm := s.advanceBoost; if s.boostEnds hm then s.endBoost hm else s.setHm hm
  | _ => if s.boostStarts then s.startBoost else s

/-! ## Dry protection (R106, R107, R108) -/

/-- The dry count after an evaluation (R106). -/
def State.nextDryCount (s : State) : Nat :=
  if s.channelFailed chRh || s.season.mode == .summer then 0
  else if s.filtered chRh < s.settings.lowLimit then min 30 (s.hm.dryCount + 1)
  else 0

/-- The conditions for the withdrawal of dry protection (R108). -/
def State.dryEnds (s : State) : Bool :=
  s.channelFailed chRh || s.season.mode == .summer ||
    decide ((s.settings.lowLimit : Int) + 50 ≤ s.filtered chRh)

/-- Stage 4 (R106 to R108). A dry count of 30 implies that it is winter and RH_ETA is not FAILED. -/
def State.stageDry (s : State) : State :=
  let t := s.setHm { s.hm with dryCount := s.nextDryCount }
  match t.hm.view with
  | .none =>
    if t.hm.dryCount = 30 ∧ t.season.mode = .winter ∧ t.channelFailed chRh = false then
      ((t.post .humidity .away 0 none).setHm { t.hm with view := .away }).raise .dryProtect
    else t
  | .away =>
    if t.dryEnds then (t.setHm { t.hm with view := .none, dryCount := 0 }).removeKind .humidity .away else t
  | .boost => t

/-- One acting evaluation (R99). -/
def State.evaluateHumidity (s : State) : State := s.publishDewPoint.fillRise.stageBoost.stageDry

/-- HUMIDITY_EVALUATION (R99): it takes no action before the measurements are ready (R98). -/
def execHumidityEvaluation (s : State) : Host.Outcome State Fault Refusal :=
  done (s.unlessHeld fun s => if s.mc.ready then s.evaluateHumidity else s)

/-! ## Station humidity (R109, R110, R111) -/

/-- The accepted state judged on the window (R110). -/
def Acceptance.judge (a : Acceptance) (highLimit : Nat) : Acceptance :=
  if 3 ≤ a.reports.countP (fun v => decide (highLimit ≤ v)) then { a with humid := true }
  else if 3 ≤ a.reports.countP (fun v => decide ((v : Int) < (highLimit : Int) - 50)) then { a with humid := false }
  else a

/-- A report taken into an acceptance record: a value above 1000 is not appended (R109, R110). -/
def Acceptance.report (a : Acceptance) (value highLimit : Nat) : Acceptance :=
  if 1000 < value then a else { a with reports := pushWindow 4 value a.reports }.judge highLimit

/-- A station's acceptance record replaced. -/
def State.withStation (s : State) (n : Fin 4) (a : Acceptance) : State :=
  s.setHm { s.hm with stations := setAt s.hm.stations n a }

/-- A room humidity report of a station (R109, R110). -/
def State.reportHumidity (s : State) (n : Fin 4) (value : Nat) : State :=
  s.withStation n (s.hm.stations[n].report value s.settings.highLimit)

/-- A station lost: its report window is emptied and its verdict is NORMAL (R111). -/
def State.clearStation (s : State) (n : Fin 4) : State := s.withStation n Acceptance.initial

end Sys2Proof.Machine
end

