-- ==== Sys2Proof/Machine/Season.lean ====
section
/-! DEFINITION. The season record (7.5): observation in force, the heat call, the season timer and SET_SEASON. -/

namespace Sys2Proof.Machine

/-- 48 h in seconds (R141, R143). -/
def seasonLimit : Nat := 172800

/-- The slot of an address from 1 to 15. -/
def slotOf (address : Nat) (h : 1 ≤ address ∧ address ≤ 15) : Fin 15 := ⟨address - 1, by omega⟩

/-- The slot of an address is LOST; heat_address is from 5 to 14 (8.2). -/
def State.addressLost (s : State) (address : Nat) : Bool :=
  if h : 1 ≤ address ∧ address ≤ 15 then s.rl.slots[slotOf address h].state == .lost else false

/-- Whether observation is in force, judged afresh (R141). -/
def State.observes (s : State) : Bool := s.settings.seasonObserve && !s.addressLost s.settings.heatAddress

/-- Observation judged (R141): coming into force sets the heat-call age to 0. -/
def State.judgeObservation (s : State) : State :=
  s.setSeason { s.season with
    observing := s.observes
    heatCallAge := if s.observes && !s.season.observing then 0 else s.season.heatCallAge }

/-- A change of the mode, with SEASON_CHANGED (R145). -/
def State.changeSeason (s : State) (mode : SeasonMode) (setBy : LastSetBy) : State :=
  (s.setSeason { s.season with mode := mode, lastSetBy := setBy }).raise .seasonChanged

/-- A heat call from heat_address (R142): 0x01 is ON, any other value OFF (R155). -/
def State.heatCall (s : State) (call : Byte) : State :=
  if s.season.observing && call == 0x01 then
    let t := s.setSeason { s.season with heatCallAge := 0 }
    if s.season.mode = .summer then t.changeSeason .winter .heatCall else t
  else s

/-- An expiry of the season timer (R141, R143). The age "reaches" 172800 when this expiry brings it there. -/
def State.seasonTick (s : State) : State :=
  if s.season.observing then
    let age := min seasonLimit (s.season.heatCallAge + 1)
    let t := s.setSeason { s.season with heatCallAge := age }
    if s.season.heatCallAge < seasonLimit ∧ age = seasonLimit ∧ s.season.mode = .winter then
      t.changeSeason .summer .noCall
    else t
  else s

/-- SEASON_TIMER (R143). -/
def execSeasonTimer (s : State) : Host.Outcome State Fault Refusal :=
  done (s.unlessHeld State.seasonTick)

/-- The season that a code names (12.2). -/
def SeasonMode.ofCode (b : Byte) : Option SeasonMode :=
  if b = 0 then some .winter else if b = 1 then some .summer else none

/-- SET_SEASON (R144). -/
def State.requestSeason (s : State) (src : Master) (code : Byte) : State × RequestOutcome :=
  match SeasonMode.ofCode code with
  | none => (s, .notApplicable)
  | some m =>
    if s.season.observing then (s, .notApplicable)
    else if s.season.mode = m then (s, .doneNothing)
    else (s.changeSeason m (.master src), .done)

end Sys2Proof.Machine
end

