-- ==== Sys2Proof/Machine/Slots.lean ====
section
/-! DEFINITION. The station slots (8.6, 8.7): misses and good replies, the entry to LOST with its reports to the blocks
that hold something for the address, the slot timer, and a change of the poll list. -/

namespace Sys2Proof.Machine

/-! ## One slot -/

/-- The master source at a slot's address: STATION1 to STATION4 at 1 to 4, TOOL at 15 (8.2). -/
def slotMaster (i : Fin 15) : Option Master :=
  if h : i.val < 4 then some (.station ⟨i.val, h⟩) else if i.val = 14 then some .tool else none

/-- The slot of a master source on the room link; the unit processor has none (8.2). -/
def masterSlot : Master → Option (Fin 15)
  | .tool => some 14
  | .unit => none
  | .station n => some ⟨n.val, by omega⟩

/-- A slot replaced. -/
def State.withSlot (s : State) (i : Fin 15) (x : Slot) : State := s.setRl { s.rl with slots := setAt s.rl.slots i x }

/-- A slot. -/
def State.slot (s : State) (i : Fin 15) : Slot := s.rl.slots[i]

/-- A LOST slot: everything but the state at its master reset value (R162). -/
def Slot.lost : Slot := { Slot.initial with state := .lost }

/-- Entry to MISSING: the window is kept (R160). -/
def Slot.enterMissing (x : Slot) : Slot := { x with state := .missing, goodRun := 0, timeMissing := some 0 }

/-- Entry to PRESENT from UNKNOWN, MISSING or LOST: the window is emptied (R159, R160, R163). -/
def Slot.enterPresent (x : Slot) : Slot := { x with state := .present, window := [], goodRun := 0, timeMissing := none }

/-- The result of a poll appended to the miss window (8.6). -/
def Slot.note (x : Slot) (miss : Bool) : Slot := { x with window := pushWindow 5 miss x.window }

/-- A PRESENT slot after a poll's result is appended: 3 misses take it to MISSING (R160). -/
def Slot.judgePresent (x : Slot) : Slot := if 3 ≤ marks x.window then x.enterMissing else x

/-- A MISSING slot at a good reply (R160). -/
def Slot.goodInMissing (x : Slot) : Slot :=
  if 2 ≤ x.goodRun + 1 then x.enterPresent else { x.note false with goodRun := x.goodRun + 1 }

/-! ## Loss (R162) -/

/-- The reports of a loss: demand arbiter, filter monitor, humidity manager, request handler. -/
def State.reportLoss (s : State) (i : Fin 15) : State :=
  let t := match slotMaster i with
    | none => s
    | some m => ((s.removeMaster m).abandonOwned .supply m).abandonOwned .extract m
  let u := if h : i.val < 4 then t.clearStation ⟨i.val, h⟩ else t
  if i.val + 1 = s.settings.heatAddress then u.judgeObservation else u

/-- An entry to LOST (R162); whether STATION_LOST is raised belongs to the cause. -/
def State.enterLost (s : State) (i : Fin 15) : State := (s.withSlot i Slot.lost).reportLoss i

/-- An address leaves the poll list (R149): STATION_LOST only if its slot was PRESENT or MISSING. A slot that is LOST
already stays as it is. -/
def State.leaveList (s : State) (i : Fin 15) : State :=
  match (s.slot i).state with
  | .lost => s
  | .unknown => s.enterLost i
  | .present | .missing => (s.enterLost i).raise .stationLost

/-! ## Misses and good replies (R159, R160, R163) -/

/-- A miss taken into the slot, with LINK_MISSES counted for a slot that was PRESENT or MISSING (R151), judged at
the poll's end (DEDUCED, log entry 30). -/
def State.slotMiss (s : State) (i : Fin 15) : State :=
  let x := s.slot i
  match x.state with
  | .unknown =>
    let y := x.note true
    if y.window.length = 5 ∧ marks y.window = 5 then s.enterLost i else s.withSlot i y
  | .present => (s.count .linkMisses).withSlot i (x.note true).judgePresent
  | .missing => (s.count .linkMisses).withSlot i { x.note true with goodRun := 0 }
  | .lost => s

/-- The report that the slot of heat_address has left LOST (R163, R141). -/
def State.reportFound (s : State) (i : Fin 15) : State :=
  if i.val + 1 = s.settings.heatAddress then s.judgeObservation else s

/-- A good reply taken into the slot. -/
def State.slotGood (s : State) (i : Fin 15) : State :=
  let x := s.slot i
  match x.state with
  | .unknown => s.withSlot i x.enterPresent
  | .present => s.withSlot i (x.note false).judgePresent
  | .missing => s.withSlot i x.goodInMissing
  | .lost => ((s.withSlot i x.enterPresent).raise .stationFound).reportFound i

/-! ## The slot timer (R158, R161) -/

/-- One slot at an expiry of the slot timer. -/
def State.slotTick (s : State) (i : Fin 15) : State :=
  let x := s.slot i
  match x.state with
  | .missing =>
    let n := x.timeMissing.getD 0 + 1
    if 300 ≤ n then (s.enterLost i).raise .stationLost else s.withSlot i { x with timeMissing := some n }
  | _ => s

/-- SLOT_TIMER (R158, R161). -/
def execSlotTimer (s : State) : Host.Outcome State Fault Refusal :=
  done (s.unlessHeld fun s => (List.finRange 15).foldl State.slotTick s)

/-! ## A change of the poll list (R149) -/

/-- The slot whose poll is in progress. -/
def PollStage.slot : PollStage → Option (Fin 15)
  | .idle => none
  | .calling i => some i
  | .window i => some i

/-- One address as the poll list changes: if it leaves the list it is lost at once, or at the end of the poll in
progress to it. -/
def State.listChanged (before : BitVec 16) (s : State) (i : Fin 15) : State :=
  if before.getLsbD (i.val + 1) && !s.settings.listed (i.val + 1) then
    if s.rl.stage.slot = some i then s.setRl { s.rl with lossDue := true } else s.leaveList i
  else s

/-- A change of poll_list taken at its arrival. -/
def State.pollListChanged (s : State) (before : BitVec 16) : State :=
  (List.finRange 15).foldl (State.listChanged before) s

end Sys2Proof.Machine
end

