-- ==== Sys2Proof/Machine/Store.lean ====
section
/-! DEFINITION. The settings store (Chapter 11) and the filter saves (6.7): writing a setting with the owners'
reactions, storing the record, saving the filter records, and the two commands of the filter monitor that ask for a
save. -/

namespace Sys2Proof.Machine

/-! ## Filter saves (R128, R190) -/

/-- The store reference flow (R190). -/
def SettingsStore.referenceFlow (ss : SettingsStore) : Nat := if ss.stored.valid then ss.stored.contents.qref else 150

/-- A filter's stored contents, with dp_clean expressed at the store reference flow (R190). -/
def FilterCore.atReference (f : FilterCore) (reference qref : Nat) : FilterCore :=
  if reference = qref then f else { f with dpClean := f.dpClean.map fun dp => rescale dp reference qref }

/-- The record that a save writes of one filter (R128, R190). -/
def State.savedRecord (s : State) (side : Side) : StoredFilter :=
  .written ((s.fm.filter side).toFilterCore.atReference s.ss.referenceFlow s.settings.qref)

/-- A filter save begins, with the records as they stand (R128). -/
def State.beginSave (s : State) : State :=
  s.setSs { s.ss with saving := some (s.savedRecord .supply, s.savedRecord .extract), saveWaiting := false }

/-- Nothing is being written: no store in flight, no filter save in flight. -/
def SettingsStore.free (ss : SettingsStore) : Bool := ss.store == .idle && ss.saving.isNone

/-- A filter save falls due (R128): it begins, or it waits for what is being written. -/
def State.saveDue (s : State) : State :=
  if s.ss.free then s.beginSave else s.setSs { s.ss with saveWaiting := true }

/-- FILTER_SAVE_START (R128): a waiting save begins once the store or the save in flight has ended. -/
def execFilterSaveStart (s : State) : Host.Outcome State Fault Refusal :=
  done (s.unlessHeld fun s => if s.ss.saveWaiting && s.ss.free then s.beginSave else s)

/-- FILTER_SAVE_COMPLETE (R128). -/
def execFilterSaveComplete (s : State) : Host.Outcome State Fault Refusal :=
  done (s.unlessHeld fun s =>
    match s.ss.saving with
    | none => s
    | some r => s.setSs { s.ss with storedSupply := r.1, storedExtract := r.2, saving := none })

/-- FILTER_ASSESSMENT (R116): supply first, then extract, and a filter save falls due (R128). The records are those
that the load leaves (R113): before it nothing is assessed, and the stored records stand. -/
def execFilterAssessment (s : State) : Host.Outcome State Fault Refusal :=
  done (s.whenRunning fun s => ((s.assessSide .supply).assessSide .extract).saveDue)

/-- FILTER_DONE (R124). -/
def State.filterDone (s : State) (src : Master) (code : Byte) : State × RequestOutcome :=
  match filterSide code with
  | none => (s, .notApplicable)
  | some side =>
    let f := s.fm.filter side
    if f.state ≠ .changing then (s, .notApplicable)
    else if f.owner ≠ some src then (s, .owned)
    else (((s.handOn side f.completeChange).count .filterChanges).saveDue, .done)

/-! ## Writing a setting (R187, R188) -/

/-- A change of heat_address (R141): observation judged, and the age 0 if it is in force both before and after. -/
def State.heatAddressChanged (s : State) : State :=
  let t := s.judgeObservation
  if s.season.observing && t.season.observing then t.setSeason { t.season with heatCallAge := 0 } else t

/-- The owner's reaction to a change of a setting, `before` being the record until then (R32, R33, R86, R92, R130,
R141, R149, R180); every other setting takes effect when its owner next reads it (R8, R66, R112, R130, R135). -/
def State.react (s : State) (before : Settings) (id : SettingId) : State :=
  match id with
  | .qmin | .qmax | .level _ | .defaultBaseLevel | .derateLoaded | .derateBlocked => s.recomputeCeiling
  | .minFraction => s.setFg (s.fg.raiseFraction s.settings.minFraction)
  | .bypassTravel => s.setDamper (s.damper.retravel s.settings.bypassTravel)
  | .qref => s.setFm (s.fm.rescaled s.settings.qref before.qref)
  | .seasonObserve => s.judgeObservation
  | .heatAddress => s.heatAddressChanged
  | .counterSnapshot => if s.settings.counterSnapshot then s else s.setEu s.eu.copyAll
  | .pollList => s.pollListChanged before.pollList
  | _ => s

/-- The state with another working record. -/
def State.withWorking (s : State) (set : Settings) : State := s.setSs { s.ss with working := set }

/-- WRITE_SETTING at the settings store (R187). -/
def State.writeSetting (s : State) (id value : Word16) : State × RequestOutcome :=
  if s.ss.store ≠ .idle then (s, .busy)
  else
    match SettingId.ofId id.toNat with
    | none => (s, .notApplicable)
    | some k =>
      let asked := normalValue k value.toInt
      let v := s.settings.clampValue k asked
      if v = s.settings.get k then (s, if v = asked then .doneNothing else .doneClamped)
      else
        ((s.withWorking (s.settings.write k v)).react s.settings k, if v = asked then .done else .doneClamped)

/-! ## Storing the record (R189) -/

/-- STORE_SETTINGS at the settings store (R189): the store starts at its acceptance unless a filter save is in
flight. -/
def State.storeSettings (s : State) : State × RequestOutcome :=
  if s.ss.store ≠ .idle then (s, .busy)
  else (s.setSs { s.ss with store := if s.ss.saving.isSome then .accepted else .writing }, .done)

/-- STORE_START (R189): an accepted store starts once the filter save in flight has ended (DEDUCED, log entry 14). -/
def execStoreStart (s : State) : Host.Outcome State Fault Refusal :=
  done (s.unlessHeld fun s =>
    if s.ss.store = .accepted ∧ s.ss.saving = none then s.setSs { s.ss with store := .writing } else s)

/-- A store ends: the stored copy as it is left, store busy cleared, the flag raised, and a filter save that merges any
waiting one (R189, R190). -/
def State.endStore (s : State) (stored : StoredSettings) (f : Flag) : State :=
  ((s.setSs { s.ss with stored := stored, store := .idle }).raise f).saveDue

/-- STORE_DONE (R189). -/
def execStoreDone (s : State) : Host.Outcome State Fault Refusal :=
  done (s.unlessHeld fun s =>
    if s.ss.store = .writing then s.endStore (.written s.settings) .storeDone else s)

/-- STORE_FAILED (R189). -/
def execStoreFailed (s : State) : Host.Outcome State Fault Refusal :=
  done (s.unlessHeld fun s =>
    if s.ss.store = .writing then s.endStore { s.ss.stored with valid := false } .storeFailed else s)

end Sys2Proof.Machine
end

