-- ==== Sys2Proof/Machine/Requests.lean ====
section
/-! DEFINITION. The request handler (7.2, 7.3): the three checks, the routing, the count of refusals, the delivery of
the outcome; and the commands of the table that are requests. -/

namespace Sys2Proof.Machine

/-! ## Checks and routing -/

/-- A required parameter (R136): a request that lacks it is answered NOT_APPLICABLE. -/
def need {α : Type} (s : State) (o : Option α) (f : α → State × RequestOutcome) : State × RequestOutcome :=
  match o with
  | none => (s, .notApplicable)
  | some x => f x

/-- The routing of CLEAR_LOCKOUT by its target (R137). -/
def State.clearLockout (s : State) (target : Byte) : State × RequestOutcome :=
  if target = 0 then s.clearLockoutFan .supply
  else if target = 1 then s.clearLockoutFan .extract
  else if target = 2 then s.clearLockoutBypass
  else (s, .notApplicable)

/-- CLEAR_COUNTERS at the event unit (R181). -/
def State.clearCounters (s : State) : State × RequestOutcome :=
  (s.setEu s.eu.clearCounters, if s.eu.allZero then .doneNothing else .done)

/-- The hand-over to the owning block once the kind and the class have passed (R136, R137). -/
def State.route (s : State) (r : Request) : RequestKind → State × RequestOutcome
  | .base => s.demand r.source .base r.demand
  | .boost => s.demand r.source .boost r.demand
  | .away => s.demand r.source .away r.demand
  | .purge => s.demand r.source .purge r.demand
  | .quiet => s.demand r.source .quiet r.demand
  | .shutdown => s.demand r.source .shutdown r.demand
  | .withdraw => need s r.namedKind (s.withdraw r.source)
  | .filterBegin => need s r.filterId (s.filterBegin r.source)
  | .filterDone => need s r.filterId (s.filterDone r.source)
  | .filterAbandon => need s r.filterId (s.filterAbandon r.source)
  | .setSeason => need s r.season (s.requestSeason r.source)
  | .clearLockout => need s r.target s.clearLockout
  | .inject => need s r.channel fun c => need s r.mode fun m => s.inject c m
  | .writeSetting => need s r.settingId fun i => need s r.value fun v => s.writeSetting i v
  | .storeSettings => s.storeSettings
  | .clearCounters => s.clearCounters

/-- The checks of kind and class, and the hand-over (R133, R134). -/
def State.answer (s : State) (r : Request) : State × RequestOutcome :=
  match RequestKind.ofCode r.code with
  | none => (s, .refusedUnknown)
  | some k => if s.settings.allows k (classOf r.source) then s.route r k else (s, .refusedPermission)

/-- The outcomes that count as refusals (7.3, R139). -/
def RequestOutcome.isRefusal : RequestOutcome → Bool
  | .done | .doneClamped | .doneNothing => false
  | _ => true

/-- A request handled whole: its outcome, with one count of a refusal (R132, R139). -/
def State.handle (s : State) (r : Request) : State × RequestOutcome :=
  let a := s.answer r
  (if a.2.isRefusal then a.1.count .requestsRefused else a.1, a.2)

/-- The outcome returned to where the request came from (R138): the result of the local port (R171), or the last outcome
of the source's slot (R153). A slot that has gone LOST holds no outcome (R157; DEDUCED, log entry 11). -/
def State.deliver (s : State) (source : Master) (a : Answer) : State :=
  match masterSlot source with
  | none => s.setLp { s.lp with answer := some a, resultCount := s.lp.resultCount + 1, pending := false }
  | some i =>
    if (s.slot i).state = .lost then s else s.withSlot i { s.slot i with lastOutcome := some a }

/-- A request taken, handled and answered. -/
def State.submit (s : State) (r : Request) : State :=
  (s.handle r).1.deliver r.source { outcome := (s.handle r).2, kindCode := r.code }

/-! ## Requests as commands -/

/-- A request of this source can arrive: the unit processor's while the local port answers (R131, R165), a partner's
unless its slot is LOST, since the reply that carries it takes the slot to PRESENT first (R152). DESIGN CHOICE (log entry 10). -/
def State.mayRequest (s : State) (source : Master) : Bool :=
  match masterSlot source with
  | none => !s.standAlone && !s.resetPin
  | some i => (s.slot i).state != .lost

/-- A request that arrives as a command of its own. -/
def State.request (s : State) (r : Request) : State :=
  s.whenRunning fun s => if s.mayRequest r.source then s.submit r else s

/-- INJECT (R11). -/
def execInject (src : Master) (channel mode : Option Byte) (s : State) : Host.Outcome State Fault Refusal :=
  done (s.request { Request.bare RequestKind.inject.code src with channel := channel, mode := mode })

/-- A demand of a kind, as a request. -/
def demandRequest (k : RequestKind) (src : Master) (p : DemandParams) : Request :=
  { Request.bare k.code src with demand := p }

/-- BASE (R22). -/
def execBase (src : Master) (p : DemandParams) (s : State) : Host.Outcome State Fault Refusal :=
  done (s.request (demandRequest .base src p))

/-- BOOST (R22). -/
def execBoost (src : Master) (p : DemandParams) (s : State) : Host.Outcome State Fault Refusal :=
  done (s.request (demandRequest .boost src p))

/-- AWAY (R22). -/
def execAway (src : Master) (p : DemandParams) (s : State) : Host.Outcome State Fault Refusal :=
  done (s.request (demandRequest .away src p))

/-- PURGE (R20). -/
def execPurge (src : Master) (p : DemandParams) (s : State) : Host.Outcome State Fault Refusal :=
  done (s.request (demandRequest .purge src p))

/-- QUIET (R22). -/
def execQuiet (src : Master) (p : DemandParams) (s : State) : Host.Outcome State Fault Refusal :=
  done (s.request (demandRequest .quiet src p))

/-- SHUTDOWN (R24). -/
def execShutdown (src : Master) (p : DemandParams) (s : State) : Host.Outcome State Fault Refusal :=
  done (s.request (demandRequest .shutdown src p))

/-- WITHDRAW (R25). -/
def execWithdraw (src : Master) (kind : Option Byte) (s : State) : Host.Outcome State Fault Refusal :=
  done (s.request { Request.bare RequestKind.withdraw.code src with namedKind := kind })

/-- CLEAR_LOCKOUT of a fan (R56), or of a target that names none of the three (R137). -/
def execClearLockoutFan (src : Master) (target : Option Byte) (s : State) : Host.Outcome State Fault Refusal :=
  done (s.request { Request.bare RequestKind.clearLockout.code src with target := target })

/-- CLEAR_LOCKOUT(bypass) (R95). -/
def execClearLockoutBypass (src : Master) (s : State) : Host.Outcome State Fault Refusal :=
  done (s.request { Request.bare RequestKind.clearLockout.code src with target := some 2 })

/-- FILTER_BEGIN (R123). -/
def execFilterBegin (src : Master) (id : Option Byte) (s : State) : Host.Outcome State Fault Refusal :=
  done (s.request { Request.bare RequestKind.filterBegin.code src with filterId := id })

/-- FILTER_DONE (R124). -/
def execFilterDone (src : Master) (id : Option Byte) (s : State) : Host.Outcome State Fault Refusal :=
  done (s.request { Request.bare RequestKind.filterDone.code src with filterId := id })

/-- FILTER_ABANDON (R125). -/
def execFilterAbandon (src : Master) (id : Option Byte) (s : State) : Host.Outcome State Fault Refusal :=
  done (s.request { Request.bare RequestKind.filterAbandon.code src with filterId := id })

/-- SET_SEASON (R144). -/
def execSetSeason (src : Master) (season : Option Byte) (s : State) : Host.Outcome State Fault Refusal :=
  done (s.request { Request.bare RequestKind.setSeason.code src with season := season })

/-- UNKNOWN_REQUEST (R133). -/
def execUnknownRequest (src : Master) (code : Byte) (s : State) : Host.Outcome State Fault Refusal :=
  done (s.request (Request.bare code src))

/-- CLEAR_COUNTERS (R181). -/
def execClearCounters (src : Master) (s : State) : Host.Outcome State Fault Refusal :=
  done (s.request (Request.bare RequestKind.clearCounters.code src))

/-- WRITE_SETTING (R187). -/
def execWriteSetting (src : Master) (id value : Option Word16) (s : State) : Host.Outcome State Fault Refusal :=
  done (s.request { Request.bare RequestKind.writeSetting.code src with settingId := id, value := value })

/-- STORE_SETTINGS (R189). -/
def execStoreSettings (src : Master) (s : State) : Host.Outcome State Fault Refusal :=
  done (s.request (Request.bare RequestKind.storeSettings.code src))

end Sys2Proof.Machine
end

