-- ==== Sys2Proof/Machine/Reset.lean ====
section
/-! DEFINITION. The resets and the start-up (11.2, 11.6): the causes of a master reset, its end, the load of the stored
records, the running reset, and the release of the RESET pin. -/

namespace Sys2Proof.Machine

/-! ## Master reset (R184, R185) -/

/-- The stored filter records as a master reset leaves them (R128): a save in flight is cut off, and the record being
written, which `cut` chooses, is left without a valid check. -/
def SettingsStore.cutSave (ss : SettingsStore) (cut : Bool) : StoredFilter × StoredFilter :=
  match ss.saving with
  | none => (ss.storedSupply, ss.storedExtract)
  | some r =>
    if cut then ({ r.1 with whole := false }, ss.storedExtract) else (r.1, { r.2 with whole := false })

/-- The settings store as a master reset leaves it (R185): what is being written is cut off, a waiting save is discarded,
and the cause is recorded (R184). -/
def SettingsStore.masterReset (ss : SettingsStore) (cause : ResetCause) (cut : Bool) : SettingsStore where
  working := Settings.factory
  stored := if ss.store = .writing then { ss.stored with valid := false } else ss.stored
  storedSupply := (ss.cutSave cut).1
  storedExtract := (ss.cutSave cut).2
  cause := cause
  store := .idle
  saving := none
  saveWaiting := false

/-- The channels block after a master reset (R3, R12): the cord pins stand as they are. -/
def Measurement.initial (kitchenHigh bathroomHigh : Bool) : Measurement where
  channels := Vector.replicate 8 Channel.initial
  ready := false
  kitchen := CordRecord.initial kitchenHigh
  bathroom := CordRecord.initial bathroomHigh

/-- A master reset at its cause (R183, R184, R185): every block at its initial values, the straps latched. The queue and
the input pins stand, and so does what is stored, but for what `SettingsStore.masterReset` cuts off. -/
def State.masterReset (s : State) (cause : ResetCause) (straps : Straps) (resetPin : Bool) : State where
  phase := .held
  resetPin := resetPin
  straps := straps
  mc := Measurement.initial s.mc.kitchen.pinHigh s.mc.bathroom.pinHigh
  da := Arbiter.initial
  ae := Airflow.initial
  fg := FrostRecord.initial Settings.factory.frostBaseLimit
  preheat := Preheat.initial
  damper := Damper.initial s.damper.openMade s.damper.closedMade
  hm := Humidity.initial
  fm := Filters.initial
  season := SeasonRecord.initial Settings.factory.seasonObserve
  rl := RoomLink.initial
  lp := LocalPort.initial
  eu := EventUnit.initial
  ss := s.ss.masterReset cause (Config.freeCut s.freeCount)
  freeCount := if s.ss.saving.isSome then s.freeCount + 1 else s.freeCount
  pending := s.pending

/-- POWER (R184). -/
def execPower (straps : Straps) (s : State) : Host.Outcome State Fault Refusal :=
  done (s.masterReset .power straps s.resetPin)

/-- SUPPLY_DIP (R184). -/
def execSupplyDip (straps : Straps) (s : State) : Host.Outcome State Fault Refusal :=
  done (s.masterReset .supplyDip straps s.resetPin)

/-- PIN_MASTER (R184): it holds until RESET is released. Given where RESET stands asserted already it is a fresh assertion
(DESIGN CHOICE, log entry 34). -/
def execPinMaster (straps : Straps) (s : State) : Host.Outcome State Fault Refusal :=
  done (s.masterReset .pinMaster straps true)

/-! ## The end of a master reset (R184, R185) -/

/-- An input leaves its initial values: a pin that is high is timed for arming (R12; DEDUCED, log entry
20). -/
def CordRecord.leaveReset (r : CordRecord) : CordRecord := { r with debouncing := r.pinHigh }

/-- The RESET pin at a master reset's end: for PIN_MASTER the end is its release (R184). -/
def State.pinAfterReset (s : State) : Bool := if s.ss.cause = .pinMaster then false else s.resetPin

/-- MASTER_RESET_END (R185): the timers start and the load begins. -/
def execMasterResetEnd (s : State) : Host.Outcome State Fault Refusal :=
  done (match s.phase with
    | .held =>
      ((s.setPhase .loading).setResetPin s.pinAfterReset).setMc
        { s.mc with kitchen := s.mc.kitchen.leaveReset, bathroom := s.mc.bathroom.leaveReset }
    | _ => s)

/-! ## The load (R191, R129) -/

/-- The working record that the load leaves (R191). -/
def StoredSettings.load (r : StoredSettings) : Settings := if r.passes then r.contents else Settings.factory

/-- The contents that a stored filter record loads as (R129): CHANGING gives way to the saved state. -/
def StoredFilter.load (r : StoredFilter) : FilterCore :=
  if r.passes then
    { r.contents with
      state := match r.contents.state with
        | .changing => r.contents.saved.getD .learning
        | st => st
      saved := none }
  else FilterCore.blank

/-- The settings store after the load: a copy that fails is marked invalid (R191). -/
def SettingsStore.load (ss : SettingsStore) : SettingsStore :=
  { ss with working := ss.stored.load, stored := { ss.stored with valid := ss.stored.passes } }

/-- DEFAULTS_IN_USE for a copy that fails its check (R191). -/
def State.reportLoad (s : State) (passes : Bool) : State := if passes then s else s.raise .defaultsInUse

/-- The frost record as the load leaves it: T_lim is taken from the loaded frost_base_limit (R67), and a changed
min_fraction is taken at its arrival (R86). -/
def FrostRecord.load (r : FrostRecord) (set : Settings) : FrostRecord :=
  { r.raiseFraction set.minFraction with limit := set.frostBaseLimit + 20 }

/-- The event unit as the load leaves it: counter_snapshot off sets the copies from the live values (R180). -/
def EventUnit.load (e : EventUnit) (set : Settings) : EventUnit := if set.counterSnapshot then e else e.copyAll

/-- The state with the loaded record, and each block that reacts to the reload: filter records (R113), frost record,
counters, observation (R140), the link feed (R146), the damper (R90). -/
def State.loaded (s : State) : State :=
  let set := s.ss.stored.load
  { s with
    ss := s.ss.load
    fm :=
      { supply := FilterRecord.loaded s.ss.storedSupply.load
        extract := FilterRecord.loaded s.ss.storedExtract.load }
    fg := s.fg.load set
    eu := s.eu.load set
    season := { s.season with observing := set.seasonObserve }
    rl := { s.rl with feed := true }
    damper := s.damper.afterLoad s.damperFitted set.bypassTravel }

/-- SETTINGS_LOAD_COMPLETE (R191): the load, the first plan (R31), and the port and the link come alive (log entry
26). -/
def execSettingsLoadComplete (s : State) : Host.Outcome State Fault Refusal :=
  done (match s.phase with
    | .loading => ((s.loaded.reportLoad s.ss.stored.passes).recomputeCeiling).setPhase .running
    | _ => s)

/-! ## Running reset (R186) -/

/-- A running reset: the local port, the event unit, the demand arbiter and the filter monitor act, and the settings
store records the cause (R174, R178, R30, R127, R184). Taken while the load is in progress it forms a plan before the
first plan of R31 (DESIGN CHOICE, log entry 35). -/
def State.runningReset (s : State) (cause : ResetCause) : State :=
  ((((s.setLp LocalPort.initial).setEu s.eu.runningReset).setSs { s.ss with cause := cause }).abandonUnitChanges).removeMaster
    .unit

/-- PIN_RUNNING (R184, R186): RESET stays asserted until its release. While a master reset holds the part, the pin alone
changes (DEDUCED, log entry 21). Given where RESET stands asserted already it is a fresh assertion (DESIGN CHOICE, log
entry 34). -/
def execPinRunning (s : State) : Host.Outcome State Fault Refusal :=
  done (match s.phase with
    | .held => s.setResetPin true
    | _ => (s.runningReset .pinRunning).setResetPin true)

/-- RESET_RELEASE (R165): the port answers again from the next START. -/
def execResetRelease (s : State) : Host.Outcome State Fault Refusal := done (s.setResetPin false)

end Sys2Proof.Machine
end

