-- ==== Sys2Proof/Machine/LocalPort.lean ====
section
/-! DEFINITION. The local port (Chapter 9): addressing, transactions, the register pointer, each register's write and
read, the table window, and the two commands of the event unit that the port carries or the hour mark gives. -/

namespace Sys2Proof.Machine

/-! ## Registers (12.4) -/

/-- The registers of the window, by what they do. -/
inductive Register where
  | identification (n : Nat)
  | pageSelect
  | statusArea (n : Nat)
  | resetCause
  | eventWord (w : EventWord)
  | maskWord (w : EventWord)
  | irqControl
  | requestKind
  | parameter (n : Fin 8)
  | go
  | result (n : Nat)
  | tableSelect
  | tablePointerLow
  | tablePointerHigh
  | tableData
  | runningReset
  | mirror (n : Nat)
  | unused
deriving DecidableEq, Repr

/-- The four words in the order of their offsets (12.4). -/
def wordAt (n : Nat) : EventWord :=
  match n with
  | 0 => .fan
  | 1 => .core
  | 2 => .service
  | _ => .system

/-- The register at an offset (12.4). -/
def Register.at (pointer : BitVec 6) : Register :=
  let n := pointer.toNat
  if n < 0x03 then .identification n
  else if n = 0x03 then .pageSelect
  else if n < 0x14 then .statusArea (n - 0x04)
  else if n = 0x14 then .resetCause
  else if n < 0x19 then .eventWord (wordAt (n - 0x15))
  else if n < 0x1D then .maskWord (wordAt (n - 0x19))
  else if n = 0x1D then .irqControl
  else if n = 0x1E then .requestKind
  else if n < 0x27 then .parameter (Fin.ofNat 8 (n - 0x1F))
  else if n = 0x27 then .go
  else if n < 0x2C then .result (n - 0x28)
  else if n = 0x2C then .tableSelect
  else if n = 0x2D then .tablePointerLow
  else if n = 0x2E then .tablePointerHigh
  else if n = 0x2F then .tableData
  else if n = 0x30 then .runningReset
  else if n < 0x3D then .mirror (n - 0x31)
  else .unused

/-- The register that the pointer names. -/
def LocalPort.register (lp : LocalPort) : Register := Register.at lp.pointer

/-- The pointer advanced, wrapping from 63 to 0 (R167). -/
def LocalPort.advance (lp : LocalPort) : LocalPort := { lp with pointer := lp.pointer + 1 }

/-- A byte sent, and the pointer advanced (R167). -/
def LocalPort.send (lp : LocalPort) (b : Byte) : LocalPort := { lp with sent := b }.advance

/-! ## Addressing and the end of a transaction (R165, R166, R170, R174) -/

/-- The port answers: the part runs, attached, with RESET released (R165, R191). -/
def State.portAnswers (s : State) : Bool := s.phase == .running && !s.standAlone && !s.resetPin

/-- The 7-bit target address (R165). -/
def State.targetAddress (s : State) : Nat := 0x2C + s.straps.a.val

/-- The record that a pending GO makes of the request block (R131, R170). -/
def LocalPort.request (lp : LocalPort) : Request := Request.ofParams .unit lp.requestKind lp.params.toList

/-- The end of a transaction in progress: a requested running reset discards a pending request (R174); otherwise a pending
request is taken (R170). -/
def State.endTransaction (s : State) : State :=
  if s.lp.stage = .idle then s
  else
    let t := s.setLp { s.lp with stage := .idle }
    if s.lp.resetRequested then t.runningReset .portRunning
    else if s.lp.pending then t.submit s.lp.request
    else t

/-- An address byte that the port acknowledges: a write awaits its offset, a read goes on from the pointer (R165, R167). -/
def LocalPort.addressed (lp : LocalPort) (read : Bool) : LocalPort :=
  { lp with stage := if read then .reading else .awaitOffset, acked := true }

/-- An address byte of another target, or with the port silent: it is not acknowledged, and it ends a transaction in
progress (R165, R166; DEDUCED, log entry 23). -/
def State.notAddressed (s : State) : State :=
  let t := s.endTransaction
  t.setLp { t.lp with acked := false }

/-- ADDRESS_BYTE (R165). The part's own address is acknowledged whatever transaction the byte stands in: also at a
repeated START, with no STOP, after one to another target, where R165 has SDA released for the rest of the transaction
(DESIGN CHOICE, log entry 36). -/
def execAddressByte (b : Byte) (s : State) : Host.Outcome State Fault Refusal :=
  done (s.unlessHeld fun s =>
    if s.portAnswers && b.toNat / 2 == s.targetAddress then s.setLp (s.lp.addressed (b.getLsbD 0))
    else s.notAddressed)

/-- TRANSACTION_END (R170). -/
def execTransactionEnd (s : State) : Host.Outcome State Fault Refusal :=
  done (s.whenRunning State.endTransaction)

/-- OFFSET_WRITE (R167). -/
def execOffsetWrite (b : Byte) (s : State) : Host.Outcome State Fault Refusal :=
  done (s.whenRunning fun s =>
    if s.lp.stage = .awaitOffset then s.setLp { s.lp with stage := .writing, pointer := b.setWidth 6 } else s)

/-! ## Writes -/

/-- A data byte is being written: what it does depends on the register that the pointer names. -/
def State.writing (s : State) (f : Register → State → State) : State :=
  s.whenRunning fun s => if s.lp.stage = .writing then f s.lp.register s else s

/-- The state with the port's record replaced and its pointer advanced. -/
def State.setLpNext (s : State) (lp : LocalPort) : State := s.setLp lp.advance

/-- REGISTER_WRITE (R168): the registers whose write has no row of its own. The request block stores the byte; table data
moves no pointer (R172); the others ignore the byte, and the pointer advances (R167). -/
def execRegisterWrite (b : Byte) (s : State) : Host.Outcome State Fault Refusal :=
  done (s.writing fun r s =>
    match r with
    | .requestKind => s.setLpNext { s.lp with requestKind := b }
    | .parameter n => s.setLpNext { s.lp with params := setAt s.lp.params n b }
    | .identification _ | .statusArea _ | .resetCause | .eventWord _ | .result _ | .mirror _ | .unused =>
      s.setLpNext s.lp
    | .tableData | .pageSelect | .maskWord _ | .irqControl | .go | .tableSelect | .tablePointerLow
    | .tablePointerHigh | .runningReset => s)

/-- STATUS_PAGE_SELECT_WRITE (R169). -/
def execStatusPageSelectWrite (b : Byte) (s : State) : Host.Outcome State Fault Refusal :=
  done (s.writing fun r s =>
    if r = .pageSelect then
      s.setLpNext { s.lp with pageSelect := b, pageSnapshot := none, mirrorSnapshot := none }
    else s)

/-- MASK_WRITE (R177). -/
def execMaskWrite (b : Byte) (s : State) : Host.Outcome State Fault Refusal :=
  done (s.writing fun r s =>
    match r with
    | .maskWord w => (s.setEu (s.eu.writeMask w b)).setLpNext s.lp
    | _ => s)

/-- A write of the IRQ control register (R176, R177): both of its bits act in the one arrival (log entry
24). -/
def State.controlIrq (s : State) (b : Byte) : State :=
  s.writing fun r s => if r = .irqControl then (s.setEu (s.eu.control b)).setLpNext s.lp else s

/-- SUSPEND (R177). -/
def execSuspend (b : Byte) (s : State) : Host.Outcome State Fault Refusal := done (s.controlIrq b)

/-- ACK_ALL (R176): the write has the ACK_ALL bit set. -/
def execAckAll (b : Byte) (s : State) : Host.Outcome State Fault Refusal := done (s.controlIrq (b ||| 0x02))

/-- GO (R170): of any value. -/
def execGo (_b : Byte) (s : State) : Host.Outcome State Fault Refusal :=
  done (s.writing fun r s => if r = .go then s.setLpNext { s.lp with pending := true } else s)

/-- TABLE_SELECT_WRITE (R172). -/
def execTableSelectWrite (b : Byte) (s : State) : Host.Outcome State Fault Refusal :=
  done (s.writing fun r s =>
    if r = .tableSelect then s.setLpNext { s.lp with tableSelect := b, tablePointer := 0, entrySnapshot := none }
    else s)

/-- TABLE_POINTER_WRITE (R172): the low or the high byte, at once. -/
def execTablePointerWrite (b : Byte) (s : State) : Host.Outcome State Fault Refusal :=
  done (s.writing fun r s =>
    match r with
    | .tablePointerLow =>
      s.setLpNext { s.lp with
        tablePointer := wordOf b ((s.lp.tablePointer >>> 8).setWidth 8)
        entrySnapshot := none }
    | .tablePointerHigh =>
      s.setLpNext { s.lp with tablePointer := wordOf (s.lp.tablePointer.setWidth 8) b, entrySnapshot := none }
    | _ => s)

/-- RUNNING_RESET_REQUEST (R174): 0xA5 requests it, any other value is ignored. -/
def execRunningResetRequest (b : Byte) (s : State) : Host.Outcome State Fault Refusal :=
  done (s.writing fun r s =>
    if r = .runningReset then
      s.setLpNext { s.lp with resetRequested := s.lp.resetRequested || b == 0xA5 }
    else s)

/-! ## Reads -/

/-- A data byte is being read: what it does depends on the register that the pointer names. -/
def State.reading (s : State) (f : Register → State → State) : State :=
  s.whenRunning fun s => if s.lp.stage = .reading then f s.lp.register s else s

/-- A copy read at byte `n`: taken afresh at the first byte, or when there is none (R169). -/
def copyAt (n : Nat) (held : Option (List Byte)) (fresh : List Byte) : List Byte :=
  if n = 0 then fresh else held.getD fresh

/-- A byte of a copy. -/
def byteAt (l : List Byte) (n : Nat) : Byte := l.getD n 0

/-- STATUS_AREA_READ (R169). -/
def execStatusAreaRead (s : State) : Host.Outcome State Fault Refusal :=
  done (s.reading fun r s =>
    match r with
    | .statusArea n =>
      let page := copyAt n s.lp.pageSnapshot (s.statusPage s.lp.pageSelect)
      s.setLp ({ s.lp with pageSnapshot := some page }.send (byteAt page n))
    | _ => s)

/-- What a copy of the mirror is made of: the current digest and the port's own result (R169). -/
def State.mirror (s : State) : List Byte := s.rl.digest ++ answerBytes s.lp.answer

/-- DIGEST_MIRROR_READ (R169). -/
def execDigestMirrorRead (s : State) : Host.Outcome State Fault Refusal :=
  done (s.reading fun r s =>
    match r with
    | .mirror n =>
      let copy := copyAt n s.lp.mirrorSnapshot s.mirror
      s.setLp ({ s.lp with mirrorSnapshot := some copy }.send (byteAt copy n))
    | _ => s)

/-- EVENT_WORD_READ (R176). -/
def execEventWordRead (s : State) : Host.Outcome State Fault Refusal :=
  done (s.reading fun r s =>
    match r with
    | .eventWord w => (s.setEu (s.eu.clearWord w)).setLp (s.lp.send (s.eu.flags.get w))
    | _ => s)

/-- The entry that the snapshot holds for a read at byte `off` of entry `i` (R173). -/
def State.entryFor (s : State) (t : Table) (i off : Nat) : List Byte :=
  match s.lp.entrySnapshot with
  | some e => if off = 0 ∨ e.index ≠ i then s.tableEntry t i else e.bytes
  | none => s.tableEntry t i

/-- The port after a read of table data: the byte sent, the table pointer advanced, the register pointer left (R172). -/
def LocalPort.sendTable (lp : LocalPort) (b : Byte) (snapshot : Option EntrySnapshot) : LocalPort :=
  { lp with sent := b, tablePointer := lp.tablePointer + 1, entrySnapshot := snapshot }

/-- A read of table data (R172, R173): at or beyond the end of the table it returns 0 and takes no snapshot. -/
def State.readTable (s : State) : State :=
  let p := s.lp.tablePointer.toNat
  match Table.ofSelect s.lp.tableSelect with
  | none => s.setLp (s.lp.sendTable 0 s.lp.entrySnapshot)
  | some t =>
    if p < t.count * t.size then
      let i := p / t.size
      let e := s.entryFor t i (p % t.size)
      s.setLp (s.lp.sendTable (byteAt e (p % t.size)) (some { index := i, bytes := e }))
    else s.setLp (s.lp.sendTable 0 s.lp.entrySnapshot)

/-- TABLE_DATA_READ (R172). -/
def execTableDataRead (s : State) : Host.Outcome State Fault Refusal :=
  done (s.reading fun r s => if r = .tableData then s.readTable else s)

/-- The identification bytes (12.4). -/
def identification (n : Nat) : Byte :=
  match n with
  | 0 => 0x72
  | 1 => 0x0B
  | _ => 0x01

/-- The result's flags: bit 0 pending, bit 1 store busy (12.4, R171). -/
def State.resultFlags (s : State) : Byte := byteOf (bitAt s.lp.pending 0 + bitAt (s.ss.store != .idle) 1)

/-- The result: outcome, kind answered, result count, flags (12.4). -/
def State.resultBytes (s : State) : List Byte := answerBytes s.lp.answer ++ [s.lp.resultCount, s.resultFlags]

/-- What a register without a read rule of its own returns (R168): a write-only register and an offset that holds no
register return 0 (R167). -/
def State.registerValue (s : State) : Register → Option Byte
  | .identification n => some (identification n)
  | .pageSelect => some s.lp.pageSelect
  | .resetCause => some (byteOf s.ss.cause.code)
  | .maskWord w => some (s.eu.masks.get w)
  | .irqControl => some (byteOf (bitAt s.eu.suspended 0))
  | .requestKind => some s.lp.requestKind
  | .parameter n => some s.lp.params[n]
  | .go => some 0
  | .result n => some (byteAt s.resultBytes n)
  | .tableSelect => some s.lp.tableSelect
  | .tablePointerLow => some (s.lp.tablePointer.setWidth 8)
  | .tablePointerHigh => some ((s.lp.tablePointer >>> 8).setWidth 8)
  | .runningReset => some 0
  | .unused => some 0
  | .statusArea _ | .eventWord _ | .tableData | .mirror _ => none

/-- REGISTER_READ (R167). -/
def execRegisterRead (s : State) : Host.Outcome State Fault Refusal :=
  done (s.reading fun r s =>
    match s.registerValue r with
    | some b => s.setLp (s.lp.send b)
    | none => s)

/-! ## The hour mark (R180) -/

/-- HOUR_MARK (R180): with counter_snapshot on, all copies are set from the live values together. -/
def execHourMark (s : State) : Host.Outcome State Fault Refusal :=
  done (s.unlessHeld fun s => if s.settings.counterSnapshot then s.setEu s.eu.copyAll else s)

end Sys2Proof.Machine
end

