-- ==== Sys2Proof/Machine/RoomLink.lean ====
section
/-! DEFINITION. Poll rounds, one poll and its replies (8.2 to 8.5). -/

namespace Sys2Proof.Machine

/-! ## Rounds (R148) -/

/-- The slots of the listed addresses in ascending order. -/
def Settings.pollSlots (set : Settings) : List (Fin 15) := (List.finRange 15).filter fun i => set.listed (i.val + 1)

/-- An address is due (R148, R149): it is listed, and its state calls for a poll in this round (DEDUCED, log
entry 18). -/
def State.due (s : State) (i : Fin 15) : Bool :=
  s.settings.listed (i.val + 1) &&
    match (s.slot i).state with
    | .unknown | .present => true
    | .missing => s.rl.roundCounter % 8 == 0
    | .lost => s.rl.roundCounter == 0

/-- The first address that is due, with those after it. -/
def nextDue (due : Fin 15 → Bool) : List (Fin 15) → Option (Fin 15 × List (Fin 15))
  | [] => none
  | i :: l => if due i then some (i, l) else nextDue due l

/-- A round can start: the feed is on, no poll is in progress, and the round before has no address left that is due. -/
def State.roundOver (s : State) : Bool := s.rl.feed && s.rl.stage == .idle && (nextDue s.due s.rl.round).isNone

/-- POLL_ROUND_START (R148). -/
def execPollRoundStart (s : State) : Host.Outcome State Fault Refusal :=
  done (s.whenRunning fun s =>
    if s.roundOver then
      s.setRl { s.rl with roundCounter := (s.rl.roundCounter + 1) % 32, round := s.settings.pollSlots }
    else s)

/-! ## The CALL (R150, R156) -/

/-- The CALL to a slot's address as the poll starts. -/
def State.callTo (s : State) (i : Fin 15) : List Byte :=
  callFrame (i.val + 1) (s.digestCommon ++ answerBytes (s.slot i).lastOutcome)

/-- POLL_START (R150): the next address that is due, judged as its turn comes. -/
def execPollStart (s : State) : Host.Outcome State Fault Refusal :=
  done (s.whenRunning fun s =>
    if s.rl.feed && s.rl.stage == .idle then
      match nextDue s.due s.rl.round with
      | none => s
      | some (i, rest) =>
        s.setRl { s.rl with
          round := rest
          stage := .calling i
          digest := s.digestCommon
          callFrame := s.callTo i }
    else s)

/-- CALL_SENT (R150, R157): the last outcome has been delivered and the reply window opens. -/
def execCallSent (s : State) : Host.Outcome State Fault Refusal :=
  done (s.whenRunning fun s =>
    match s.rl.stage with
    | .calling i =>
      let t := s.withSlot i { s.slot i with lastOutcome := none }
      t.setRl { t.rl with stage := .window i }
    | _ => s)

/-! ## The end of a poll (R149, R151) -/

/-- The poll ends; a loss by the poll list that was held back is taken now (R149; DEDUCED, log entry 17). -/
def State.endPoll (s : State) (i : Fin 15) : State :=
  let t := s.setRl { s.rl with stage := .idle, lossDue := false }
  if s.rl.lossDue then t.leaveList i else t

/-- A poll that is a miss. -/
def State.missedPoll (s : State) (i : Fin 15) : State := (s.slotMiss i).endPoll i

/-- A poll that is a frame error and a miss (R151, cases 2 to 4). -/
def State.badPoll (s : State) (i : Fin 15) : State := (s.count .linkFrameErrors).missedPoll i

/-- The source address of a reply: the low nibble of its address byte (R147). -/
def sourceAddress (address : Byte) : Nat := address.toNat % 16

/-- A reply in the window of a poll: from another address, or of a length outside its kind's, it is a frame error
(R151); otherwise the slot is updated first and the content handled after it (R152). -/
def State.reply (s : State) (address : Byte) (fits : Bool) (content : State → Fin 15 → State) : State :=
  s.whenRunning fun s =>
    match s.rl.stage with
    | .window i =>
      if fits && sourceAddress address == i.val + 1 then (content (s.slotGood i) i).endPoll i else s.badPoll i
    | _ => s

/-- REPLY_WINDOW_END (R151, case 1). -/
def execReplyWindowEnd (s : State) : Host.Outcome State Fault Refusal :=
  done (s.whenRunning fun s =>
    match s.rl.stage with
    | .window i => s.missedPoll i
    | _ => s)

/-- BAD_REPLY_END (R151, cases 2 and 3; log entry 27). -/
def execBadReplyEnd (s : State) : Host.Outcome State Fault Refusal :=
  done (s.whenRunning fun s =>
    match s.rl.stage with
    | .window i => s.badPoll i
    | _ => s)

/-! ## Contents (R152 to R155) -/

/-- An ASK is handed to the request handler from addresses 1 to 4 and 15, and ignored from the others (R152, R153). -/
def State.askContent (payload : List Byte) (s : State) (i : Fin 15) : State :=
  match slotMaster i with
  | none => s
  | some m => s.submit (Request.ofAsk m payload)

/-- What a TELL leaves in the slot (R154): flag bit 0 marks the temperature absent. -/
def tellOf (temperature humidity : Word16) (flags : Byte) : TellContents where
  temperature := if flags.getLsbD 0 then none else some temperature
  humidity := humidity
  flags := flags

/-- A TELL is stored from addresses 1 to 4, and its humidity handed to the humidity manager (R154). -/
def State.tellContent (temperature humidity : Word16) (flags : Byte) (s : State) (i : Fin 15) : State :=
  if h : i.val < 4 then
    (s.withSlot i { s.slot i with tell := some (tellOf temperature humidity flags) }).reportHumidity ⟨i.val, h⟩
      humidity.toNat
  else s

/-- A HEAT frame is heard from heat_address (R155). -/
def State.heatContent (call : Byte) (s : State) (i : Fin 15) : State :=
  if i.val + 1 = s.settings.heatAddress then s.heatCall call else s

/-- The payload lengths of an ASK (R147). -/
def askFits (payload : List Byte) : Bool := decide (1 ≤ payload.length) && decide (payload.length ≤ 12)

/-- IDLE_REPLY (R152): presence only. -/
def execIdleReply (address : Byte) (s : State) : Host.Outcome State Fault Refusal :=
  done (s.reply address true fun s _ => s)

/-- ASK_REPLY (R153). -/
def execAskReply (address : Byte) (payload : List Byte) (s : State) : Host.Outcome State Fault Refusal :=
  done (s.reply address (askFits payload) (State.askContent payload))

/-- TELL_REPLY (R154). -/
def execTellReply (address : Byte) (temperature humidity : Word16) (flags : Byte) (s : State) :
    Host.Outcome State Fault Refusal :=
  done (s.reply address true (State.tellContent temperature humidity flags))

/-- HEAT_REPLY (R155). -/
def execHeatReply (address : Byte) (call : Byte) (s : State) : Host.Outcome State Fault Refusal :=
  done (s.reply address true (State.heatContent call))

end Sys2Proof.Machine
end

