-- ==== Sys2Proof/Machine/Dispatch.lean ====
section
/-! DEFINITION. One arm for each command of the table. -/

namespace Sys2Proof.Machine

def exec (i : Instr) (s : State) : Host.Outcome State Fault Refusal :=
  match i with
  | .power straps => Sys2Proof.Machine.execPower straps s
  | .supplyDip straps => Sys2Proof.Machine.execSupplyDip straps s
  | .pinMaster straps => Sys2Proof.Machine.execPinMaster straps s
  | .pinRunning => Sys2Proof.Machine.execPinRunning s
  | .masterResetEnd => Sys2Proof.Machine.execMasterResetEnd s
  | .settingsLoadComplete => Sys2Proof.Machine.execSettingsLoadComplete s
  | .channelSample ch reading => Sys2Proof.Machine.execChannelSample ch reading s
  | .inject src channel mode => Sys2Proof.Machine.execInject src channel mode s
  | .pullcordPinChange cord high => Sys2Proof.Machine.execPullcordPinChange cord high s
  | .debounceExpiry cord => Sys2Proof.Machine.execDebounceExpiry cord s
  | .longHold cord => Sys2Proof.Machine.execLongHold cord s
  | .base src p => Sys2Proof.Machine.execBase src p s
  | .boost src p => Sys2Proof.Machine.execBoost src p s
  | .away src p => Sys2Proof.Machine.execAway src p s
  | .purge src p => Sys2Proof.Machine.execPurge src p s
  | .quiet src p => Sys2Proof.Machine.execQuiet src p s
  | .shutdown src p => Sys2Proof.Machine.execShutdown src p s
  | .withdraw src kind => Sys2Proof.Machine.execWithdraw src kind s
  | .demandExpiry => Sys2Proof.Machine.execDemandExpiry s
  | .tachoPulse port micros => Sys2Proof.Machine.execTachoPulse port micros s
  | .controlStep => Sys2Proof.Machine.execControlStep s
  | .holdoffExpiry fan => Sys2Proof.Machine.execHoldoffExpiry fan s
  | .startTimeExpiry fan => Sys2Proof.Machine.execStartTimeExpiry fan s
  | .retryWaitExpiry fan => Sys2Proof.Machine.execRetryWaitExpiry fan s
  | .clearLockoutFan src target => Sys2Proof.Machine.execClearLockoutFan src target s
  | .frostEvaluation => Sys2Proof.Machine.execFrostEvaluation s
  | .preheatWindowStart => Sys2Proof.Machine.execPreheatWindowStart s
  | .preheatOnTimeEnd => Sys2Proof.Machine.execPreheatOnTimeEnd s
  | .damperTimerExpiry => Sys2Proof.Machine.execDamperTimerExpiry s
  | .endSwitchMade sw made => Sys2Proof.Machine.execEndSwitchMade sw made s
  | .clearLockoutBypass src => Sys2Proof.Machine.execClearLockoutBypass src s
  | .humidityEvaluation => Sys2Proof.Machine.execHumidityEvaluation s
  | .filterAccumulation => Sys2Proof.Machine.execFilterAccumulation s
  | .filterAssessment => Sys2Proof.Machine.execFilterAssessment s
  | .filterBegin src id => Sys2Proof.Machine.execFilterBegin src id s
  | .filterDone src id => Sys2Proof.Machine.execFilterDone src id s
  | .filterAbandon src id => Sys2Proof.Machine.execFilterAbandon src id s
  | .changeDeadlineExpiry side => Sys2Proof.Machine.execChangeDeadlineExpiry side s
  | .filterSaveStart => Sys2Proof.Machine.execFilterSaveStart s
  | .filterSaveComplete => Sys2Proof.Machine.execFilterSaveComplete s
  | .setSeason src season => Sys2Proof.Machine.execSetSeason src season s
  | .seasonTimer => Sys2Proof.Machine.execSeasonTimer s
  | .unknownRequest src code => Sys2Proof.Machine.execUnknownRequest src code s
  | .pollRoundStart => Sys2Proof.Machine.execPollRoundStart s
  | .pollStart => Sys2Proof.Machine.execPollStart s
  | .callSent => Sys2Proof.Machine.execCallSent s
  | .replyWindowEnd => Sys2Proof.Machine.execReplyWindowEnd s
  | .badReplyEnd => Sys2Proof.Machine.execBadReplyEnd s
  | .idleReply address => Sys2Proof.Machine.execIdleReply address s
  | .askReply address payload => Sys2Proof.Machine.execAskReply address payload s
  | .tellReply address temperature humidity flags => Sys2Proof.Machine.execTellReply address temperature humidity flags s
  | .heatReply address call => Sys2Proof.Machine.execHeatReply address call s
  | .slotTimer => Sys2Proof.Machine.execSlotTimer s
  | .addressByte b => Sys2Proof.Machine.execAddressByte b s
  | .transactionEnd => Sys2Proof.Machine.execTransactionEnd s
  | .offsetWrite b => Sys2Proof.Machine.execOffsetWrite b s
  | .registerWrite b => Sys2Proof.Machine.execRegisterWrite b s
  | .statusPageSelectWrite b => Sys2Proof.Machine.execStatusPageSelectWrite b s
  | .statusAreaRead => Sys2Proof.Machine.execStatusAreaRead s
  | .digestMirrorRead => Sys2Proof.Machine.execDigestMirrorRead s
  | .eventWordRead => Sys2Proof.Machine.execEventWordRead s
  | .maskWrite b => Sys2Proof.Machine.execMaskWrite b s
  | .suspend b => Sys2Proof.Machine.execSuspend b s
  | .ackAll b => Sys2Proof.Machine.execAckAll b s
  | .go b => Sys2Proof.Machine.execGo b s
  | .tableSelectWrite b => Sys2Proof.Machine.execTableSelectWrite b s
  | .tablePointerWrite b => Sys2Proof.Machine.execTablePointerWrite b s
  | .tableDataRead => Sys2Proof.Machine.execTableDataRead s
  | .runningResetRequest b => Sys2Proof.Machine.execRunningResetRequest b s
  | .hourMark => Sys2Proof.Machine.execHourMark s
  | .clearCounters src => Sys2Proof.Machine.execClearCounters src s
  | .writeSetting src id value => Sys2Proof.Machine.execWriteSetting src id value s
  | .storeSettings src => Sys2Proof.Machine.execStoreSettings src s
  | .storeStart => Sys2Proof.Machine.execStoreStart s
  | .storeDone => Sys2Proof.Machine.execStoreDone s
  | .storeFailed => Sys2Proof.Machine.execStoreFailed s
  | .resetRelease => Sys2Proof.Machine.execResetRelease s
  | .registerRead => Sys2Proof.Machine.execRegisterRead s

end Sys2Proof.Machine
end

