-- ==== Sys2Proof/Safety.lean ====
section
/-! DEFINITION. What the part keeps at every step: the invariants that the statements of the certificates are written
in. Each is a property of the state alone, and cites the sentence of the spec that says it. -/

namespace Sys2Proof.Machine

/-! ## The event unit (R175, R178) -/

/-- The flags of 10.1. -/
def Flag.all : List Flag :=
  [.supStall, .extStall, .supLockout, .extLockout, .flowLimited, .protectEntered, .defrostStarted, .defrostUnresolved,
   .frostHoldEntered, .frostHoldLeft, .bypassFault, .guardFallback, .supFilterState, .extFilterState, .filterAbsent,
   .changeAbandoned, .humidBoost, .dryProtect, .channelFailed, .channelRecovered, .stationLost, .stationFound,
   .seasonChanged, .entryEvicted, .storeDone, .storeFailed, .defaultsInUse, .counterWrapped]

/-- A flag's mask position is set to unmasked. -/
def EventUnit.unmasked (e : EventUnit) (f : Flag) : Bool := e.masks.get f.word &&& f.mask == 0

/-- An unmasked event flag is set and SUSPEND is clear (R178). -/
def EventUnit.drives (e : EventUnit) : Bool := (Flag.all.any fun f => e.isSet f && e.unmasked f) && !e.suspended

/-- The pin is active exactly when an unmasked flag is set and SUSPEND is clear (R178), and the positions that carry no
flag read 0 (R175). -/
def EventUnit.Coherent (e : EventUnit) : Prop :=
  e.irq = e.drives ∧ e.flags.fan &&& 0xE0 = 0 ∧ e.flags.core &&& 0x80 = 0

/-! ## The airflow engine (R41, R51, R53, R58, R59, R63) -/

/-- What a fan record keeps: Q_r 0 outside RUNNING (R58), the duty of its state (R49, R51, R53, R63), the remainder below
1024 in RUNNING (R63), a speed of at most 6000 (R42), and LOCKED_OUT exactly at the third stall (R53). -/
def FanRecord.Coherent (f : FanRecord) : Prop :=
  (f.state ≠ .running → f.qr = 0) ∧
  (f.state = .running → 100 ≤ f.duty ∧ f.duty ≤ 1000 ∧ f.remainder.natAbs < 1024) ∧
  (f.state = .starting → f.duty = 300) ∧
  (f.state ≠ .running ∧ f.state ≠ .starting → f.duty = 0) ∧
  f.measured ≤ 6000 ∧ f.retries ≤ 3 ∧ (f.state = .lockedOut ↔ f.retries = 3)

/-- Both fans so, the supply flow at most the extract flow (R59), and each port driven at the duty of the fan that it
carries (R41, R65). -/
def State.FansCoherent (s : State) : Prop :=
  s.ae.supply.Coherent ∧ s.ae.extract.Coherent ∧ s.ae.supply.qr ≤ s.ae.extract.qr ∧
  s.ae.dutyA = (s.ae.fan (s.roleOf .a)).duty ∧ s.ae.dutyB = (s.ae.fan (s.roleOf .b)).duty

/-! ## The commissioning record (R188) -/

/-- A setting's value lies in its own range and within its cross-field limits (11.3, R188). -/
def Settings.Admits (set : Settings) (id : SettingId) : Prop :=
  (set.range id).1 ≤ set.get id ∧ set.get id ≤ (set.range id).2 ∧
  (set.crossLimits id).1 ≤ set.get id ∧ set.get id ≤ (set.crossLimits id).2

/-- Every setting of the record is so, and the poll list lists no address 0 (12.5). -/
def Settings.Legal (set : Settings) : Prop := (∀ id, set.Admits id) ∧ set.listed 0 = false

/-- The working record, and the contents of the stored copy, meet every limit (R188). -/
def State.RecordLegal (s : State) : Prop := s.ss.working.Legal ∧ s.ss.stored.contents.Legal

/-! ## The frost guard (R71, R76, R85) -/

/-- The fraction and the proportion of a frost state (R85, 4.4). -/
def FrostRecord.FractionFits (r : FrostRecord) (minFraction : Nat) : Prop :=
  match r.state with
  | .inactive | .watch => r.fraction = 1000 ∧ r.proportion = 0
  | .defrost | .frostHold => r.fraction = 0 ∧ r.proportion = 0
  | .protect | .recover | .fallback =>
    minFraction ≤ r.fraction ∧ r.fraction ≤ 1000 ∧ r.proportion % 200 = 0 ∧ r.proportion ≤ 1000

/-- What the frost record keeps: the fraction of its state, windows within their bounds (4.1), the history below 3600
(R76), and each elapsed time present in its own state alone. -/
def FrostRecord.Coherent (r : FrostRecord) (minFraction : Nat) : Prop :=
  r.FractionFits minFraction ∧ r.window.length ≤ 6 ∧ r.history.length ≤ 4 ∧ (∀ a ∈ r.history, a < 3600) ∧
  (r.origin.isSome ↔ r.state = .defrost) ∧ (r.defrostElapsed.isSome ↔ r.state = .defrost) ∧
  (r.holdElapsed.isSome ↔ r.state = .frostHold)

/-- The frost record is so for the working min_fraction. -/
def State.FrostCoherent (s : State) : Prop := s.fg.Coherent s.settings.minFraction

/-! ## Pre-heater and damper (R87 to R96) -/

/-- The PREHEAT output is on only with a pre-heater fitted, a proportion above 0 and the supply fan RUNNING (R87, R88,
R89). -/
def State.HeaterSafe (s : State) : Prop :=
  s.preheat.output = true → s.preheaterFitted = true ∧ s.ae.supply.state = .running ∧ s.fg.proportion ≠ 0

/-- The motor drive of a damper state (R92, R94), and an allowance during a travel alone. -/
def Damper.Coherent (d : Damper) : Prop :=
  (match d.state with
    | .opening => d.drive = .opening
    | .closing => d.drive = .closing
    | .opened | .closed => d.drive = .off
    | .fault => d.drive ≠ .opening) ∧
  (d.allowance.isSome ↔ d.travelling = true) ∧ (d.elapsed.isSome ↔ d.travelling = true)

/-- The damper is so; outside INACTIVE it is neither OPEN nor OPENING (R91, R96); without a damper the record is CLOSED
and nothing is wanted open (R90). -/
def State.DamperSafe (s : State) : Prop :=
  s.damper.Coherent ∧ (s.fg.state ≠ .inactive → s.damper.state ≠ .opened ∧ s.damper.state ≠ .opening) ∧
  (s.damperFitted = false → s.damper.state = .closed ∧ s.fg.wantedOpen = false)

/-! ## The demand table (R17, R20, R22, R26, R105) -/

/-- The pair of an entry. -/
def Entry.pair (e : Entry) : Source × DemandKind := (e.source, e.kind)

/-- A cord's slot holds a BOOST or a PURGE of its own (R14, R15). -/
def Entry.OfCord (e : Entry) (c : Cord) : Prop := e.source = .cord c ∧ (e.kind = .boost ∨ e.kind = .purge)

/-- The general part: at most 12 entries, one for each pair, of master sources, with durations from 1 to 14400 (R17, R20,
R22). The cords' slots hold their own kinds. -/
def DemandTable.Coherent (t : DemandTable) : Prop :=
  t.general.length ≤ 12 ∧ (t.general.map Entry.pair).Nodup ∧
  (∀ e ∈ t.general, (∃ m, e.source = .master m) ∧ ∀ d, e.remaining = some d → 1 ≤ d ∧ d ≤ 14400) ∧
  (∀ e, t.pcK = some e → e.OfCord .kitchen) ∧ (∀ e, t.pcB = some e → e.OfCord .bathroom)

/-- What the HUMIDITY slot holds for a slot view (R105): the entry of that kind, with no duration. -/
def SlotNames (v : SlotView) (e : Option Entry) : Prop :=
  match v with
  | .none => e = none
  | .boost => ∃ x, e = some x ∧ x.source = .humidity ∧ x.kind = .boost ∧ x.remaining = none
  | .away => ∃ x, e = some x ∧ x.source = .humidity ∧ x.kind = .away ∧ x.remaining = none

/-- The table is so, the slot view names what the HUMIDITY slot holds, and boost elapsed is present with a boost alone
(R105, 5.1). -/
def State.TableCoherent (s : State) : Prop :=
  s.da.table.Coherent ∧ SlotNames s.hm.view s.da.table.humidity ∧ (s.hm.boostElapsed.isSome ↔ s.hm.view = .boost) ∧
  s.hm.rise.length ≤ 30 ∧ s.hm.dryCount ≤ 30

/-! ## The flow plan (R33, R34, R39) -/

/-- The plan that the table, the filter states and the settings give at this moment. -/
def State.planNow (s : State) : FlowPlan :=
  resolve s.settings s.da.table s.fm.changing
    (min (contribution s.settings s.fm.supply) (contribution s.settings s.fm.extract))

/-- In the running part each contribution is that of its filter's state (R33), and the plan record holds the plan that the
table and its other inputs give (R34, R39). -/
def State.PlanCurrent (s : State) : Prop :=
  s.phase = .running →
    s.da.supplyCeiling = contribution s.settings s.fm.supply ∧
    s.da.extractCeiling = contribution s.settings s.fm.extract ∧ s.da.plan = s.planNow

/-! ## Filter changes (R123 to R129) -/

/-- CHANGING, an owner, a deadline and a saved state stand and fall together, and the saved state is not CHANGING
(R123 to R125). -/
def FilterRecord.Coherent (f : FilterRecord) : Prop :=
  (f.owner.isSome ↔ f.state = .changing) ∧ (f.deadline.isSome ↔ f.state = .changing) ∧
  (f.saved.isSome ↔ f.state = .changing) ∧ f.saved ≠ some .changing

/-- Both filters are so, and no stored filter record holds CHANGING as its saved state (R128, R129). -/
def State.ChangesCoherent (s : State) : Prop :=
  s.fm.supply.Coherent ∧ s.fm.extract.Coherent ∧ s.ss.storedSupply.contents.saved ≠ some .changing ∧
  s.ss.storedExtract.contents.saved ≠ some .changing ∧
  ∀ r, s.ss.saving = some r → r.1.contents.saved ≠ some .changing ∧ r.2.contents.saved ≠ some .changing

/-! ## Lost partners (R162) -/

/-- A master source holds nothing: no entry of the general part and no filter change. -/
def State.HoldsNothing (s : State) (m : Master) : Prop :=
  (∀ e ∈ s.da.table.general, e.source ≠ .master m) ∧ s.fm.supply.owner ≠ some m ∧ s.fm.extract.owner ≠ some m

/-- A LOST slot is at its master reset values but for the state; its source holds nothing, and its station's acceptance
record is empty (R162). -/
def State.LostHoldNothing (s : State) : Prop :=
  ∀ i, (s.slot i).state = .lost →
    s.slot i = Slot.lost ∧ (∀ m, slotMaster i = some m → s.HoldsNothing m) ∧
    ∀ h : i.val < 4, s.hm.stations[i.val] = Acceptance.initial

/-! ## The local port (R131, R165) -/

/-- While the port does not answer, no transaction is in progress; and in stand-alone strapping the unit processor holds
nothing (R17, R165). -/
def State.PortSilent (s : State) : Prop :=
  (s.portAnswers = false → s.lp.stage = .idle) ∧ (s.standAlone = true → s.HoldsNothing .unit)

/-! ## All together -/

/-- Every invariant of this file. -/
structure State.Sound (s : State) : Prop where
  events : s.eu.Coherent
  fans : s.FansCoherent
  record : s.RecordLegal
  frost : s.FrostCoherent
  heater : s.HeaterSafe
  damper : s.DamperSafe
  table : s.TableCoherent
  plan : s.PlanCurrent
  changes : s.ChangesCoherent
  lost : s.LostHoldNothing
  port : s.PortSilent

/-! ## The codes of 12.3 in their order, and the fields of Chapter 12 as bytes -/

/-- The reasons, from code 0. -/
def reasonCodes : List Reason :=
  [.filterChange, .shutdown, .purge, .boost, .quiet, .ceiling, .away, .base, .default]

/-- The frost states, from code 0. -/
def frostCodes : List FrostState := [.inactive, .watch, .protect, .defrost, .recover, .frostHold, .fallback]

/-- The filter states, from code 0. -/
def filterCodes : List FilterState := [.learning, .clean, .loading, .loaded, .blocked, .absent, .changing]

/-- The fan states, from code 0. -/
def fanCodes : List FanState := [.stopped, .holdoff, .starting, .running, .stalled, .lockedOut]

/-- The damper states, from code 0. -/
def damperCodes : List DamperState := [.closed, .opening, .opened, .closing, .fault]

/-- The motor drives of 12.5, from code 0. -/
def driveCodes : List MotorDrive := [.off, .opening, .closing]

/-- The channel states, from code 0. -/
def channelCodes : List ChannelState := [.valid, .suspect, .failed]

/-- The injection modes of 12.2, from code 0. -/
def injectCodes : List InjectMode := [.none, .single, .hold]

/-- The slot states, from code 0. -/
def slotCodes : List SlotState := [.unknown, .present, .missing, .lost]

/-- The results of the latest assessment, from code 0. -/
def assessmentCodes : List Assessment := [.none, .assessed, .notReady, .lowFlow, .unsteady, .channel, .changing]

/-- The values of Last set by, from code 0. -/
def lastSetCodes : List LastSetBy :=
  [.none, .heatCall, .noCall, .master .tool, .master .unit, .master (.station 0), .master (.station 1),
   .master (.station 2), .master (.station 3)]

/-- The outcomes, from code 1; NONE is 0. -/
def outcomeCodes : List RequestOutcome :=
  [.done, .doneClamped, .doneNothing, .refusedPermission, .refusedUnknown, .tableFull, .owned, .busy, .notApplicable]

/-- The sources, from code 1; the empty code is 0. -/
def sourceCodes : List Source :=
  [.master .tool, .master .unit, .master (.station 0), .master (.station 1), .master (.station 2), .master (.station 3),
   .cord .kitchen, .cord .bathroom, .humidity]

/-- The demand kinds, from code 1. -/
def demandCodes : List DemandKind := [.base, .boost, .away, .purge, .quiet, .shutdown]

/-- The defrost origins of 12.4, from code 0: absent, NORMAL, FALLBACK. -/
def originCodes : List (Option DefrostOrigin) := [none, some .normal, some .fallback]

/-- The code of a source that may be absent (R192). -/
def sourceOr0 (m : Option Master) : Byte := BitVec.ofNat 8 ((m.map fun x => sourceCodes.idxOf (.master x) + 1).getD 0)

/-- The two bytes of an unsigned 16-bit field, low byte first (6.6). -/
def little (n : Nat) : List Byte := [BitVec.ofNat 8 n, BitVec.ofNat 8 (n / 256)]

/-- The two bytes of a signed 16-bit field, two's complement, low byte first (R192, 6.6). -/
def littleSigned (i : Int) : List Byte := [BitVec.ofInt 8 i, BitVec.ofInt 8 (i / 256)]

/-- An unsigned 16-bit field that may be absent (R192). -/
def littleOr (o : Option Nat) : List Byte := (o.map little).getD [0xFF, 0xFF]

/-- A signed 16-bit field that may be absent (R192). -/
def littleSignedOr (o : Option Int) : List Byte := (o.map littleSigned).getD [0x00, 0x80]

/-- A byte whose bit n is the nth of a list, and 0 beyond the list's end. -/
def bitRow (l : List Bool) : Byte :=
  BitVec.ofNat 8 (((List.range 8).map fun n => if l.getD n false then 2 ^ n else 0).sum)

/-- The bytes that a FILTERS entry and a stored filter record have in common (12.5, bytes 0 to 14). -/
def FilterCore.savedBytes (f : FilterCore) : List Byte :=
  [BitVec.ofNat 8 (filterCodes.idxOf f.state), (f.saved.map fun st => BitVec.ofNat 8 (filterCodes.idxOf st)).getD 0xFF] ++
  littleOr f.dpClean ++ little f.volume ++
  [BitVec.ofNat 8 f.accumulator, BitVec.ofNat 8 (f.accumulator / 256), BitVec.ofNat 8 (f.accumulator / 65536)] ++
  little f.runSeconds ++ little f.runHours ++ [BitVec.ofNat 8 f.loadedMarks, BitVec.ofNat 8 f.blockedMarks]

/-- The bytes that status page 3 and the FROST entry have in common (12.4). -/
def State.corePage (s : State) : List Byte :=
  [BitVec.ofNat 8 (frostCodes.idxOf s.fg.state), BitVec.ofNat 8 (originCodes.idxOf s.fg.origin)] ++
  little s.fg.fraction ++ little s.fg.proportion ++ littleSigned s.fg.limit ++
  [ BitVec.ofNat 8 (s.fg.window.count true), bitRow [s.fg.paused, s.preheat.output, s.fg.wantedOpen],
    BitVec.ofNat 8 (damperCodes.idxOf s.damper.state), BitVec.ofNat 8 s.damper.position ]

/-! ## Words that the statements use -/

/-- A request of this source and kind passes the checks of kind and class (R131, R134): the part runs, the source can be
heard, and the allow flag is set. -/
def State.CanAsk (s : State) (src : Master) (k : RequestKind) : Prop :=
  s.phase = .running ∧ s.mayRequest src = true ∧ s.settings.allows k (classOf src) = true

/-- The command of a demand kind. -/
def demandCommand : DemandKind → Master → DemandParams → Instr
  | .base => .base
  | .boost => .boost
  | .away => .away
  | .purge => .purge
  | .quiet => .quiet
  | .shutdown => .shutdown

/-- A command is one of the three causes of a master reset, with the straps as they stand (11.2). -/
def MasterCause (c : Instr) (straps : Straps) (cause : ResetCause) : Prop :=
  (c = .power straps ∧ cause = .power) ∨ (c = .supplyDip straps ∧ cause = .supplyDip) ∨
  (c = .pinMaster straps ∧ cause = .pinMaster)

/-- A poll's reply window is open for slot `i` and the part runs (R150). -/
def State.Listening (s : State) (i : Fin 15) : Prop := s.phase = .running ∧ s.rl.stage = .window i

/-- A transaction with the port stands at a stage, at a register, and the part runs (R167). -/
def State.AtRegister (s : State) (stage : PortStage) (r : Register) : Prop :=
  s.phase = .running ∧ s.lp.stage = stage ∧ s.lp.register = r

/-- The part acts on its measurements: no master reset holds it, and the measurement-ready indication is raised (R6). -/
def State.Acts (s : State) : Prop := s.phase ≠ .held ∧ s.mc.ready = true

/-- The flow that a demand is accepted at, and whether it was clamped (R18, R19): a level by the level table, a flow brought
between Qmin and Qmax, neither by the kind's default level; SHUTDOWN carries 0. A level above 4 gives no flow. -/
def FlowAsked (set : Settings) (kind : DemandKind) (p : DemandParams) (flow : Nat) (clamped : Bool) : Prop :=
  if kind = .shutdown then flow = 0 ∧ clamped = false
  else
    match p.level, p.flow with
    | some l, _ => l.toNat < 5 ∧ set.levels[l.toNat]? = some flow ∧ clamped = false
    | none, some f => flow = max set.qmin (min f.toNat set.qmax) ∧ (clamped = true ↔ flow ≠ f.toNat)
    | none, none => set.levels[kind.defaultLevel.val]? = some flow ∧ clamped = false

/-- The remaining duration that a demand is accepted with, and whether it was clamped (R20). -/
def DurationAsked (kind : DemandKind) (duration : Option Word16) (remaining : Option Nat) (clamped : Bool) : Prop :=
  if duration = none ∨ duration = some 0 then
    remaining = (if kind = .purge then some 900 else none) ∧ clamped = false
  else ∀ d, duration = some d → remaining = some (min d.toNat 14400) ∧ (clamped = true ↔ 14400 < d.toNat)

/-- A value lowered to the least flow of a kind, with the reason set when it is lowered strictly (R36, R37). -/
def Lowers (entries : List Entry) (kind : DemandKind) (v : Nat) (r : Reason) (reason : Reason) (v' : Nat) (r' : Reason) :
    Prop :=
  ((∀ e ∈ entries, e.kind ≠ kind) ∧ v' = v ∧ r' = r) ∨
  ∃ e ∈ entries, e.kind = kind ∧ (∀ x ∈ entries, x.kind = kind → e.flow ≤ x.flow) ∧ v' = min v e.flow ∧
    r' = (if e.flow < v then reason else r)

/-- A value raised to the greatest flow of a kind, with the reason set when it is raised strictly (R37). -/
def Raises (entries : List Entry) (kind : DemandKind) (v : Nat) (r : Reason) (reason : Reason) (v' : Nat) (r' : Reason) :
    Prop :=
  ((∀ e ∈ entries, e.kind ≠ kind) ∧ v' = v ∧ r' = r) ∨
  ∃ e ∈ entries, e.kind = kind ∧ (∀ x ∈ entries, x.kind = kind → x.flow ≤ e.flow) ∧ v' = max v e.flow ∧
    r' = (if v < e.flow then reason else r)

/-- The request record that a request command carries. -/
def requestOf : Instr → Option Request
  | .inject src channel mode =>
    some { Request.bare RequestKind.inject.code src with channel := channel, mode := mode }
  | .base src p => some { Request.bare RequestKind.base.code src with demand := p }
  | .boost src p => some { Request.bare RequestKind.boost.code src with demand := p }
  | .away src p => some { Request.bare RequestKind.away.code src with demand := p }
  | .purge src p => some { Request.bare RequestKind.purge.code src with demand := p }
  | .quiet src p => some { Request.bare RequestKind.quiet.code src with demand := p }
  | .shutdown src p => some { Request.bare RequestKind.shutdown.code src with demand := p }
  | .withdraw src kind => some { Request.bare RequestKind.withdraw.code src with namedKind := kind }
  | .clearLockoutFan src target => some { Request.bare RequestKind.clearLockout.code src with target := target }
  | .clearLockoutBypass src => some { Request.bare RequestKind.clearLockout.code src with target := some 2 }
  | .filterBegin src id => some { Request.bare RequestKind.filterBegin.code src with filterId := id }
  | .filterDone src id => some { Request.bare RequestKind.filterDone.code src with filterId := id }
  | .filterAbandon src id => some { Request.bare RequestKind.filterAbandon.code src with filterId := id }
  | .setSeason src season => some { Request.bare RequestKind.setSeason.code src with season := season }
  | .unknownRequest src code => some (Request.bare code src)
  | .clearCounters src => some (Request.bare RequestKind.clearCounters.code src)
  | .writeSetting src id value =>
    some { Request.bare RequestKind.writeSetting.code src with settingId := id, value := value }
  | .storeSettings src => some (Request.bare RequestKind.storeSettings.code src)
  | _ => none

/-- A fan out of STARTING or RUNNING, or cleared of its lockout (R51, R53, R56): duty and Q_r 0, the loop, the saturation
and the running time cleared. -/
def FanRecord.atRest (f : FanRecord) (state : FanState) (wait : Option Nat) (retries : Nat) : FanRecord :=
  { f with
    state := state
    duty := 0
    qr := 0
    speedTarget := 0
    ePrev := 0
    remainder := 0
    wait := wait
    startTime := none
    retries := retries
    runningTime := 0
    curveLimit := false
    saturation := 0
    flowLimited := false }

/-- What a running reset leaves of `s` (R186): the port and the event flags at their reset values, UNIT's demands gone, a
change that UNIT owns abandoned, the cause recorded; the rest as it was, but for the RESET pin. -/
def State.AfterRunningReset (s t : State) (cause : ResetCause) : Prop :=
  t = { s with
    resetPin := t.resetPin
    lp := LocalPort.initial
    eu := { s.eu with
      flags := EventBytes.zero
      masks := EventBytes.allMasked
      suspended := false
      irq := false }
    da := t.da
    fm := t.fm
    ss := { s.ss with cause := cause } } ∧
  t.da.table = { s.da.table with general := s.da.table.general.filter fun e => e.source != .master .unit } ∧
  t.da.supplyCeiling = contribution s.settings t.fm.supply ∧
  t.da.extractCeiling = contribution s.settings t.fm.extract ∧ t.da.plan = t.planNow ∧
  ∀ side : Side,
    t.fm.filter side =
      (if (s.fm.filter side).state = .changing ∧ (s.fm.filter side).owner = some .unit then
        { s.fm.filter side with
          state := (s.fm.filter side).saved.getD .learning
          saved := none
          owner := none
          deadline := none }
      else s.fm.filter side)

end Sys2Proof.Machine
end

