-- ==== Sys2Proof/Certificates/Slice0/Obligations.lean ====
section
/-! DEFINITION. The statements for the provers: what the commands do, state by state, and what every step keeps. -/

open Sys2Proof Sys2Proof.Machine

/-! ## The queue and the step -/

/-- A step with a command at the front of the queue is that command's execution on the state with the queue's rest (log
entry 8). -/
def Obligations.StepRunsTheFrontCommand : Prop :=
  ∀ (c : Instr) (rest : List Instr) (s : State),
    step (s.setPending (c :: rest)) = exec c (s.setPending rest)

/-- Every command answers a next state in every state, and touches the queue in none (log entry 8). -/
def Obligations.EveryCommandCompletesAndKeepsTheQueue : Prop :=
  ∀ (c : Instr) (s : State), ∃ t, exec c s = .next t ∧ t.pending = s.pending

/-- On an empty queue a step moves the fans' waits and start times, the filter changes' deadlines and the cords' press
times by one second, short of their expiries, and nothing else; a part held in reset stays as it is (the model's choice,
log entry 9). -/
def Obligations.IdleStepMovesTheCountdownsAlone : Prop :=
  ∀ s : State, s.pending = [] →
    ∃ t, step s = .next t ∧ (s.phase = .held → t = s) ∧
      t = { s with ae := t.ae, fm := t.fm, mc := t.mc } ∧
      t.mc.channels = s.mc.channels ∧ t.mc.ready = s.mc.ready ∧
      t.ae.dutyA = s.ae.dutyA ∧ t.ae.dutyB = s.ae.dutyB ∧
      (s.phase ≠ .held → ∀ side : Side,
        t.ae.fan side =
          { s.ae.fan side with
            wait := (s.ae.fan side).wait.map fun n => if 2 ≤ n then n - 1 else n
            startTime := (s.ae.fan side).startTime.map fun n => if 2 ≤ n then n - 1 else n } ∧
        t.fm.filter side =
          { s.fm.filter side with
            deadline := (s.fm.filter side).deadline.map fun n => if 2 ≤ n then n - 1 else n }) ∧
      (s.phase ≠ .held → ∀ c : Cord,
        t.mc.cord c =
          { s.mc.cord c with
            pressTime :=
              if (s.mc.cord c).pressed = true ∧ (s.mc.cord c).holdTaken = false then
                max (s.mc.cord c).pressTime (min 2999 ((s.mc.cord c).pressTime + 1000))
              else (s.mc.cord c).pressTime })

/-! ## Resets and start-up -/

/-- R3: each cause of a master reset sets every channel record and clears the measurement-ready indication; a running
reset, from the pin or from the port, leaves both as they are. That PIN_MASTER or PIN_RUNNING given where RESET stands
asserted already is a reset of its own is the model's choice, log entry 34. -/
def Obligations.MasterResetClearsEveryChannel : Prop :=
  (∀ (s : State) (c : Instr) (straps : Straps) (cause : ResetCause), MasterCause c straps cause →
    ∃ t, exec c s = .next t ∧ t.mc.ready = false ∧
      ∀ ch : Fin 8, t.channel ch =
        { raw := 0, window := [], history := [], filtered := 0, state := .valid, injection := .none, settling := 0 }) ∧
  (∀ s : State, ∃ t, exec .pinRunning s = .next t ∧ t.mc = s.mc) ∧
  (∀ s : State, s.phase = .running → s.lp.stage ≠ .idle → s.lp.resetRequested = true →
    ∃ t, exec .transactionEnd s = .next t ∧ t.mc = s.mc)

/-- The three causes of a master reset hold the part with every block at its initial values, the straps latched and the
cause recorded; the queue and the input pins stand. Of the settings store it says the cause and the working record
alone: what becomes of the stored records, and of a store or a filter save in flight or waiting, is said by O6
(MasterResetCutsOffWhatIsBeingWritten), and the model's count of free values is left open. The values that the manual
does not give (the plan and the contributions before the first plan, the working record, the filter records and the
damper's position before the load, the digest and the CALL before the first poll, the byte sent and the acknowledgement)
are the model's choice, log entry 4, and so is that PIN_MASTER acts where RESET stands asserted already, log entry 34.
-/
def Obligations.MasterResetReturnsEveryBlockToItsInitialValues : Prop :=
  ∀ (s : State) (c : Instr) (straps : Straps) (cause : ResetCause) (fan : FanRecord) (filter : FilterRecord)
    (channel : Channel) (cord : Bool → CordRecord),
    MasterCause c straps cause →
    fan =
      { state := .stopped, duty := 0, measured := 0, qc := 0, qr := 0, speedTarget := 0, ePrev := 0, remainder := 0,
        wait := none, startTime := none, retries := 0, runningTime := 0, curveLimit := false, saturation := 0,
        flowLimited := false, tacho := { latest := none, periodSum := 0, periodCount := 0 } } →
    filter =
      { state := .learning, saved := none, dpClean := none, volume := 0, accumulator := 0, runSeconds := 0,
        runHours := 0, loadedMarks := 0, blockedMarks := 0, steadyFlow := 0, steadyCount := 0, lastAssessment := .none,
        lastDpNorm := none, owner := none, deadline := none } →
    channel =
      { raw := 0, window := [], history := [], filtered := 0, state := .valid, injection := .none, settling := 0 } →
    (∀ high, cord high =
      { pinHigh := high, debouncing := false, pressed := false, armed := false, pressTime := 0, holdTaken := false }) →
    ∃ t, exec c s = .next t ∧ t.ss.cause = cause ∧ t.ss.working = Settings.factory ∧
      t =
        { phase := .held
          resetPin := if cause = .pinMaster then true else s.resetPin
          straps := straps
          mc :=
            { channels := Vector.replicate 8 channel
              ready := false
              kitchen := cord s.mc.kitchen.pinHigh
              bathroom := cord s.mc.bathroom.pinHigh }
          da :=
            { table := { general := [], pcK := none, pcB := none, humidity := none, seq := 0 }
              plan := { target := 0, reason := .default, baseSource := none, ceiling := 0 }
              supplyCeiling := 0
              extractCeiling := 0 }
          ae := { supply := fan, extract := fan, dutyA := 0, dutyB := 0 }
          fg :=
            { state := .inactive, origin := none, fraction := 1000, proportion := 0,
              limit := Settings.factory.frostBaseLimit + 20, window := [], coreRef := none, defrostElapsed := none,
              holdElapsed := none, holdEntryOda := none, fallbackCycle := none, history := [], paused := true,
              wantedOpen := false }
          preheat := { windowRunning := false, onTime := 0, output := false }
          damper :=
            { state := .closed, position := 0, allowance := none, elapsed := none, drive := .off,
              openMade := s.damper.openMade, closedMade := s.damper.closedMade }
          hm :=
            { dewPoint := none, rise := [], view := .none, boostElapsed := none, startMinimum := none, dryCount := 0,
              stations := Vector.replicate 4 { reports := [], humid := false } }
          fm := { supply := filter, extract := filter }
          season :=
            { mode := .winter, observing := Settings.factory.seasonObserve, heatCallAge := 0, lastSetBy := .none }
          rl :=
            { feed := false, roundCounter := 0, round := [], stage := .idle, lossDue := false,
              slots := Vector.replicate 15
                { state := .unknown, window := [], goodRun := 0, timeMissing := none, lastOutcome := none,
                  tell := none },
              digest := List.replicate 10 0, callFrame := [] }
          lp :=
            { stage := .idle, pointer := 0, pageSelect := 0, tableSelect := 0, tablePointer := 0, pageSnapshot := none,
              mirrorSnapshot := none, entrySnapshot := none, requestKind := 0, params := Vector.replicate 8 0,
              pending := false, resetRequested := false, answer := none, resultCount := 0, sent := 0, acked := false }
          eu :=
            { flags := { fan := 0, core := 0, service := 0, system := 0 }
              masks := { fan := 0xFF, core := 0xFF, service := 0xFF, system := 0xFF }
              suspended := false
              irq := false
              live := Vector.replicate 8 0
              copies := Vector.replicate 8 0 }
          ss := t.ss
          freeCount := t.freeCount
          pending := s.pending }

/-- What a master reset cuts off: a store being written leaves the stored copy invalid; a filter save in flight leaves
exactly one of the two records without a valid check, supply first; a waiting save is discarded. Which of the two it is
stays open (log entry 2). That PIN_MASTER acts where RESET stands asserted already is the model's choice, log entry 34.
-/
def Obligations.MasterResetCutsOffWhatIsBeingWritten : Prop :=
  ∀ (s : State) (c : Instr) (straps : Straps) (cause : ResetCause), MasterCause c straps cause →
    ∃ t, exec c s = .next t ∧ t.ss.store = .idle ∧ t.ss.saving = none ∧ t.ss.saveWaiting = false ∧
      (s.ss.store = .writing → t.ss.stored.passes = false) ∧ (s.ss.store ≠ .writing → t.ss.stored = s.ss.stored) ∧
      (s.ss.saving = none → t.ss.storedSupply = s.ss.storedSupply ∧ t.ss.storedExtract = s.ss.storedExtract) ∧
      (∀ a b, s.ss.saving = some (a, b) →
        (t.ss.storedSupply.passes = false ∧ t.ss.storedExtract = s.ss.storedExtract) ∨
        (t.ss.storedSupply = a ∧ t.ss.storedExtract.passes = false))

/-- The end of a master reset begins the load: RESET is released if the pin was the cause, and a cord whose pin is high
is timed for arming; nothing else moves. That PIN_MASTER ends with the pin's release is log entry 21, and that a high
pin is timed from the reset's end is log entry 20: both are the model's reading. -/
def Obligations.MasterResetEndBeginsTheLoad : Prop :=
  ∀ s : State, s.phase = .held →
    ∃ t, exec .masterResetEnd s = .next t ∧ t.phase = .loading ∧
      t.resetPin = (if s.ss.cause = .pinMaster then false else s.resetPin) ∧
      t = { s with phase := t.phase, resetPin := t.resetPin, mc := t.mc } ∧
      t.mc.channels = s.mc.channels ∧ t.mc.ready = s.mc.ready ∧
      ∀ cord : Cord, t.mc.cord cord = { s.mc.cord cord with debouncing := (s.mc.cord cord).pinHigh }

/-- The load: a stored record that passes its check becomes the working record and raises nothing; one that fails gives
the factory defaults, the copy marked invalid and DEFAULTS_IN_USE. The filter records load as stored, CHANGING replaced
by the saved state, or as LEARNING with nothing counted; the link feed comes on and the first plan is formed; T_lim and
observation are taken from the loaded record (R67, R140), the counters' copies follow the live values unless
counter_snapshot is on (R180), and a fitted damper whose closed switch is not made is driven home from bypass_travel,
where any other is CLOSED (R90). Nothing else moves. That all of this is taken with the one command is the model's
reading, log entry 26. -/
def Obligations.LoadPutsTheStoredOrTheFactoryRecordInForce : Prop :=
  ∀ s : State, s.phase = .loading →
    ∃ t, exec .settingsLoadComplete s = .next t ∧ t.phase = .running ∧ t.rl = { s.rl with feed := true } ∧
      t = { s with
        phase := t.phase
        ss := { s.ss with working := t.settings, stored := { s.ss.stored with valid := t.ss.stored.valid } }
        fm := t.fm
        da := t.da
        fg := { s.fg with fraction := t.fg.fraction, limit := t.settings.frostBaseLimit + 20 }
        damper := t.damper
        season := { s.season with observing := t.settings.seasonObserve }
        rl := t.rl
        eu := { s.eu with flags := t.eu.flags, irq := t.eu.irq, copies := t.eu.copies } } ∧
      (s.ss.stored.passes = true →
        t.settings = s.ss.stored.contents ∧ t.eu.flags = s.eu.flags ∧ t.eu.irq = s.eu.irq ∧
        t.ss.stored.valid = true) ∧
      (s.ss.stored.passes = false →
        t.settings = Settings.factory ∧ t.ss.stored.valid = false ∧ t.eu.isSet .defaultsInUse = true ∧
        (∀ f : Flag, f ≠ .defaultsInUse → t.eu.isSet f = s.eu.isSet f) ∧ (s.eu.Coherent → t.eu.Coherent)) ∧
      t.eu.copies = (if t.settings.counterSnapshot = true then s.eu.copies else s.eu.live) ∧
      t.fg.fraction =
        (if s.fg.state ∈ [.protect, .recover, .fallback] then max s.fg.fraction t.settings.minFraction
        else s.fg.fraction) ∧
      (s.damperFitted = false ∨ s.damper.closedMade = true →
        t.damper =
          { s.damper with
            state := .closed
            position := 0
            allowance := none
            elapsed := none
            drive := .off }) ∧
      (s.damperFitted = true → s.damper.closedMade = false →
        t.damper =
          { s.damper with
            state := .closing
            position := t.settings.bypassTravel
            allowance := some t.settings.bypassTravel
            elapsed := some 0
            drive := .closing }) ∧
      t.da.table = s.da.table ∧ t.da.supplyCeiling = contribution t.settings t.fm.supply ∧
      t.da.extractCeiling = contribution t.settings t.fm.extract ∧ t.da.plan = t.planNow ∧
      ∀ (side : Side) (r : StoredFilter),
        r = (match side with
          | .supply => s.ss.storedSupply
          | .extract => s.ss.storedExtract) →
        (t.fm.filter side).owner = none ∧ (t.fm.filter side).deadline = none ∧ (t.fm.filter side).steadyFlow = 0 ∧
        (t.fm.filter side).steadyCount = 0 ∧ (t.fm.filter side).lastAssessment = .none ∧
        (t.fm.filter side).lastDpNorm = none ∧
        (r.passes = false →
          (t.fm.filter side).toFilterCore =
            { state := .learning, saved := none, dpClean := none, volume := 0, accumulator := 0, runSeconds := 0,
              runHours := 0, loadedMarks := 0, blockedMarks := 0 }) ∧
        (r.passes = true → r.contents.state ≠ .changing →
          (t.fm.filter side).toFilterCore = { r.contents with saved := none }) ∧
        (∀ st, r.passes = true → r.contents.state = .changing → r.contents.saved = some st →
          (t.fm.filter side).toFilterCore = { r.contents with state := st, saved := none })

/-- A running reset, from the RESET pin or at the end of a transaction that asked for it, acts on the port, the event
unit, the demand table and the filter changes of the unit processor alone (R186). That PIN_RUNNING moves the pin alone
while a master reset holds the part is the model's reading, log entry 21; that it is a reset of its own where RESET
stands asserted already, log entry 34, the ceiling and the plan that it forms while the load is in progress, log entry
35, and the port's byte sent and acknowledgement after its reset, log entry 4, are the model's choice. -/
def Obligations.RunningResetActsOnFourBlocksAlone : Prop :=
  (∀ s : State, s.phase ≠ .held →
    ∃ t, exec .pinRunning s = .next t ∧ t.resetPin = true ∧ s.AfterRunningReset t .pinRunning) ∧
  (∀ s : State, s.phase = .held → exec .pinRunning s = .next (s.setResetPin true)) ∧
  (∀ s : State, s.phase = .running → s.lp.stage ≠ .idle → s.lp.resetRequested = true →
    ∃ t, exec .transactionEnd s = .next t ∧ t.resetPin = s.resetPin ∧ s.AfterRunningReset t .portRunning)

/-! ## Measurement channels and pull-cords -/

/-- One sample of a channel (R2, R4 to R10): the reading is stored; the mark enters the window; the history, the mean
and the settling count move with an unmarked in-range reading alone; the state is judged on the window as it then
stands; the flag and the count of a failure and the flag of a recovery are raised; measurement-ready is raised when all
eight have settled or failed. Nothing else moves. -/
def Obligations.SampleUpdatesOneChannel : Prop :=
  ∀ (s : State) (ch : Fin 8) (reading : Int) (out : Bool) (window : List Bool) (entry : Int),
    s.phase ≠ .held →
    (out = true ↔ (s.channel ch).injection ≠ .none ∨
      (if ch.val < 4 then reading < -400 ∨ 600 < reading
        else if ch.val = 4 then reading < 0 ∨ 1000 < reading else reading < -20 ∨ 500 < reading)) →
    window = pushWindow 8 out (s.channel ch).window →
    entry = (if 5 ≤ ch.val then max 0 reading else reading) →
    ∃ t, exec (.channelSample ch reading) s = .next t ∧ t = { s with mc := t.mc, eu := t.eu } ∧
      (t.channel ch).raw = reading ∧
      ((s.channel ch).injection = .single → (t.channel ch).injection = .none) ∧
      ((s.channel ch).injection ≠ .single → (t.channel ch).injection = (s.channel ch).injection) ∧
      (out = true →
        (t.channel ch).history = (s.channel ch).history ∧ (t.channel ch).filtered = (s.channel ch).filtered ∧
        (t.channel ch).settling = (s.channel ch).settling) ∧
      (out = false →
        (t.channel ch).history = pushWindow 4 entry (s.channel ch).history ∧
        (t.channel ch).filtered = (t.channel ch).history.sum.tdiv (t.channel ch).history.length ∧
        (t.channel ch).settling = min 4 ((s.channel ch).settling + 1)) ∧
      ((s.channel ch).state = .valid →
        (t.channel ch).state = (if marks window = 0 then .valid else .suspect) ∧
        (t.channel ch).window = window ∧ t.eu = s.eu) ∧
      ((s.channel ch).state = .suspect → (t.channel ch).window = window ∧
        (s.settings.kFail ≤ marks window →
          (t.channel ch).state = .failed ∧
          t.eu = (s.eu.raise .channelFailed).count s.settings.counterSnapshot .channelFailures) ∧
        (marks window < s.settings.kFail →
          (t.channel ch).state = (if marks window = 0 then .valid else .suspect) ∧ t.eu = s.eu)) ∧
      ((s.channel ch).state = .failed →
        (window.length = 8 ∧ marks window = 0 →
          (t.channel ch).state = .valid ∧ (t.channel ch).window = [] ∧ t.eu = s.eu.raise .channelRecovered) ∧
        (¬(window.length = 8 ∧ marks window = 0) →
          (t.channel ch).state = .failed ∧ (t.channel ch).window = window ∧ t.eu = s.eu)) ∧
      (∀ other : Fin 8, other ≠ ch → t.channel other = s.channel other) ∧
      (t.mc.ready = true ↔ s.mc.ready = true ∨
        ∀ c : Fin 8, (t.channel c).settling = 4 ∨ (t.channel c).state = .failed) ∧
      t.mc.kitchen = s.mc.kitchen ∧ t.mc.bathroom = s.mc.bathroom

/-- INJECT puts the named channel into the named mode, whatever mode it held; asking for the mode held is DONE_NOTHING;
a channel or a mode that is absent or names nothing is NOT_APPLICABLE, counted as a refusal, and changes nothing (R11,
R136). Which sources can ask, an UNKNOWN slot's among them, is the model's choice, log entry 10. -/
def Obligations.InjectSetsTheModeOfOneChannel : Prop :=
  ∀ (s : State) (src : Master), s.CanAsk src .inject →
    (∀ (ch : Fin 8) (m : InjectMode),
      exec (.inject src (some (byteOf ch.val)) (some (byteOf m.code))) s =
        .next (if (s.channel ch).injection = m then
            s.deliver src { outcome := .doneNothing, kindCode := 0x21 }
          else
            (s.setMc { s.mc with
              channels := s.mc.channels.set ch.val { s.channel ch with injection := m } }).deliver src
              { outcome := .done, kindCode := 0x21 })) ∧
    (∀ channel mode : Option Byte,
      (∀ c, channel = some c → 8 ≤ c.toNat) ∨ (∀ m, mode = some m → 3 ≤ m.toNat) →
      exec (.inject src channel mode) s =
        .next ((s.count .requestsRefused).deliver src { outcome := .notApplicable, kindCode := 0x21 }))

/-- A pull-cord's pin and its debounce (R12 to R14). A change of the pin runs the timer of an armed input only while the
pin differs from the debounced level; at the expiry an armed input accepts a press, a released one ends its press, and a
high pin arms the input. A press ended short posts a BOOST in an empty slot and empties a slot that holds an entry. That
any change of an unarmed input's pin starts the timer is log entry 20, and that a timer which does not run does not
expire is log entry 6: both are the model's reading. -/
def Obligations.CordDebounceAndShortPress : Prop :=
  ∀ (s : State) (c : Cord) (r : CordRecord), s.phase ≠ .held → r = s.mc.cord c →
    exec (.pullcordPinChange c r.pinHigh) s = .next s ∧
    (r.armed = true → exec (.pullcordPinChange c (!r.pinHigh)) s =
      .next (s.withCord c { r with pinHigh := !r.pinHigh, debouncing := decide (r.pinHigh ≠ r.pressed) })) ∧
    (r.armed = false → exec (.pullcordPinChange c (!r.pinHigh)) s =
      .next (s.withCord c { r with pinHigh := !r.pinHigh, debouncing := true })) ∧
    (r.debouncing = false → exec (.debounceExpiry c) s = .next s) ∧
    (r.debouncing = true → r.pinHigh = false → r.pressed = false → r.armed = true →
      exec (.debounceExpiry c) s =
        .next (s.withCord c
          { r with debouncing := false, pressed := true, pressTime := 0, holdTaken := false })) ∧
    (r.debouncing = true → r.pinHigh = false → r.pressed = false → r.armed = false →
      exec (.debounceExpiry c) s = .next (s.withCord c { r with debouncing := false })) ∧
    (r.debouncing = true → r.pinHigh = true → r.pressed = false →
      exec (.debounceExpiry c) s = .next (s.withCord c { r with debouncing := false, armed := true })) ∧
    (r.debouncing = true → r.pinHigh = true → r.pressed = true →
      ∃ u, u = s.withCord c { r with debouncing := false, pressed := false, pressTime := 0, holdTaken := false } ∧
        (r.pressTime < 3000 ∧ r.holdTaken = false →
          (s.da.table.slot (.cord c) = none →
            exec (.debounceExpiry c) s =
              .next (u.withTable (({ s.da.table with seq := s.da.table.seq + 1 } : DemandTable).withSlot (.cord c)
                (some
                  { source := .cord c
                    kind := .boost
                    flow := s.settings.levels[3]
                    remaining := some s.settings.pullcordDuration
                    seq := s.da.table.seq + 1 })))) ∧
          (s.da.table.slot (.cord c) ≠ none →
            exec (.debounceExpiry c) s = .next (u.withTable (s.da.table.withSlot (.cord c) none)))) ∧
        (3000 ≤ r.pressTime ∨ r.holdTaken = true → exec (.debounceExpiry c) s = .next u))

/-- A press of 3000 ms posts one PURGE of 900 s at level 4 in the input's slot, whatever the slot held, and takes the
hold; a released input, or a press that has taken its hold, posts nothing (R15). -/
def Obligations.LongHoldPostsOnePurge : Prop :=
  ∀ (s : State) (c : Cord), s.phase ≠ .held →
    ((s.mc.cord c).pressed = true → (s.mc.cord c).holdTaken = false →
      exec (.longHold c) s =
        .next ((s.withCord c { s.mc.cord c with pressTime := 3000, holdTaken := true }).withTable
          (({ s.da.table with seq := s.da.table.seq + 1 } : DemandTable).withSlot (.cord c)
            (some
              { source := .cord c
                kind := .purge
                flow := s.settings.levels[4]
                remaining := some 900
                seq := s.da.table.seq + 1 })))) ∧
    ((s.mc.cord c).pressed = false ∨ (s.mc.cord c).holdTaken = true → exec (.longHold c) s = .next s)

/-! ## The demand table and the flow plan -/

/-- A demand whose pair is present, or which finds a free place, takes the newest end with the flow and the duration
asked and the next sequence number; an entry of the same pair leaves its place; the plan is the resolution of the table;
the outcome is DONE, or DONE_CLAMPED if either number was brought into range. A level above 4 is NOT_APPLICABLE,
counted, and changes nothing (R18 to R22), in a full table as well, where R23 would have TABLE_FULL: that the level is
judged first is the model's choice, log entry 33, and so is which sources can ask, an UNKNOWN slot's among them, log
entry 10. -/
def Obligations.AcceptedDemandTakesTheNewestPlace : Prop :=
  ∀ (s : State) (src : Master) (kind : DemandKind) (p : DemandParams), s.CanAsk src kind.request →
    (∀ (flow : Nat) (remaining : Option Nat) (c d : Bool),
      FlowAsked s.settings kind p flow c → DurationAsked kind p.duration remaining d →
      ((∃ e ∈ s.da.table.general, e.pair = (.master src, kind)) ∨ s.da.table.general.length < 12) →
      exec (demandCommand kind src p) s =
        .next ((s.withTable { s.da.table with
          general := (s.da.table.general.filter fun e => e.pair ≠ (.master src, kind)) ++
            [{ source := .master src
               kind := kind
               flow := flow
               remaining := remaining
               seq := s.da.table.seq + 1 }]
          seq := s.da.table.seq + 1 }).deliver src
            { outcome := if c || d then .doneClamped else .done, kindCode := kind.code })) ∧
    (∀ l, p.level = some l → 5 ≤ l.toNat → kind ≠ .shutdown →
      exec (demandCommand kind src p) s =
        .next ((s.count .requestsRefused).deliver src { outcome := .notApplicable, kindCode := kind.code }))

/-- A full general part: a new pair of another kind than SHUTDOWN is refused TABLE_FULL and counted, the table and the
plan standing (R23); a SHUTDOWN takes the newest end, the oldest entry that is no SHUTDOWN leaves, and ENTRY_EVICTED is
raised (R24). Which sources can ask, an UNKNOWN slot's among them, is the model's choice, log entry 10. -/
def Obligations.FullTableRefusesAllButShutdown : Prop :=
  ∀ (s : State) (src : Master) (kind : DemandKind) (p : DemandParams) (flow : Nat) (remaining : Option Nat)
    (c d : Bool),
    s.CanAsk src kind.request → FlowAsked s.settings kind p flow c → DurationAsked kind p.duration remaining d →
    12 ≤ s.da.table.general.length → (∀ e ∈ s.da.table.general, e.pair ≠ (.master src, kind)) →
    (kind ≠ .shutdown →
      exec (demandCommand kind src p) s =
        .next ((s.count .requestsRefused).deliver src { outcome := .tableFull, kindCode := kind.code })) ∧
    (∀ older e newer, kind = .shutdown → s.da.table.general = older ++ e :: newer →
      (∀ x ∈ older, x.kind = .shutdown) → e.kind ≠ .shutdown →
      exec (demandCommand kind src p) s =
        .next (((s.raise .entryEvicted).withTable { s.da.table with
          general := older ++ newer ++
            [{ source := .master src
               kind := kind
               flow := 0
               remaining := remaining
               seq := s.da.table.seq + 1 }]
          seq := s.da.table.seq + 1 }).deliver src
            { outcome := if d then .doneClamped else .done, kindCode := kind.code }))

/-- R25: WITHDRAW removes the source's own entry of the named kind wherever it stands and replans (DONE); without one it
leaves the table (DONE_NOTHING); a value that names no demand kind is NOT_APPLICABLE. No other entry and no reserved
slot is touched. The premise on the source lets a partner of an UNKNOWN slot through, the model's choice, log entry 10.
-/
def Obligations.WithdrawRemovesTheSourcesOwnEntry : Prop :=
  ∀ (s : State) (src : Master), s.CanAsk src .withdraw →
    (∀ kind : DemandKind,
      ((∃ e ∈ s.da.table.general, e.pair = (.master src, kind)) →
        exec (.withdraw src (some kind.code)) s =
          .next ((s.withTable { s.da.table with
            general := s.da.table.general.filter fun e => e.pair ≠ (.master src, kind) }).deliver src
              { outcome := .done, kindCode := 0x07 })) ∧
      ((∀ e ∈ s.da.table.general, e.pair ≠ (.master src, kind)) →
        exec (.withdraw src (some kind.code)) s =
          .next (s.deliver src { outcome := .doneNothing, kindCode := 0x07 }))) ∧
    (∀ named : Option Byte, (∀ kind : DemandKind, named ≠ some kind.code) →
      exec (.withdraw src named) s =
        .next ((s.count .requestsRefused).deliver src { outcome := .notApplicable, kindCode := 0x07 }))

/-- An expiry event takes one second from every entry that has a duration, in both parts, removes those that reach 0,
keeps the others in their order, and resolves the table once if any was removed (R27). -/
def Obligations.ExpiryCountsEveryDurationDown : Prop :=
  ∀ (s : State) (tick : Entry → Option Entry), s.phase ≠ .held →
    (∀ e, tick e = match e.remaining with
      | none => some e
      | some d => if d ≤ 1 then none else some { e with remaining := some (d - 1) }) →
    ∃ t, exec .demandExpiry s = .next t ∧
      t = { s with da := { s.da with table := t.da.table, plan := t.da.plan } } ∧
      t.da.table.general = s.da.table.general.filterMap tick ∧ t.da.table.pcK = s.da.table.pcK.bind tick ∧
      t.da.table.pcB = s.da.table.pcB.bind tick ∧ t.da.table.humidity = s.da.table.humidity.bind tick ∧
      t.da.table.seq = s.da.table.seq ∧
      ((∀ e ∈ s.da.table.entries, tick e ≠ none) → t.da.plan = s.da.plan) ∧
      ((∃ e ∈ s.da.table.entries, tick e = none) →
        t.da.plan = resolve s.settings t.da.table s.fm.changing (min s.da.supplyCeiling s.da.extractCeiling))

/-- The resolution of a table (R35 to R38): a CHANGING filter stops it, then a SHUTDOWN; otherwise the base of the
source first in the precedence, or the default base, is lowered by the least AWAY, raised by the greatest BOOST, lowered
by the least QUIET, raised by the greatest PURGE, and clamped to Qmin and the ceiling. A replan writes that resolution
and nothing else (R34, R39). -/
def Obligations.ResolutionGivesThePlan : Prop :=
  (∀ (set : Settings) (t : DemandTable) (ceiling : Nat),
    resolve set t true ceiling =
      { target := 0, reason := .filterChange, baseSource := none, ceiling := ceiling }) ∧
  (∀ (set : Settings) (t : DemandTable) (ceiling : Nat), (∃ e ∈ t.entries, e.kind = .shutdown) →
    resolve set t false ceiling =
      { target := 0, reason := .shutdown, baseSource := none, ceiling := ceiling }) ∧
  (∀ (set : Settings) (t : DemandTable) (ceiling : Nat), t.Coherent → (∀ e, t.humidity = some e → e.source = .humidity) →
    (∀ e ∈ t.entries, e.kind ≠ .shutdown) →
    ∃ (v0 v1 v2 v3 v4 : Nat) (r0 r1 r2 r3 r4 : Reason) (source : Option Master),
      ((∃ m e before after,
          [.tool, .unit, .station 0, .station 1, .station 2, .station 3] = before ++ m :: after ∧
          (∀ b ∈ before, ∀ x ∈ t.entries, x.pair ≠ (.master b, .base)) ∧ e ∈ t.entries ∧
          e.pair = (.master m, .base) ∧ v0 = e.flow ∧ r0 = .base ∧ source = some m) ∨
        ((∀ m, ∀ x ∈ t.entries, x.pair ≠ (.master m, .base)) ∧
          v0 = set.levels[set.defaultBaseLevel] ∧ r0 = .default ∧ source = none)) ∧
      Lowers t.entries .away v0 r0 .away v1 r1 ∧ Raises t.entries .boost v1 r1 .boost v2 r2 ∧
      Lowers t.entries .quiet v2 r2 .quiet v3 r3 ∧ Raises t.entries .purge v3 r3 .purge v4 r4 ∧
      resolve set t false ceiling =
        (if ceiling < v4 then
          { target := ceiling, reason := .ceiling, baseSource := source, ceiling := ceiling }
        else { target := max set.qmin v4, reason := r4, baseSource := source, ceiling := ceiling })) ∧
  (∀ (s : State) (t : DemandTable),
    s.withTable t = { s with
      da := { s.da with
        table := t
        plan := resolve s.settings t s.fm.changing (min s.da.supplyCeiling s.da.extractCeiling) } })

/-! ## Requests -/

/-- R138: an outcome with the kind answered is placed in the result of the local port for the unit processor, which
counts it and shows nothing in progress, and in the last outcome of the sender's own slot for a master of the room link;
nothing else moves. A slot that is LOST takes none (the model's reading of R157 and R162). -/
def Obligations.OutcomeReachesItsSenderAlone : Prop :=
  ∀ (s : State) (a : Answer),
    s.deliver .unit a =
      s.setLp { s.lp with answer := some a, resultCount := s.lp.resultCount + 1, pending := false } ∧
    ∀ (m : Master) (i : Fin 15), (m = .tool ∧ i = 14 ∨ ∃ n, m = .station n ∧ i.val = n.val) →
      ((s.slot i).state ≠ .lost →
        s.deliver m a =
          s.setRl { s.rl with slots := s.rl.slots.set i.val { s.slot i with lastOutcome := some a } }) ∧
      ((s.slot i).state = .lost → s.deliver m a = s)

/-- R133: a kind code that names none of the sixteen kinds is REFUSED_UNKNOWN from every source, whatever the parameters
and the permissions: no block is reached, the refusal is counted, and the code as received is answered. The premise on
the source lets a partner of an UNKNOWN slot through, the model's choice, log entry 10. -/
def Obligations.UnknownKindIsRefusedUnread : Prop :=
  ∀ (s : State) (code : Byte), (∀ k : RequestKind, k.code ≠ code) →
    (∀ r : Request, r.code = code → s.handle r = (s.count .requestsRefused, .refusedUnknown)) ∧
    (∀ src : Master, s.phase = .running → s.mayRequest src = true →
      exec (.unknownRequest src code) s =
        .next ((s.count .requestsRefused).deliver src { outcome := .refusedUnknown, kindCode := code }))

/-- R139: a request that is refused, by the handler or by a block, leaves every block as it was but for one count of the
refusal and raises no flag of its own; one that is not refused is not counted. Each request command is handled so and
answered to its sender. A class without the flag for its kind is refused, and the fixed flags stand whatever the record
says (R134). The premise on the source lets a partner of an UNKNOWN slot through, the model's choice, log entry 10. -/
def Obligations.RefusedRequestOnlyCounts : Prop :=
  (∀ (s : State) (r : Request),
    (s.handle r).2 ∈ [.refusedPermission, .refusedUnknown, .tableFull, .owned, .busy, .notApplicable] →
    (s.handle r).1 = s.count .requestsRefused) ∧
  (∀ (s : State) (r : Request), (s.handle r).2 ∈ [.done, .doneClamped, .doneNothing] → r.code ≠ 0x32 →
    (s.handle r).1.eu.live[5] = s.eu.live[5]) ∧
  (∀ (s : State) (c : Instr) (r : Request), requestOf c = some r → s.phase = .running → s.mayRequest r.source = true →
    exec c s =
      .next ((s.handle r).1.deliver r.source { outcome := (s.handle r).2, kindCode := r.code })) ∧
  (∀ (s : State) (r : Request) (k : RequestKind), RequestKind.ofCode r.code = some k →
    s.settings.allows k (classOf r.source) = false → (s.handle r).2 = .refusedPermission) ∧
  (∀ set : Settings,
    set.allows .inject .occupant = false ∧ set.allows .inject .unit = false ∧
    set.allows .writeSetting .occupant = false ∧ set.allows .writeSetting .installer = true ∧
    set.allows .storeSettings .occupant = false ∧ set.allows .storeSettings .installer = true)

/-! ## The airflow engine -/

/-- The tacho and the fans' own timers (R41, R42, R50, R51, R53, R54). A pulse is noted on the fan whose role the port
carries, with the period since the pulse before. A hold-off's end stops the fan; a retry wait's end starts it if its
command is above 0 and stops it otherwise; a start time's end stalls a STARTING fan, which waits again or, at the third
stall, locks out. A fan in another state is left. A changed duty reaches its port at once. That an expiry in another fan
state changes nothing is log entry 6, and the periods in microseconds are log entry 12: the model's reading and its
choice. -/
def Obligations.FanTimersAndTachoPulses : Prop :=
  ∀ s : State, s.phase ≠ .held →
    (∀ port, s.roleOf port = .supply ↔ (port = .a ↔ s.straps.b.val < 2)) ∧
    (∀ (side : Side) (f : FanRecord),
      (s.withFan side f).ae.fan side = f ∧
      (∀ other, other ≠ side → (s.withFan side f).ae.fan other = s.ae.fan other) ∧
      (s.withFan side f).ae.dutyA = ((s.withFan side f).ae.fan (s.roleOf .a)).duty ∧
      (s.withFan side f).ae.dutyB = ((s.withFan side f).ae.fan (s.roleOf .b)).duty ∧
      s.withFan side f = { s with ae := (s.withFan side f).ae }) ∧
    (∀ (port : FanPort) (micros : Nat) (f : FanRecord), f = s.ae.fan (s.roleOf port) →
      (f.tacho.latest = none →
        exec (.tachoPulse port micros) s =
          .next (s.setAe (s.ae.withFan (s.roleOf port)
            { f with tacho := { f.tacho with latest := some (micros : Int) } }))) ∧
      (∀ before, f.tacho.latest = some before →
        exec (.tachoPulse port micros) s =
          .next (s.setAe (s.ae.withFan (s.roleOf port)
            { f with
              tacho :=
                { latest := some (micros : Int)
                  periodSum := f.tacho.periodSum + ((micros : Int) - before).toNat
                  periodCount := f.tacho.periodCount + 1 } })))) ∧
    (∀ (side : Side) (f : FanRecord), f = s.ae.fan side →
      (f.state = .holdoff →
        exec (.holdoffExpiry side) s = .next (s.withFan side { f with state := .stopped, wait := none })) ∧
      (f.state ≠ .holdoff → exec (.holdoffExpiry side) s = .next s) ∧
      (f.state = .stalled → 0 < f.qc →
        exec (.retryWaitExpiry side) s =
          .next (s.withFan side
            { f with state := .starting, duty := 300, qr := 0, wait := none, startTime := some 10 })) ∧
      (f.state = .stalled → f.qc = 0 →
        exec (.retryWaitExpiry side) s = .next (s.withFan side { f with state := .stopped, wait := none })) ∧
      (f.state ≠ .stalled → exec (.retryWaitExpiry side) s = .next s) ∧
      (f.state = .starting → f.retries < 2 →
        exec (.startTimeExpiry side) s =
          .next (((s.withFan side
            (f.atRest .stalled (some (max 30 s.settings.holdoffTime)) (f.retries + 1))).raise
              (stallFlag side)).count (stallCounter side))) ∧
      (f.state = .starting → 2 ≤ f.retries →
        exec (.startTimeExpiry side) s =
          .next ((((s.withFan side (f.atRest .lockedOut none (f.retries + 1))).raise (stallFlag side)).count
            (stallCounter side)).raise (lockoutFlag side))) ∧
      (f.state ≠ .starting → exec (.startTimeExpiry side) s = .next s))

/-- The measured speed of a control step (R42): from the mean period of the last second, at most 6000; without a period,
the previous value while the latest pulse is less than 2 s old, and 0 after. That pulse times are noted in microseconds
from the latest control step, so that each step moves them on by 1 000 000, is the model's choice, log entry 12. -/
def Obligations.ControlStepMeasuresBothFans : Prop :=
  ∀ s : State, s.phase ≠ .held →
    ∃ t, exec .controlStep s = .next t ∧ t = { s with ae := t.ae, preheat := t.preheat, eu := t.eu, freeCount := t.freeCount } ∧
      ∀ (side : Side) (o : Tacho), o = (s.ae.fan side).tacho →
        (o.periodCount ≠ 0 → o.periodSum / o.periodCount ≠ 0 →
          (t.ae.fan side).measured = min (30000000 / (o.periodSum / o.periodCount)) 6000) ∧
        (o.periodCount = 0 → (∀ at0, o.latest = some at0 → at0 + 2000000 ≤ 1000000) →
          (t.ae.fan side).measured = 0) ∧
        (o.periodCount = 0 → (∃ at0, o.latest = some at0 ∧ 1000000 < at0 + 2000000) →
          (t.ae.fan side).measured = (s.ae.fan side).measured) ∧
        (t.ae.fan side).tacho =
          { latest := o.latest.map fun at0 => at0 - 1000000
            periodSum := 0
            periodCount := 0 }

/-- The commands and the applied flows of a control step at which both fans run on (R46 to R48, R58, R59): the extract
command from the plan, raised in DEFROST and capped in FROST_HOLD; the supply command from the balance and the fraction,
0 below the curve's first flow; each flow moves toward its command by at most ramp_rate, the supply flow is clipped to
the extract flow, and a command of 0 stops its fan at once. In every state the commands are these: the extract command
is 0 for a LOCKED_OUT extract fan and capped for a LOCKED_OUT supply fan; the supply command is 0 for a LOCKED_OUT
supply fan and without a RUNNING extract fan, as stage 1 leaves both. -/
def Obligations.ControlStepCommandsAndRamps : Prop :=
  (∀ (s : State) (raised qce product qcs : Nat), s.Acts →
    (∀ side : Side, (s.ae.fan side).state = .running ∧
      ((s.ae.fan side).tacho.silent = false ∨ (s.ae.fan side).duty < 150)) →
    raised = (if s.fg.state = .defrost ∧ 0 < s.da.plan.target then
      max s.da.plan.target (min s.settings.defrostExtract s.da.plan.ceiling) else s.da.plan.target) →
    qce = (if s.fg.state = .frostHold then min raised s.settings.unbalancedCeiling else raised) →
    product = qce * s.settings.balance * s.fg.fraction / 1000000 →
    qcs = (if s.fg.state = .defrost ∨ s.fg.state = .frostHold ∨ product < s.settings.supplyCurve.flows[0] then 0
      else product) →
    ∃ t, exec .controlStep s = .next t ∧ t.ae.extract.qc = qce ∧ t.ae.supply.qc = qcs ∧
      (0 < qce →
        t.ae.extract.state = .running ∧
        (s.ae.extract.qr < qce → t.ae.extract.qr = min (s.ae.extract.qr + s.settings.rampRate) qce) ∧
        (qce ≤ s.ae.extract.qr → t.ae.extract.qr = max (s.ae.extract.qr - s.settings.rampRate) qce)) ∧
      (0 < qcs →
        t.ae.supply.state = .running ∧
        (s.ae.supply.qr < qcs →
          t.ae.supply.qr = min (min (s.ae.supply.qr + s.settings.rampRate) qcs) t.ae.extract.qr) ∧
        (qcs ≤ s.ae.supply.qr →
          t.ae.supply.qr = min (max (s.ae.supply.qr - s.settings.rampRate) qcs) t.ae.extract.qr)) ∧
      (∀ side : Side, (t.ae.fan side).qc = 0 →
        (t.ae.fan side).state = .holdoff ∧ (t.ae.fan side).duty = 0 ∧ (t.ae.fan side).qr = 0 ∧
        (t.ae.fan side).wait = some s.settings.holdoffTime) ∧
      t.ae.dutyA = (t.ae.fan (s.roleOf .a)).duty ∧ t.ae.dutyB = (t.ae.fan (s.roleOf .b)).duty) ∧
  (∀ (s : State) (raised : Nat), s.Acts →
    raised = (if s.fg.state = .defrost ∧ 0 < s.da.plan.target then
      max s.da.plan.target (min s.settings.defrostExtract s.da.plan.ceiling) else s.da.plan.target) →
    ∃ t, exec .controlStep s = .next t ∧
      ∀ (runs : Bool) (qce product : Nat),
        (runs = true ↔
          (s.ae.extract.state = .running ∧ (s.ae.extract.tacho.silent = false ∨ s.ae.extract.duty < 150)) ∨
          (s.ae.extract.state = .starting ∧ s.settings.provingSpeed ≤ t.ae.extract.measured)) →
        qce = (if t.ae.extract.state = .lockedOut then 0
          else if t.ae.supply.state = .lockedOut ∨ s.fg.state = .frostHold then
            min raised s.settings.unbalancedCeiling
          else raised) →
        product = qce * s.settings.balance * s.fg.fraction / 1000000 →
        t.ae.extract.qc = qce ∧
        t.ae.supply.qc =
          (if runs = false ∨ t.ae.supply.state = .lockedOut ∨ s.fg.state = .defrost ∨ s.fg.state = .frostHold ∨
              product < s.settings.supplyCurve.flows[0] then 0
          else product))

/-- The target and the speed loop of a fan that runs through a control step (R55, R60 to R64): the curve speed at the
applied flow, raised by the pressure above the clean filter's; the duty moved by the truncated sum, kept from 100 to
1000 with the remainder dropped at either end; the saturation counted at full duty below the target; the running time
counted. -/
def Obligations.ControlStepDrivesTheSpeedLoop : Prop :=
  ∀ (s : State) (side : Side), s.phase ≠ .held → (s.ae.fan side).state = .running →
    ∃ t, exec .controlStep s = .next t ∧
      ((t.ae.fan side).state = .running →
        ∀ (f g : FanRecord) (pressure : Channel) (excess target n : Nat) (num duty : Int),
          f = s.ae.fan side → g = t.ae.fan side → pressure = s.channel (filterChannel side) →
          (pressure.state = .failed ∨ (s.fm.filter side).dpClean = none → excess = 0) →
          (∀ dp : Nat, pressure.state ≠ .failed → (s.fm.filter side).dpClean = some dp →
            excess =
              (pressure.filtered - ((dp * g.qr * g.qr / (s.settings.qref * s.settings.qref) : Nat) : Int)).toNat) →
          target = min 6000 (((s.settings.curve side).speedAt g.qr).1 + excess * s.settings.compGain / 16) →
          num = s.settings.kp * (((target : Int) - g.measured) - f.ePrev) + s.settings.ki * ((target : Int) - g.measured) +
            f.remainder →
          duty = f.duty + num.tdiv 1024 → n = min 600 (f.runningTime + 1) →
          g.speedTarget = target ∧ g.curveLimit = ((s.settings.curve side).speedAt g.qr).2 ∧
          g.ePrev = (target : Int) - g.measured ∧
          (100 ≤ duty → duty ≤ 1000 → (g.duty : Int) = duty ∧ g.remainder = num - num.tdiv 1024 * 1024) ∧
          (1000 < duty → g.duty = 1000 ∧ g.remainder = 0) ∧ (duty < 100 → g.duty = 100 ∧ g.remainder = 0) ∧
          (g.duty = 1000 ∧ g.measured < target →
            g.saturation = min 30 (f.saturation + 1) ∧
            (g.flowLimited = true ↔ f.flowLimited = true ∨ g.saturation = 30) ∧
            (g.flowLimited = true → f.flowLimited = false → t.eu.isSet .flowLimited = true)) ∧
          (¬(g.duty = 1000 ∧ g.measured < target) → g.saturation = 0 ∧ g.flowLimited = false) ∧
          g.runningTime = n ∧ (n = 600 → g.retries = 0) ∧ (n < 600 → g.retries = f.retries))

/-- The speed of a curve (R60): its first speed up to its first flow, the truncated interpolation between two
neighbouring points, its last speed with the curve limit above its last flow. -/
def Obligations.CurveInterpolatesBetweenItsPoints : Prop :=
  ∀ (c : Curve) (q : Nat), (∀ i j : Fin 8, i < j → c.flows[i] < c.flows[j]) →
    (q ≤ c.flows[0] → c.speedAt q = (c.speeds[0], false)) ∧
    (∀ i j : Fin 8, j.val = i.val + 1 → c.flows[i] < q → q ≤ c.flows[j] →
      c.speedAt q =
        (c.speeds[i] + (q - c.flows[i]) * (c.speeds[j] - c.speeds[i]) / (c.flows[j] - c.flows[i]), false)) ∧
    (c.flows[7] < q → c.speedAt q = (c.speeds[7], true))

/-- Starting and stopping by command (R44, R49 to R51): with a plan of 0, or before the measurements are ready, both
commands are 0 and a RUNNING or STARTING fan that does not stall at this step enters HOLDOFF; a STOPPED extract fan
starts when the plan is above 0; a STARTING extract fan that has reached proving_speed runs, its first flow the lesser
of ramp_rate and its command, its duty as it was and its error noted. The supply fan starts and proves in the same way
by its own command, its first flow clipped to the extract flow. Whatever the plan, a RUNNING or STARTING fan whose own
command is 0 enters HOLDOFF unless it stalls at this step, and a fan in HOLDOFF, STALLED or LOCKED_OUT takes no action
on its command (R51, R53, R56). -/
def Obligations.CommandsStartAndStopTheFans : Prop :=
  ∀ s : State, s.phase ≠ .held →
    ∃ t, exec .controlStep s = .next t ∧
      (s.da.plan.target = 0 ∨ s.mc.ready = false →
        ∀ side : Side, (t.ae.fan side).qc = 0 ∧ (t.ae.fan side).state ≠ .running ∧ (t.ae.fan side).state ≠ .starting ∧
          ((s.ae.fan side).state = .starting ∨
              ((s.ae.fan side).state = .running ∧
                ((s.ae.fan side).tacho.silent = false ∨ (s.ae.fan side).duty < 150)) →
            (t.ae.fan side).state = .holdoff ∧ (t.ae.fan side).duty = 0 ∧ (t.ae.fan side).qr = 0 ∧
            (t.ae.fan side).wait = some s.settings.holdoffTime ∧ (t.ae.fan side).startTime = none ∧
            (t.ae.fan side).retries = (s.ae.fan side).retries)) ∧
      (s.mc.ready = true → 0 < s.da.plan.target → 0 < s.settings.unbalancedCeiling →
        (s.ae.extract.state = .stopped →
          t.ae.extract.state = .starting ∧ t.ae.extract.duty = 300 ∧ t.ae.extract.startTime = some 10 ∧
          t.ae.extract.qr = 0) ∧
        (s.ae.extract.state = .starting → s.settings.provingSpeed ≤ t.ae.extract.measured →
          t.ae.extract.state = .running ∧ t.ae.extract.startTime = none ∧ t.ae.extract.duty = s.ae.extract.duty ∧
          t.ae.extract.runningTime = 0 ∧ t.ae.extract.remainder = 0 ∧
          (s.ae.extract.qr = 0 → t.ae.extract.qr = min s.settings.rampRate t.ae.extract.qc) ∧
          t.ae.extract.ePrev = (t.ae.extract.speedTarget : Int) - t.ae.extract.measured) ∧
        (s.ae.extract.state = .starting → t.ae.extract.measured < s.settings.provingSpeed →
          t.ae.extract.state = .starting)) ∧
      (0 < t.ae.supply.qc →
        (s.ae.supply.state = .stopped →
          t.ae.supply.state = .starting ∧ t.ae.supply.duty = 300 ∧ t.ae.supply.startTime = some 10 ∧
          t.ae.supply.qr = 0) ∧
        (s.ae.supply.state = .starting → s.settings.provingSpeed ≤ t.ae.supply.measured →
          t.ae.supply.state = .running ∧ t.ae.supply.startTime = none ∧ t.ae.supply.duty = s.ae.supply.duty ∧
          t.ae.supply.runningTime = 0 ∧ t.ae.supply.remainder = 0 ∧
          (s.ae.supply.qr = 0 →
            t.ae.supply.qr = min (min s.settings.rampRate t.ae.supply.qc) t.ae.extract.qr) ∧
          t.ae.supply.ePrev = (t.ae.supply.speedTarget : Int) - t.ae.supply.measured) ∧
        (s.ae.supply.state = .starting → t.ae.supply.measured < s.settings.provingSpeed →
          t.ae.supply.state = .starting)) ∧
      (∀ side : Side,
        ((t.ae.fan side).qc = 0 → (s.ae.fan side).state = .stopped → (t.ae.fan side).state = .stopped) ∧
        ((t.ae.fan side).qc = 0 →
          (s.ae.fan side).state = .starting ∨
            ((s.ae.fan side).state = .running ∧
              ((s.ae.fan side).tacho.silent = false ∨ (s.ae.fan side).duty < 150)) →
          t.ae.fan side =
            { s.ae.fan side with
              state := .holdoff
              duty := 0
              measured := (t.ae.fan side).measured
              qc := 0
              qr := 0
              speedTarget := 0
              ePrev := 0
              remainder := 0
              wait := some s.settings.holdoffTime
              startTime := none
              runningTime := 0
              curveLimit := false
              saturation := 0
              flowLimited := false
              tacho := (t.ae.fan side).tacho }) ∧
        ((s.ae.fan side).state ∈ [.holdoff, .stalled, .lockedOut] →
          t.ae.fan side =
            { s.ae.fan side with
              measured := (t.ae.fan side).measured
              qc := (t.ae.fan side).qc
              qr := (t.ae.fan side).qr
              tacho := (t.ae.fan side).tacho } ∧
          ((s.ae.fan side).qr = 0 → (t.ae.fan side).qr = 0)))

/-- R52 and R53: a RUNNING fan without a pulse for 2 s at a duty of 150 or more stalls at the step: duty and Q_r 0, the
stall flag and one count of it, a retry wait of 30 s or the hold-off if that is longer, and at the third stall the
lockout with its flag. -/
def Obligations.SilentRunningFanStalls : Prop :=
  ∀ (s : State) (side : Side), s.phase ≠ .held → (s.ae.fan side).state = .running → 150 ≤ (s.ae.fan side).duty →
    (∀ at0, (s.ae.fan side).tacho.latest = some at0 → at0 + 2000000 ≤ 1000000) →
    ∃ t, exec .controlStep s = .next t ∧ (t.ae.fan side).duty = 0 ∧ (t.ae.fan side).qr = 0 ∧
      (t.ae.fan side).runningTime = 0 ∧ (t.ae.fan side).remainder = 0 ∧ (t.ae.fan side).ePrev = 0 ∧
      (t.ae.fan side).saturation = 0 ∧ (t.ae.fan side).flowLimited = false ∧ (t.ae.fan side).curveLimit = false ∧
      (t.ae.fan side).retries = (s.ae.fan side).retries + 1 ∧ t.eu.isSet (stallFlag side) = true ∧
      t.eu.live[(stallCounter side).index] = s.eu.live[(stallCounter side).index] + 1 ∧
      ((s.ae.fan side).retries < 2 →
        (t.ae.fan side).state = .stalled ∧ (t.ae.fan side).wait = some (max 30 s.settings.holdoffTime)) ∧
      (2 ≤ (s.ae.fan side).retries →
        (t.ae.fan side).state = .lockedOut ∧ (t.ae.fan side).wait = none ∧ t.eu.isSet (lockoutFlag side) = true)

/-- CLEAR_LOCKOUT (R56, R95, R136, R137): a LOCKED_OUT fan enters HOLDOFF with its retry count 0, a damper in FAULT
begins a closing travel from bypass_travel or, with the closed switch made, is CLOSED (DONE); in any other state nothing
changes (DONE_NOTHING); without a damper, or for a target that is absent or names none of the three, NOT_APPLICABLE.
Which sources can ask, an UNKNOWN slot's among them, is the model's choice, log entry 10. -/
def Obligations.ClearLockoutFreesAFanOrTheDamper : Prop :=
  ∀ (s : State) (src : Master), s.CanAsk src .clearLockout →
    (∀ side : Side,
      ((s.ae.fan side).state = .lockedOut →
        exec (.clearLockoutFan src (some (if side = .supply then 0 else 1))) s =
          .next ((s.withFan side
            ((s.ae.fan side).atRest .holdoff (some s.settings.holdoffTime) 0)).deliver src
              { outcome := .done, kindCode := 0x20 })) ∧
      ((s.ae.fan side).state ≠ .lockedOut →
        exec (.clearLockoutFan src (some (if side = .supply then 0 else 1))) s =
          .next (s.deliver src { outcome := .doneNothing, kindCode := 0x20 }))) ∧
    (∀ target : Option Byte, (∀ b, target = some b → 3 ≤ b.toNat) →
      exec (.clearLockoutFan src target) s =
        .next ((s.count .requestsRefused).deliver src { outcome := .notApplicable, kindCode := 0x20 })) ∧
    (s.damperFitted = false →
      exec (.clearLockoutBypass src) s =
        .next ((s.count .requestsRefused).deliver src { outcome := .notApplicable, kindCode := 0x20 })) ∧
    (s.damperFitted = true → s.damper.state ≠ .fault →
      exec (.clearLockoutBypass src) s = .next (s.deliver src { outcome := .doneNothing, kindCode := 0x20 })) ∧
    (s.damperFitted = true → s.damper.state = .fault → s.damper.closedMade = false →
      exec (.clearLockoutBypass src) s =
        .next ((s.setDamper { s.damper with
          state := .closing
          position := s.settings.bypassTravel
          allowance := some s.settings.bypassTravel
          elapsed := some 0
          drive := .closing }).deliver src { outcome := .done, kindCode := 0x20 })) ∧
    (s.damperFitted = true → s.damper.state = .fault → s.damper.closedMade = true →
      exec (.clearLockoutBypass src) s =
        .next ((s.setDamper { s.damper with
          state := .closed
          position := 0
          allowance := none
          elapsed := none
          drive := .off }).deliver src { outcome := .done, kindCode := 0x20 }))

/-! ## The frost guard, the pre-heater and the damper -/

/-- An evaluation (R68 to R70, R80): before the measurements are ready nothing moves; after, T_lim is the base limit
plus what the dew point adds, ages and elapsed times go on by 10 s, and with the extract fan outside RUNNING the guard
pauses in any state but FROST_HOLD: a defrost ends, the window empties, the fraction is 1000, and the state follows
T_ODA. With the extract fan RUNNING the guard moves between INACTIVE and WATCH on T_ODA: a cold or failed T_ODA takes
INACTIVE to WATCH, where the core reference is recorded (R72), and a warm one takes a WATCH with a clear window back
(R73). -/
def Obligations.EvaluationSetsTheLimitAndPauses : Prop :=
  (∀ s : State, s.mc.ready = false → exec .frostEvaluation s = .next s) ∧
  (∀ (s : State) (adder : Int), s.Acts →
    ((s.channel chRh).state = .failed ∨ (s.channel chEta).state = .failed ∨ s.hm.dewPoint = none → adder = 20) →
    (∀ td, (s.channel chRh).state ≠ .failed → (s.channel chEta).state ≠ .failed → s.hm.dewPoint = some td →
      adder = (if 100 ≤ td then min 20 ((td - 100).tdiv 4) else 0)) →
    ∃ t, exec .frostEvaluation s = .next t ∧
      t = { s with fg := t.fg, damper := t.damper, preheat := t.preheat, eu := t.eu } ∧
      t.fg.limit = s.settings.frostBaseLimit + adder ∧
      t.preheat = { s.preheat with output := s.preheat.output && decide (t.fg.proportion ≠ 0) } ∧
      (s.ae.extract.state = .running → t.fg.paused = false) ∧
      (s.ae.extract.state ≠ .running → s.fg.state ≠ .frostHold →
        t.fg =
          { s.fg with
            state := t.fg.state
            origin := none
            fraction := 1000
            proportion := 0
            limit := t.fg.limit
            window := []
            defrostElapsed := none
            holdElapsed := s.fg.holdElapsed.map fun n => n + 10
            fallbackCycle := none
            history := (s.fg.history.map fun a => a + 10).filter fun a => decide (a < 3600)
            paused := true
            wantedOpen := t.fg.wantedOpen } ∧
        t.eu = s.eu ∧
        ((s.channel chOda).state ≠ .failed ∧ s.settings.frostEnable ≤ (s.channel chOda).filtered →
          t.fg.state = .inactive) ∧
        ((s.channel chOda).state = .failed ∨ (s.channel chOda).filtered < s.settings.frostEnable →
          t.fg.state = .watch))) ∧
  (∀ (s : State) (limit : Int) (cold : Bool) (window : List Bool) (reference : Option CoreReference),
    s.Acts → s.ae.extract.state = .running → (s.channel chEha).state ≠ .failed →
    limit = s.settings.frostBaseLimit + s.frostInputs.adder →
    (cold = true ↔ (s.channel chEha).filtered < limit ∨
      ∃ r, s.fg.coreRef = some r ∧ (s.channel chDpCore).state ≠ .failed ∧ s.ae.extract.qr ≤ r.flow ∧
        (r.pressure * 3).tdiv 2 < (s.channel chDpCore).filtered) →
    window = pushWindow 6 cold s.fg.window →
    reference = (if s.settings.qmin ≤ s.ae.extract.qr ∧ (s.channel chDpCore).state = .valid ∧
        5 ≤ (s.channel chDpCore).filtered then
      some { pressure := (s.channel chDpCore).filtered, flow := s.ae.extract.qr } else s.fg.coreRef) →
    ∃ t, exec .frostEvaluation s = .next t ∧
      (s.fg.state = .inactive → t.fg.window = s.fg.window ∧ t.eu = s.eu ∧
        ((s.channel chOda).state = .failed ∨ (s.channel chOda).filtered < s.settings.frostEnable →
          t.fg.state = .watch ∧ t.fg.fraction = 1000 ∧ t.fg.proportion = 0 ∧ t.fg.coreRef = reference) ∧
        ((s.channel chOda).state ≠ .failed → s.settings.frostEnable ≤ (s.channel chOda).filtered →
          t.fg.state = .inactive ∧ t.fg.fraction = s.fg.fraction ∧ t.fg.proportion = s.fg.proportion ∧
          t.fg.coreRef = s.fg.coreRef)) ∧
      (s.fg.state = .watch → marks window < s.settings.kFrost → t.fg.coreRef = s.fg.coreRef ∧ t.eu = s.eu ∧
        ((s.channel chOda).state ≠ .failed → s.settings.frostEnable + 10 ≤ (s.channel chOda).filtered →
          marks window = 0 →
          t.fg.state = .inactive ∧ t.fg.window = [] ∧ t.fg.fraction = 1000 ∧ t.fg.proportion = 0) ∧
        ((s.channel chOda).state = .failed ∨ (s.channel chOda).filtered < s.settings.frostEnable + 10 ∨
            marks window ≠ 0 →
          t.fg.state = .watch ∧ t.fg.window = window ∧ t.fg.fraction = s.fg.fraction ∧
          t.fg.proportion = s.fg.proportion)))

/-- A window that meets k_frost in WATCH, PROTECT or RECOVER (R71, R74 to R76, R78, R79): one escalation step, which
raises the proportion, or lowers the fraction, or makes a defrost due; a fourth start within the hour is a frost hold.
The guard is in PROTECT unless it defrosts or holds, and PROTECT_ENTERED is raised on the way in. A clear window takes
one step back in PROTECT (R75), the fraction first and then the proportion, and raises the fraction in RECOVER (R78); at
the fraction 1000, in PROTECT with the proportion 0, the guard is in WATCH and records the core reference (R72). A
window that is neither keeps the state. -/
def Obligations.ColdWindowEscalates : Prop :=
  (∀ (s : State) (limit : Int) (cold : Bool) (window : List Bool) (history : List Nat) (entered : EventUnit),
    s.Acts → s.ae.extract.state = .running → s.fg.state ∈ [.watch, .protect, .recover] →
    (s.channel chEha).state ≠ .failed → limit = s.settings.frostBaseLimit + s.frostInputs.adder →
    (cold = true ↔ (s.channel chEha).filtered < limit ∨
      ∃ r, s.fg.coreRef = some r ∧ (s.channel chDpCore).state ≠ .failed ∧ s.ae.extract.qr ≤ r.flow ∧
        (r.pressure * 3).tdiv 2 < (s.channel chDpCore).filtered) →
    window = pushWindow 6 cold s.fg.window → s.settings.kFrost ≤ marks window →
    history = ((s.fg.history.map fun a => a + 10).filter fun a => decide (a < 3600)) →
    entered = (if s.fg.state = .protect then s.eu else s.eu.raise .protectEntered) →
    ∃ t, exec .frostEvaluation s = .next t ∧ t.fg.limit = limit ∧ t.fg.coreRef = s.fg.coreRef ∧
      (s.preheaterFitted = true ∧ s.fg.proportion < 1000 →
        t.fg.state = .protect ∧ t.fg.proportion = s.fg.proportion + 200 ∧ t.fg.fraction = s.fg.fraction ∧
        t.fg.window = window ∧ t.fg.history = history ∧ t.eu = entered) ∧
      (s.preheaterFitted = false ∨ 1000 ≤ s.fg.proportion →
        (s.settings.minFraction < s.fg.fraction →
          t.fg.state = .protect ∧ t.fg.proportion = s.fg.proportion ∧
          t.fg.fraction = max s.settings.minFraction (s.fg.fraction - s.settings.frostStep) ∧
          t.fg.window = window ∧ t.fg.history = history ∧ t.eu = entered) ∧
        (s.fg.fraction ≤ s.settings.minFraction →
          t.fg.fraction = 0 ∧ t.fg.proportion = 0 ∧ t.fg.window = [] ∧
          (history.length < 3 →
            t.fg.state = .defrost ∧ t.fg.origin = some .normal ∧ t.fg.defrostElapsed = some 0 ∧
            t.fg.history = history ++ [0] ∧
            t.eu = (entered.raise .defrostStarted).count s.settings.counterSnapshot .defrosts) ∧
          (3 ≤ history.length →
            t.fg.state = .frostHold ∧ t.fg.holdElapsed = some 0 ∧
            t.fg.holdEntryOda = (if (s.channel chOda).state = .failed then none else some (s.channel chOda).filtered) ∧
            t.fg.history = history ∧ t.eu = entered.raise .frostHoldEntered)))) ∧
  (∀ (s : State) (limit : Int) (cold : Bool) (window : List Bool) (reference : Option CoreReference)
    (fraction proportion : Nat),
    s.Acts → s.ae.extract.state = .running → s.fg.state ∈ [.protect, .recover] → (s.channel chEha).state ≠ .failed →
    limit = s.settings.frostBaseLimit + s.frostInputs.adder →
    (cold = true ↔ (s.channel chEha).filtered < limit ∨
      ∃ r, s.fg.coreRef = some r ∧ (s.channel chDpCore).state ≠ .failed ∧ s.ae.extract.qr ≤ r.flow ∧
        (r.pressure * 3).tdiv 2 < (s.channel chDpCore).filtered) →
    window = pushWindow 6 cold s.fg.window → marks window < s.settings.kFrost →
    reference = (if s.settings.qmin ≤ s.ae.extract.qr ∧ (s.channel chDpCore).state = .valid ∧
        5 ≤ (s.channel chDpCore).filtered then
      some { pressure := (s.channel chDpCore).filtered, flow := s.ae.extract.qr } else s.fg.coreRef) →
    fraction = (if s.fg.fraction < 1000 ∨ s.fg.state = .recover then
      min 1000 (s.fg.fraction + s.settings.frostStep) else s.fg.fraction) →
    proportion = (if s.fg.fraction < 1000 ∨ s.fg.state = .recover then s.fg.proportion else s.fg.proportion - 200) →
    ∃ t, exec .frostEvaluation s = .next t ∧ t.fg.limit = limit ∧ t.fg.window = window ∧ t.eu = s.eu ∧
      (marks window ≠ 0 →
        t.fg.state = s.fg.state ∧ t.fg.fraction = s.fg.fraction ∧ t.fg.proportion = s.fg.proportion ∧
        t.fg.coreRef = s.fg.coreRef) ∧
      (marks window = 0 →
        (fraction = 1000 ∧ (proportion = 0 ∨ s.fg.state = .recover) →
          t.fg.state = .watch ∧ t.fg.fraction = 1000 ∧ t.fg.proportion = 0 ∧ t.fg.coreRef = reference) ∧
        (¬(fraction = 1000 ∧ (proportion = 0 ∨ s.fg.state = .recover)) →
          t.fg.state = s.fg.state ∧ t.fg.fraction = fraction ∧ t.fg.proportion = proportion ∧
          t.fg.coreRef = s.fg.coreRef)))

/-- The end of a normal defrost (R77, R78, R81) and of a frost hold (R79): unresolved at three times defrost_time; into
FALLBACK with T_EHA FAILED, or into RECOVER at T_lim and the margin, from defrost_time on; a hold after 3600 s with
T_ODA risen by 20, or after 14400 s, with FROST_HOLD_LEFT, and no sooner. A hold that ends without extract flow goes on
as the pause gives, the whole of it by the model's reading, log entry 16. FALLBACK (R81 to R84): a failed T_EHA enters
it with GUARD_FALLBACK; the fraction and the proportion follow its table; in the cold regime a defrost of its own falls
due every 3600 s and ends after 600 s; a warm T_ODA or a T_EHA that reads again leaves it. That an entry leaves the
cycle count to the next evaluation is the model's reading, log entry 15. -/
def Obligations.DefrostsAndHoldsEnd : Prop :=
  (∀ (s : State) (elapsed : Nat), s.Acts → s.ae.extract.state = .running →
    ∃ t, exec .frostEvaluation s = .next t ∧
      (s.fg.state = .defrost → s.fg.origin = some .normal → s.fg.defrostElapsed = some elapsed →
        (3 * s.settings.defrostTime ≤ elapsed + 10 →
          t.fg.state = .recover ∧ t.fg.fraction = s.settings.minFraction ∧ t.fg.proportion = 0 ∧ t.fg.window = [] ∧
          t.fg.origin = none ∧ t.fg.defrostElapsed = none ∧ t.eu = s.eu.raise .defrostUnresolved) ∧
        (elapsed + 10 < 3 * s.settings.defrostTime → s.settings.defrostTime ≤ elapsed + 10 →
          ((s.channel chEha).state = .failed →
            t.fg.state = .fallback ∧ t.fg.origin = none ∧ t.fg.defrostElapsed = none ∧ t.fg.window = [] ∧
            t.eu = s.eu.raise .guardFallback) ∧
          ((s.channel chEha).state ≠ .failed → t.fg.limit + s.settings.exitMargin ≤ (s.channel chEha).filtered →
            t.fg.state = .recover ∧ t.fg.fraction = s.settings.minFraction ∧ t.fg.proportion = 0 ∧
            t.fg.window = [] ∧ t.fg.origin = none ∧ t.fg.defrostElapsed = none ∧ t.eu = s.eu)) ∧
        (elapsed + 10 < 3 * s.settings.defrostTime →
          (elapsed + 10 < s.settings.defrostTime ∨ ((s.channel chEha).state ≠ .failed ∧
            (s.channel chEha).filtered < t.fg.limit + s.settings.exitMargin)) →
          t.fg.state = .defrost ∧ t.fg.fraction = s.fg.fraction ∧ t.fg.defrostElapsed = some (elapsed + 10) ∧
          t.eu = s.eu)) ∧
      (s.fg.state = .frostHold → s.fg.holdElapsed = some elapsed →
        (14400 ≤ elapsed + 10 ∨
            (3600 ≤ elapsed + 10 ∧ (s.channel chOda).state ≠ .failed ∧
              ∃ entry, s.fg.holdEntryOda = some entry ∧ entry + 20 ≤ (s.channel chOda).filtered) →
          t.fg.holdElapsed = none ∧ t.fg.holdEntryOda = none ∧
          ((s.channel chEha).state ≠ .failed →
            t.fg.state = .recover ∧ t.fg.fraction = s.settings.minFraction ∧ t.eu = s.eu.raise .frostHoldLeft) ∧
          ((s.channel chEha).state = .failed →
            t.fg.state = .fallback ∧ t.eu = (s.eu.raise .frostHoldLeft).raise .guardFallback)) ∧
        (elapsed + 10 < 14400 →
          (elapsed + 10 < 3600 ∨ (s.channel chOda).state = .failed ∨
            ∀ entry, s.fg.holdEntryOda = some entry → (s.channel chOda).filtered < entry + 20) →
          t.fg.state = .frostHold ∧ t.fg.holdElapsed = some (elapsed + 10) ∧
          t.fg.holdEntryOda = s.fg.holdEntryOda ∧ t.fg.fraction = s.fg.fraction ∧
          t.fg.proportion = s.fg.proportion ∧ t.eu = s.eu))) ∧
  (∀ (s : State) (elapsed : Nat), s.Acts → s.ae.extract.state ≠ .running → s.fg.state = .frostHold →
    s.fg.holdElapsed = some elapsed →
    ∃ t, exec .frostEvaluation s = .next t ∧
      (14400 ≤ elapsed + 10 ∨
          (3600 ≤ elapsed + 10 ∧ (s.channel chOda).state ≠ .failed ∧
            ∃ entry, s.fg.holdEntryOda = some entry ∧ entry + 20 ≤ (s.channel chOda).filtered) →
        t.fg.holdElapsed = none ∧ t.fg.holdEntryOda = none ∧ t.fg.fraction = 1000 ∧ t.fg.proportion = 0 ∧
        t.fg.window = [] ∧ t.fg.paused = true ∧ t.eu = s.eu.raise .frostHoldLeft ∧
        t.fg.state = (if (s.channel chOda).state ≠ .failed ∧
          s.settings.frostEnable ≤ (s.channel chOda).filtered then .inactive else .watch)) ∧
      (elapsed + 10 < 14400 →
        (elapsed + 10 < 3600 ∨ (s.channel chOda).state = .failed ∨
          ∀ entry, s.fg.holdEntryOda = some entry → (s.channel chOda).filtered < entry + 20) →
        t.fg.state = .frostHold ∧ t.fg.holdElapsed = some (elapsed + 10) ∧ t.fg.paused = false ∧ t.eu = s.eu)) ∧
  (∀ (s : State) (oda : Int) (table fraction proportion : Nat) (history : List Nat) (reference : Option CoreReference)
    (started : EventUnit),
    s.Acts → s.ae.extract.state = .running → oda = (s.channel chOda).filtered →
    table = (if (s.channel chOda).state = .failed then s.settings.minFraction else if 0 ≤ oda then 1000
      else if -50 ≤ oda then 800 else if -100 ≤ oda then 600 else s.settings.minFraction) →
    fraction = max table s.settings.minFraction →
    proportion = (if s.preheaterFitted = true ∧ table < 1000 then 1000 else 0) →
    history = ((s.fg.history.map fun a => a + 10).filter fun a => decide (a < 3600)) →
    reference = (if s.settings.qmin ≤ s.ae.extract.qr ∧ (s.channel chDpCore).state = .valid ∧
        5 ≤ (s.channel chDpCore).filtered then
      some { pressure := (s.channel chDpCore).filtered, flow := s.ae.extract.qr } else s.fg.coreRef) →
    started = (s.eu.raise .defrostStarted).count s.settings.counterSnapshot .defrosts →
    ∃ t, exec .frostEvaluation s = .next t ∧
      (t.fg.state = .fallback → t.fg.fraction = fraction ∧ t.fg.proportion = proportion) ∧
      ((s.channel chEha).state = .failed →
        (s.fg.state ∈ [.watch, .protect, .recover] ∨
          (s.fg.state = .inactive ∧ ((s.channel chOda).state = .failed ∨ oda < s.settings.frostEnable)) →
        t.fg.state = .fallback ∧ t.fg.window = [] ∧ t.fg.coreRef = s.fg.coreRef ∧ t.fg.history = history ∧
        t.fg.fallbackCycle = s.fg.fallbackCycle.map (fun n => n + 10) ∧ t.eu = s.eu.raise .guardFallback)) ∧
      (s.fg.state = .fallback ∨
          (s.fg.state = .defrost ∧ s.fg.origin = some .fallback ∧
            ∃ elapsed, s.fg.defrostElapsed = some elapsed ∧ 600 ≤ elapsed + 10) →
        ((s.channel chOda).state ≠ .failed → s.settings.frostEnable + 10 ≤ oda →
          t.fg.state = .inactive ∧ t.fg.window = [] ∧ t.fg.fraction = 1000 ∧ t.fg.proportion = 0 ∧
          t.fg.fallbackCycle = none ∧ t.fg.coreRef = s.fg.coreRef ∧ t.eu = s.eu) ∧
        ((s.channel chOda).state = .failed ∨ oda < s.settings.frostEnable + 10 → (s.channel chEha).state ≠ .failed →
          t.fg.state = .watch ∧ t.fg.window = [] ∧ t.fg.fraction = 1000 ∧ t.fg.proportion = 0 ∧
          t.fg.fallbackCycle = none ∧ t.fg.coreRef = reference ∧ t.eu = s.eu)) ∧
      (s.fg.state = .fallback → (s.channel chOda).state = .failed ∨ oda < s.settings.frostEnable + 10 →
        (s.channel chEha).state = .failed →
        ((s.channel chOda).state ≠ .failed → -100 ≤ oda →
          t.fg.state = .fallback ∧ t.fg.fallbackCycle = none ∧ t.eu = s.eu) ∧
        ((s.channel chOda).state = .failed ∨ oda < -100 →
          (s.fg.fallbackCycle = none → t.fg.state = .fallback ∧ t.fg.fallbackCycle = some 0 ∧ t.eu = s.eu) ∧
          (∀ n, s.fg.fallbackCycle = some n → n + 10 < 3600 →
            t.fg.state = .fallback ∧ t.fg.fallbackCycle = some (n + 10) ∧ t.eu = s.eu) ∧
          (∀ n, s.fg.fallbackCycle = some n → 3600 ≤ n + 10 →
            t.fg.state = .defrost ∧ t.fg.origin = some .fallback ∧ t.fg.fraction = 0 ∧ t.fg.proportion = 0 ∧
            t.fg.window = [] ∧ t.fg.defrostElapsed = some 0 ∧ t.fg.fallbackCycle = some 0 ∧
            t.fg.history = pushWindow 4 0 history ∧ t.eu = started))) ∧
      (∀ elapsed, s.fg.state = .defrost → s.fg.origin = some .fallback → s.fg.defrostElapsed = some elapsed →
        t.eu = s.eu ∧
        (elapsed + 10 < 600 →
          t.fg.state = .defrost ∧ t.fg.origin = some .fallback ∧ t.fg.defrostElapsed = some (elapsed + 10) ∧
          t.fg.fraction = s.fg.fraction ∧ t.fg.proportion = s.fg.proportion ∧
          t.fg.fallbackCycle = s.fg.fallbackCycle.map fun n => n + 10) ∧
        (600 ≤ elapsed + 10 → t.fg.origin = none ∧ t.fg.defrostElapsed = none ∧
          ((s.channel chEha).state = .failed →
            (s.channel chOda).state = .failed ∨ oda < s.settings.frostEnable + 10 →
            t.fg.state = .fallback ∧ t.fg.window = [] ∧
            t.fg.fallbackCycle = s.fg.fallbackCycle.map fun n => n + 10))))

/-- The pre-heater's windows (R87 to R89): a window starts while the supply fan runs and a pre-heater is fitted, with
the output on for the on-time of the proportion; the output goes off at its end unless the on-time is the whole window;
at a control step the supply fan's entry to RUNNING starts a window and its leaving ends all output. That an on-time's
end with no window running changes nothing is the model's reading, log entry 6. -/
def Obligations.PreheaterRunsInWindows : Prop :=
  ∀ (s : State) (window : Preheat), s.phase ≠ .held →
    window =
      { windowRunning := true
        onTime := s.fg.proportion * 60 / 1000
        output := decide (0 < s.fg.proportion * 60 / 1000) } →
    (s.ae.supply.state = .running → s.preheaterFitted = true →
      exec .preheatWindowStart s = .next (s.setPreheat window)) ∧
    (s.ae.supply.state ≠ .running ∨ s.preheaterFitted = false → exec .preheatWindowStart s = .next s) ∧
    (s.preheat.windowRunning = true → s.preheat.onTime < 60 →
      exec .preheatOnTimeEnd s = .next (s.setPreheat { s.preheat with output := false })) ∧
    (s.preheat.windowRunning = false ∨ 60 ≤ s.preheat.onTime → exec .preheatOnTimeEnd s = .next s) ∧
    ∃ t, exec .controlStep s = .next t ∧
      (t.ae.supply.state ≠ .running → t.preheat = { windowRunning := false, onTime := 0, output := false }) ∧
      (t.ae.supply.state = .running → s.ae.supply.state ≠ .running → s.preheaterFitted = true →
        t.preheat = window) ∧
      (t.ae.supply.state = .running → s.ae.supply.state = .running → t.preheat = s.preheat)

/-- The damper's travels (R90 to R94, R96): the timer advances a travel and fails it at its allowance and 30 s; the
switch at the end of a travel completes it, and stops the drive of a FAULT damper at the closed end; an evaluation
judges the wanted-open indication, which keeps its value between the conditions for yes and those for no (R91), and
which begins and reverses travels; a travel whose target switch is already made completes at once (R92); outside
INACTIVE the indication is no and an open damper is turned home. Without a damper the indication stays no (R90). In
every other state, and at a release, an end switch moves its own input alone. That a switch can be released is the
model's choice, log entry 7, and that the timer does not expire outside a travel is its reading, log entry 6. -/
def Obligations.DamperTravelsAndFails : Prop :=
  ∀ (s : State) (d : Damper) (travel : Nat), d = s.damper → travel = s.settings.bypassTravel →
    (∀ elapsed allowance moved, s.phase ≠ .held → d.elapsed = some elapsed → d.allowance = some allowance →
      (d.state = .opening ∧ moved = min (d.position + 1) travel ∨
        d.state = .closing ∧ moved = min (d.position - 1) travel) →
      (elapsed + 1 < allowance + 30 →
        exec .damperTimerExpiry s =
          .next (s.setDamper { d with elapsed := some (elapsed + 1), position := moved })) ∧
      (allowance + 30 ≤ elapsed + 1 →
        exec .damperTimerExpiry s =
          .next ((s.setDamper { d with
            state := .fault
            position := moved
            allowance := none
            elapsed := none
            drive := if d.closedMade then .off else .closing }).raise .bypassFault))) ∧
    (d.state ≠ .opening → d.state ≠ .closing → exec .damperTimerExpiry s = .next s) ∧
    (s.damperFitted = true →
      (d.state = .opening →
        exec (.endSwitchMade .opened true) s =
          .next (s.setDamper { d with
            state := .opened
            position := travel
            allowance := none
            elapsed := none
            drive := .off
            openMade := true })) ∧
      (d.state = .closing →
        exec (.endSwitchMade .closed true) s =
          .next (s.setDamper { d with
            state := .closed
            position := 0
            allowance := none
            elapsed := none
            drive := .off
            closedMade := true })) ∧
      (d.state = .fault →
        exec (.endSwitchMade .closed true) s =
          .next (s.setDamper { d with drive := .off, closedMade := true }))) ∧
    (∀ made,
      (s.damperFitted = false ∨ d.state ≠ .opening ∨ made = false →
        exec (.endSwitchMade .opened made) s = .next (s.setDamper { d with openMade := made })) ∧
      (s.damperFitted = false ∨ (d.state ≠ .closing ∧ d.state ≠ .fault) ∨ made = false →
        exec (.endSwitchMade .closed made) s = .next (s.setDamper { d with closedMade := made }))) ∧
    (s.Acts → s.damperFitted = false →
      ∃ t, exec .frostEvaluation s = .next t ∧ t.damper = d ∧ t.fg.wantedOpen = false) ∧
    (s.Acts → s.damperFitted = true → ∀ eta oda : Int, eta = s.filtered chEta → oda = s.filtered chOda →
      ∃ t, exec .frostEvaluation s = .next t ∧
        (∀ opens closes : Bool,
          (opens = true ↔ s.season.mode = .summer ∧ t.fg.state = .inactive ∧ s.channelFailed chEta = false ∧
            (s.settings.comfort : Int) < eta ∧ s.channelFailed chOda = false ∧ 120 < oda ∧ oda < eta - 20) →
          (closes = true ↔ s.season.mode = .winter ∨ t.fg.state ≠ .inactive ∨ s.channelFailed chEta = true ∨
            s.channelFailed chOda = true ∨ eta ≤ (s.settings.comfort : Int) - 10 ∨ eta - 10 ≤ oda ∨ oda ≤ 110) →
          (opens = true → t.fg.wantedOpen = true) ∧ (closes = true → t.fg.wantedOpen = false) ∧
          (opens = false → closes = false → t.fg.wantedOpen = s.fg.wantedOpen)) ∧
        (t.fg.wantedOpen = true →
          (d.state = .closed ∨ d.state = .closing →
            (d.openMade = false →
              t.damper =
                { d with
                  state := .opening
                  allowance := some (travel - d.position)
                  elapsed := some 0
                  drive := .opening }) ∧
            (d.openMade = true →
              t.damper =
                { d with
                  state := .opened
                  position := travel
                  allowance := none
                  elapsed := none
                  drive := .off })) ∧
          (d.state ≠ .closed → d.state ≠ .closing → t.damper = d)) ∧
        (t.fg.wantedOpen = false →
          (d.state = .opened ∨ d.state = .opening →
            (d.closedMade = false →
              t.damper =
                { d with
                  state := .closing
                  allowance := some d.position
                  elapsed := some 0
                  drive := .closing }) ∧
            (d.closedMade = true →
              t.damper =
                { d with
                  state := .closed
                  position := 0
                  allowance := none
                  elapsed := none
                  drive := .off })) ∧
          (d.state ≠ .opened → d.state ≠ .opening → t.damper = d)) ∧
        (t.fg.state ≠ .inactive → t.fg.wantedOpen = false ∧ t.damper.state ≠ .opened ∧ t.damper.state ≠ .opening))

/-! ## The humidity manager -/

/-- An acting evaluation's dew point, rise window and humid boost (R99 to R104): Td from T_ETA and RH_ETA; the window
takes RH_ETA or empties; outside a boost one starts on a HUMID station, at high_limit, or at a rise of rise_threshold
above some value of the window, with the posting, the flag and the start minimum; a boost ends after 600 s when no
station is HUMID and the air has recovered, and its BOOST leaves the slot. Before the measurements are ready nothing moves. -/
def Obligations.HumidBoostStartsAndEnds : Prop :=
  (∀ s : State, s.mc.ready = false → exec .humidityEvaluation s = .next s) ∧
  (∀ (s : State) (rh : Int) (rise : List Int) (humid : Bool), s.Acts → rh = s.filtered chRh →
    rise = (if s.channelFailed chRh then [] else pushWindow 30 rh s.hm.rise) →
    (humid = true ↔ ∃ n : Fin 4, s.hm.stations[n].humid = true) →
    ∃ t, exec .humidityEvaluation s = .next t ∧ t = { s with hm := t.hm, da := t.da, eu := t.eu } ∧
      t.hm.stations = s.hm.stations ∧ t.hm.rise = rise ∧
      (s.channelFailed chEta = true ∨ s.channelFailed chRh = true → t.hm.dewPoint = s.hm.dewPoint) ∧
      (s.channelFailed chEta = false → s.channelFailed chRh = false →
        t.hm.dewPoint = some (s.filtered chEta - (1000 - rh).tdiv 5)) ∧
      (s.hm.view ≠ .boost →
        (humid = true ∨ (s.channelFailed chRh = false ∧
            ((s.settings.highLimit : Int) ≤ rh ∨ ∃ x ∈ rise, (s.settings.riseThreshold : Int) ≤ rh - x)) →
          t.hm.view = .boost ∧ t.hm.boostElapsed = some 0 ∧ t.eu = s.eu.raise .humidBoost ∧
          t.da.table =
            { s.da.table with
              humidity := some
                { source := .humidity
                  kind := .boost
                  flow := s.settings.levels[3]
                  remaining := none
                  seq := s.da.table.seq + 1 }
              seq := s.da.table.seq + 1 } ∧
          (s.channelFailed chRh = true → t.hm.startMinimum = none) ∧
          (s.channelFailed chRh = false →
            ∃ m ∈ rise, t.hm.startMinimum = some m ∧ ∀ x ∈ rise, m ≤ x)) ∧
        (humid = false → (s.channelFailed chRh = true ∨ (rh < (s.settings.highLimit : Int) ∧
            ∀ x ∈ rise, rh - x < (s.settings.riseThreshold : Int))) →
          t.hm.view ≠ .boost)) ∧
      (s.hm.view = .boost → ∀ (elapsed : Nat) (start : Option Int), s.hm.boostElapsed = some elapsed →
        start = (match s.hm.startMinimum with
          | some m => some m
          | none => if s.channelFailed chRh then none else windowMinimum rise) →
        (elapsed < 590 ∨ humid = true ∨ (s.channelFailed chRh = false ∧
            ((s.settings.highLimit : Int) - 50 ≤ rh ∨ start = none ∨
              ∃ m, start = some m ∧ m + (s.settings.riseThreshold / 2 : Nat) ≤ rh)) →
          t.hm.view = .boost ∧ t.hm.boostElapsed = some (min 600 (elapsed + 10)) ∧ t.hm.startMinimum = start ∧
          t.da = s.da ∧ t.eu = s.eu) ∧
        (590 ≤ elapsed → humid = false → (s.channelFailed chRh = true ∨ (rh < (s.settings.highLimit : Int) - 50 ∧
            ∃ m, start = some m ∧ rh < m + (s.settings.riseThreshold / 2 : Nat))) →
          t.hm.view ≠ .boost ∧ t.hm.boostElapsed = none ∧ t.hm.startMinimum = none ∧
          t.eu.isSet .humidBoost = true ∧
          (SlotNames s.hm.view s.da.table.humidity → ∀ e, t.da.table.humidity = some e → e.kind = .away))))

/-- Dry protection (R106 to R108) at an acting evaluation that leaves no boost posted: the dry count goes up below
low_limit in winter and is 0 otherwise; at 30 with nothing posted an AWAY at level 0 is posted with its flag; a failed
RH_ETA, summer, or low_limit and 50 withdraws it without one. An evaluation that ends a boost goes on with the slot
empty, and may post the AWAY at once. -/
def Obligations.DryProtectionPostsAndWithdraws : Prop :=
  ∀ (s : State) (rh : Int) (count : Nat), s.Acts → rh = s.filtered chRh →
    count = (if s.channelFailed chRh = true ∨ s.season.mode = .summer then 0
      else if rh < (s.settings.lowLimit : Int) then min 30 (s.hm.dryCount + 1) else 0) →
    ∃ t, exec .humidityEvaluation s = .next t ∧
      (t.hm.view = .boost → t.hm.dryCount = count) ∧
      (s.hm.view = .none → t.hm.view ≠ .boost →
        t.hm.dryCount = count ∧
        (count = 30 →
          t.hm.view = .away ∧ t.eu = s.eu.raise .dryProtect ∧
          t.da.table =
            { s.da.table with
              humidity := some
                { source := .humidity
                  kind := .away
                  flow := s.settings.levels[0]
                  remaining := none
                  seq := s.da.table.seq + 1 }
              seq := s.da.table.seq + 1 }) ∧
        (count < 30 → t.hm.view = .none ∧ t.da = s.da ∧ t.eu = s.eu)) ∧
      (s.hm.view = .boost → t.hm.view ≠ .boost →
        t.hm.dryCount = count ∧ t.hm.boostElapsed = none ∧ t.hm.startMinimum = none ∧
        (count = 30 →
          t.hm.view = .away ∧ t.eu = (s.eu.raise .humidBoost).raise .dryProtect ∧
          t.da.table =
            { s.da.table with
              humidity := some
                { source := .humidity
                  kind := .away
                  flow := s.settings.levels[0]
                  remaining := none
                  seq := s.da.table.seq + 1 }
              seq := s.da.table.seq + 1 }) ∧
        (count < 30 →
          t.hm.view = .none ∧ t.eu = s.eu.raise .humidBoost ∧
          (SlotNames s.hm.view s.da.table.humidity → t.da.table = { s.da.table with humidity := none }))) ∧
      (s.hm.view = .away → t.hm.view ≠ .boost →
        t.eu = s.eu ∧
        (s.channelFailed chRh = true ∨ s.season.mode = .summer ∨ (s.settings.lowLimit : Int) + 50 ≤ rh →
          t.hm.view = .none ∧ t.hm.dryCount = 0 ∧
          (SlotNames s.hm.view s.da.table.humidity → t.da.table = { s.da.table with humidity := none })) ∧
        (s.channelFailed chRh = false → s.season.mode = .winter → rh < (s.settings.lowLimit : Int) + 50 →
          t.hm.view = .away ∧ t.hm.dryCount = count ∧ t.da = s.da))


/-! ## The filter monitor -/

/-- An accumulation (R114, R115): each side's applied flow is added to its filter's accumulator, which carries one
kilo-m³ at 3 600 000; running time counts while the flow is above 0; the steady count grows while the flow stands at one
value and starts again at another. Nothing else moves. -/
def Obligations.AccumulationCountsVolumeAndTime : Prop :=
  ∀ s : State, s.phase = .running →
    ∃ t, exec .filterAccumulation s = .next t ∧ t = { s with fm := t.fm } ∧
      ∀ (side : Side) (f g : FilterRecord) (qr : Nat), f = s.fm.filter side → g = t.fm.filter side →
        qr = (s.ae.fan side).qr →
        g = { f with
          accumulator := g.accumulator
          volume := g.volume
          runSeconds := g.runSeconds
          runHours := g.runHours
          steadyFlow := qr
          steadyCount := g.steadyCount } ∧
        (f.accumulator + qr < 3600000 → g.accumulator = f.accumulator + qr ∧ g.volume = f.volume) ∧
        (3600000 ≤ f.accumulator + qr →
          g.accumulator = f.accumulator + qr - 3600000 ∧ g.volume = min 65535 (f.volume + 1)) ∧
        (qr = 0 → g.runSeconds = f.runSeconds ∧ g.runHours = f.runHours) ∧
        (0 < qr → f.runSeconds + 1 ≠ 3600 → g.runSeconds = f.runSeconds + 1 ∧ g.runHours = f.runHours) ∧
        (0 < qr → f.runSeconds + 1 = 3600 → g.runSeconds = 0 ∧ g.runHours = min 65535 (f.runHours + 1)) ∧
        (qr = f.steadyFlow → g.steadyCount = min 60 (f.steadyCount + 1)) ∧
        (qr ≠ f.steadyFlow → g.steadyCount = 0)

/-- The hourly assessment (R116 to R122): an invalid one names the first reason and applies the limit test alone; a
valid one computes dp_norm and applies the rule of the filter's state, learning, grading by marks, or finding a filter
absent or fitted again. Each change of state is reported and raises the side's flag, with FILTER_ABSENT at an entry to
ABSENT; then a filter save falls due (R128). -/
def Obligations.AssessmentJudgesBothFilters : Prop :=
  ∀ s : State, s.phase = .running →
    ∃ t, exec .filterAssessment s = .next t ∧
      t = { s with
        fm := t.fm
        da := t.da
        eu := t.eu
        ss := { s.ss with saving := t.ss.saving, saveWaiting := t.ss.saveWaiting } } ∧
      t.da.table = s.da.table ∧
      ((∃ side, (t.fm.filter side).state ≠ (s.fm.filter side).state) → t.da.plan = t.planNow) ∧
      ((∀ side, (t.fm.filter side).state = (s.fm.filter side).state) → t.da = s.da ∧ t.eu = s.eu) ∧
      (s.ss.store = .idle → s.ss.saving = none → t.ss.saving.isSome = true ∧ t.ss.saveWaiting = false) ∧
      (s.ss.store ≠ .idle ∨ s.ss.saving.isSome = true → t.ss.saving = s.ss.saving ∧ t.ss.saveWaiting = true) ∧
      (t.eu.isSet .filterAbsent = true ↔ s.eu.isSet .filterAbsent = true ∨
        ∃ side, (t.fm.filter side).state = .absent ∧ (s.fm.filter side).state ≠ .absent) ∧
      ∀ (side : Side) (f g : FilterRecord) (p : Channel) (norm dp : Nat) (limit valid : Bool),
        f = s.fm.filter side → g = t.fm.filter side →
        p = s.channel (match side with
          | .supply => 5
          | .extract => 6) →
        norm = p.filtered.toNat * s.settings.qref * s.settings.qref / (f.steadyFlow * f.steadyFlow) →
        dp = f.dpClean.getD 0 →
        (limit = true ↔ s.settings.volumeLimit ≤ f.volume ∨ s.settings.hoursLimit ≤ f.runHours) →
        (valid = true ↔ s.mc.ready = true ∧ f.state ≠ .changing ∧ s.settings.assessMinFlow ≤ f.steadyFlow ∧
          f.steadyCount = 60 ∧ p.state = .valid) →
        g = { f with
          state := g.state
          dpClean := g.dpClean
          loadedMarks := g.loadedMarks
          blockedMarks := g.blockedMarks
          lastAssessment := g.lastAssessment
          lastDpNorm := g.lastDpNorm } ∧
        (t.eu.isSet (filterFlag side) = true ↔ s.eu.isSet (filterFlag side) = true ∨ g.state ≠ f.state) ∧
        (valid = false →
          g.dpClean = f.dpClean ∧ g.loadedMarks = f.loadedMarks ∧ g.blockedMarks = f.blockedMarks ∧
          g.lastDpNorm = f.lastDpNorm ∧
          g.state = (if limit = true ∧ (f.state = .clean ∨ f.state = .loading) then .loaded else f.state) ∧
          g.lastAssessment =
            (if s.mc.ready = false then .notReady
            else if f.state = .changing then .changing
            else if f.steadyFlow < s.settings.assessMinFlow then .lowFlow
            else if f.steadyCount ≠ 60 then .unsteady
            else .channel)) ∧
        (valid = true →
          g.lastAssessment = .assessed ∧ g.lastDpNorm = some norm ∧
          (f.state ≠ .absent → norm < s.settings.absentThreshold → g.state = .absent ∧ g.dpClean = none) ∧
          (f.state = .learning → s.settings.absentThreshold ≤ norm →
            g.dpClean = some (min 500 norm) ∧ g.loadedMarks = 0 ∧ g.blockedMarks = 0 ∧
            g.state = (if limit = true then .loaded else .clean)) ∧
          (f.state = .absent → norm < s.settings.absentThreshold →
            g.state = .absent ∧ g.toFilterCore = f.toFilterCore) ∧
          (f.state = .absent → s.settings.absentThreshold ≤ norm →
            g.state = .learning ∧ g.dpClean = none ∧ g.loadedMarks = 0 ∧ g.blockedMarks = 0) ∧
          (f.state ≠ .absent → f.state ≠ .learning → norm < s.settings.absentThreshold →
            g.loadedMarks = 0 ∧ g.blockedMarks = 0) ∧
          (f.state ≠ .absent → f.state ≠ .learning → s.settings.absentThreshold ≤ norm →
            g.dpClean = f.dpClean ∧
            (dp * s.settings.blockedPct / 100 ≤ norm →
              g.loadedMarks = min 3 (f.loadedMarks + 1) ∧ g.blockedMarks = min 3 (f.blockedMarks + 1)) ∧
            (norm < dp * s.settings.blockedPct / 100 → dp * s.settings.loadedPct / 100 ≤ norm →
              g.loadedMarks = min 3 (f.loadedMarks + 1) ∧ g.blockedMarks = 0) ∧
            (norm < dp * s.settings.blockedPct / 100 → norm < dp * s.settings.loadedPct / 100 →
              g.loadedMarks = 0 ∧ g.blockedMarks = 0) ∧
            g.state =
              (if f.state = .blocked ∨ g.blockedMarks = 3 then .blocked
              else if f.state = .loaded ∨ g.loadedMarks = 3 ∨ limit = true then .loaded
              else if f.state = .loading ∨ dp * (100 + s.settings.loadedPct) / 200 ≤ norm then .loading
              else .clean)))

/-- The change protocol (R122 to R125). A begin saves the state and makes the source owner for 900 s; the owner's begin
renews; another's is OWNED. The owner's done clears the counts, counts one change and makes a save due; the owner's
abandon, or the end of the deadline, returns the saved state, the deadline with CHANGE_ABANDONED. A renewal and an
expiry that come together leave the filter CHANGING under its owner with 900 s to run in either order (R125). A filter
that is not CHANGING, or an id that is absent or names none, is NOT_APPLICABLE. A record of another state handed on is
reported and raises the side's flag. That an expiry does nothing at a filter that is not CHANGING is the model's
reading, log entry 6, and at one with more than its last second to run, log entry 32; which sources can ask, an UNKNOWN
slot's among them, is its choice, log entry 10. -/
def Obligations.ChangeProtocol : Prop :=
  ∀ (s : State) (src : Master) (side : Side) (id : Byte) (f : FilterRecord),
    f = s.fm.filter side →
    id = (match side with
      | .supply => 0
      | .extract => 1) →
    (∀ g : FilterRecord, g.state ≠ f.state →
      s.handOn side g =
        ({ s with
          fm := s.fm.withFilter side g
          da := (s.setFm (s.fm.withFilter side g)).recomputeCeiling.da } : State).raise (filterFlag side) ∧
      (s.handOn side g).da.table = s.da.table ∧ (s.handOn side g).da.plan = (s.handOn side g).planNow) ∧
    (s.CanAsk src .filterBegin →
      (f.state ≠ .changing →
        exec (.filterBegin src (some id)) s =
          .next ((s.handOn side
            { f with
              state := .changing
              saved := some f.state
              owner := some src
              deadline := some 900 }).deliver src
            { outcome := .done, kindCode := RequestKind.filterBegin.code })) ∧
      (f.state = .changing → f.owner = some src →
        exec (.filterBegin src (some id)) s =
          .next ((s.setFm (s.fm.withFilter side { f with deadline := some 900 })).deliver src
            { outcome := .done, kindCode := RequestKind.filterBegin.code })) ∧
      (f.state = .changing → f.owner ≠ some src →
        exec (.filterBegin src (some id)) s =
          .next ((s.count .requestsRefused).deliver src
            { outcome := .owned, kindCode := RequestKind.filterBegin.code }))) ∧
    (s.CanAsk src .filterDone →
      (f.state = .changing → f.owner = some src →
        exec (.filterDone src (some id)) s =
          .next ((((s.handOn side
            { f with
              state := .learning
              saved := none
              dpClean := none
              volume := 0
              accumulator := 0
              runSeconds := 0
              runHours := 0
              loadedMarks := 0
              blockedMarks := 0
              owner := none
              deadline := none }).count .filterChanges).saveDue).deliver src
            { outcome := .done, kindCode := RequestKind.filterDone.code })) ∧
      (f.state = .changing → f.owner ≠ some src →
        exec (.filterDone src (some id)) s =
          .next ((s.count .requestsRefused).deliver src
            { outcome := .owned, kindCode := RequestKind.filterDone.code })) ∧
      (f.state ≠ .changing →
        exec (.filterDone src (some id)) s =
          .next ((s.count .requestsRefused).deliver src
            { outcome := .notApplicable, kindCode := RequestKind.filterDone.code }))) ∧
    (∀ back : FilterState, f.saved = some back →
      (s.CanAsk src .filterAbandon → f.state = .changing → f.owner = some src →
        exec (.filterAbandon src (some id)) s =
          .next ((s.handOn side
            { f with
              state := back
              saved := none
              owner := none
              deadline := none }).deliver src
            { outcome := .done, kindCode := RequestKind.filterAbandon.code })) ∧
      (s.phase ≠ .held → f.state = .changing → f.deadline = some 1 →
        exec (.changeDeadlineExpiry side) s =
          .next ((s.handOn side
            { f with
              state := back
              saved := none
              owner := none
              deadline := none }).raise .changeAbandoned))) ∧
    (s.CanAsk src .filterAbandon →
      (f.state = .changing → f.owner ≠ some src →
        exec (.filterAbandon src (some id)) s =
          .next ((s.count .requestsRefused).deliver src
            { outcome := .owned, kindCode := RequestKind.filterAbandon.code })) ∧
      (f.state ≠ .changing →
        exec (.filterAbandon src (some id)) s =
          .next ((s.count .requestsRefused).deliver src
            { outcome := .notApplicable, kindCode := RequestKind.filterAbandon.code }))) ∧
    (f.state ≠ .changing ∨ (∃ n, f.deadline = some n ∧ 2 ≤ n) → exec (.changeDeadlineExpiry side) s = .next s) ∧
    (s.CanAsk src .filterBegin → f.state = .changing → f.owner = some src →
      ∃ t, exec (.filterBegin src (some id)) s = .next t ∧ exec (.changeDeadlineExpiry side) t = .next t ∧
        t.fm.filter side = { f with deadline := some 900 } ∧
        ∀ back, f.deadline = some 1 → f.saved = some back → back ≠ .changing →
          ∃ u v, exec (.changeDeadlineExpiry side) s = .next u ∧ exec (.filterBegin src (some id)) u = .next v ∧
            v.fm.filter side = { f with deadline := some 900 }) ∧
    ∀ other : Option Byte, (∀ b, other = some b → 2 ≤ b.toNat) →
      (s.CanAsk src .filterBegin →
        exec (.filterBegin src other) s =
          .next ((s.count .requestsRefused).deliver src
            { outcome := .notApplicable, kindCode := RequestKind.filterBegin.code })) ∧
      (s.CanAsk src .filterDone →
        exec (.filterDone src other) s =
          .next ((s.count .requestsRefused).deliver src
            { outcome := .notApplicable, kindCode := RequestKind.filterDone.code })) ∧
      (s.CanAsk src .filterAbandon →
        exec (.filterAbandon src other) s =
          .next ((s.count .requestsRefused).deliver src
            { outcome := .notApplicable, kindCode := RequestKind.filterAbandon.code }))

/-! ## The season -/

/-- The season (R141, R143, R144): SET_SEASON sets the mode only while no heating station is observed; the season timer
ages the call while one is, and the age that reaches 172800 s ends WINTER. Which sources can ask, an UNKNOWN slot's
among them, is the model's choice, log entry 10. -/
def Obligations.SeasonFollowsTheMasterOrTheTimer : Prop :=
  (∀ (s : State) (src : Master), s.CanAsk src .setSeason →
    (∀ m : SeasonMode,
      (s.season.observing = false → s.season.mode = m →
        exec (.setSeason src (some (if m = .summer then 1 else 0))) s =
          .next (s.deliver src { outcome := .doneNothing, kindCode := RequestKind.setSeason.code })) ∧
      (s.season.observing = false → s.season.mode ≠ m →
        exec (.setSeason src (some (if m = .summer then 1 else 0))) s =
          .next (((s.setSeason { s.season with mode := m, lastSetBy := .master src }).raise .seasonChanged).deliver src
            { outcome := .done, kindCode := RequestKind.setSeason.code }))) ∧
    (∀ code : Option Byte, s.season.observing = true ∨ (∀ b, code = some b → 2 ≤ b.toNat) →
      exec (.setSeason src code) s =
        .next ((s.count .requestsRefused).deliver src
          { outcome := .notApplicable, kindCode := RequestKind.setSeason.code }))) ∧
  ∀ s : State, s.phase ≠ .held →
    (s.season.observing = false → exec .seasonTimer s = .next s) ∧
    (s.season.observing = true →
      (s.season.heatCallAge + 1 < 172800 ∨ 172800 ≤ s.season.heatCallAge ∨ s.season.mode = .summer →
        exec .seasonTimer s =
          .next (s.setSeason { s.season with heatCallAge := min 172800 (s.season.heatCallAge + 1) })) ∧
      (s.season.heatCallAge + 1 = 172800 → s.season.mode = .winter →
        exec .seasonTimer s =
          .next ((s.setSeason
            { s.season with
              mode := .summer
              heatCallAge := 172800
              lastSetBy := .noCall }).raise .seasonChanged)))

/-! ## The room link -/

/-- Rounds and calls (R148, R150, R156, R157): a round starts when no address of the last is left due, with the counter
up by one and the listed addresses in ascending order; the next address that is due is called, with the digest as it
stands and the slot's last outcome in a frame with its CRC; when the CALL is sent that outcome is gone and the reply
window opens. The bytes of the digest are those of 12.1, with the codes of 12.3. Which address is next when the list
changes within a round is the model's reading, log entry 18, and that a poll event out of its order does nothing, log
entry 6. -/
def Obligations.PollRoundsCallTheDueAddresses : Prop :=
  (∀ s : State, s.phase = .running →
    (∀ i : Fin 15, s.due i = true ↔ s.settings.pollList.getLsbD (i.val + 1) = true ∧
      ((s.slot i).state = .unknown ∨ (s.slot i).state = .present ∨
        ((s.slot i).state = .missing ∧ s.rl.roundCounter % 8 = 0) ∨
        ((s.slot i).state = .lost ∧ s.rl.roundCounter = 0))) ∧
    (s.rl.feed = true → s.rl.stage = .idle →
      ((∀ i ∈ s.rl.round, s.due i = false) →
        exec .pollStart s = .next s ∧
        ∃ round : List (Fin 15), round.Pairwise (· < ·) ∧
          (∀ i : Fin 15, i ∈ round ↔ s.settings.pollList.getLsbD (i.val + 1) = true) ∧
          exec .pollRoundStart s =
            .next (s.setRl { s.rl with
              roundCounter := (s.rl.roundCounter + 1) % 32
              round := round })) ∧
      (∀ before i after, s.rl.round = before ++ i :: after → (∀ x ∈ before, s.due x = false) → s.due i = true →
        exec .pollRoundStart s = .next s ∧
        ∀ covered : List Byte,
          covered = [byteOf (16 * (i.val + 1)), 0xC1, 12] ++ s.digestCommon ++ answerBytes (s.slot i).lastOutcome →
          exec .pollStart s =
            .next (s.setRl { s.rl with
              round := after
              stage := .calling i
              digest := s.digestCommon
              callFrame := [0xA9] ++ covered ++ [crc8 covered] }))) ∧
    (∀ i : Fin 15, s.rl.stage = .calling i →
      exec .callSent s =
        .next (s.setRl { s.rl with
          stage := .window i
          slots := s.rl.slots.set i.val { s.slot i with lastOutcome := none } })) ∧
    (s.rl.feed = false ∨ s.rl.stage ≠ .idle → exec .pollRoundStart s = .next s ∧ exec .pollStart s = .next s) ∧
    ((∀ i, s.rl.stage ≠ .calling i) → exec .callSent s = .next s)) ∧
  (∀ s : State, s.digestCommon =
    little s.da.plan.target ++ little s.ae.supply.qr ++ little s.ae.extract.qr ++
    [ BitVec.ofNat 8 (reasonCodes.idxOf s.da.plan.reason + 16 * frostCodes.idxOf s.fg.state +
        (if s.season.mode = .summer then 128 else 0)),
      BitVec.ofNat 8 (filterCodes.idxOf s.fm.supply.state + 16 * filterCodes.idxOf s.fm.extract.state),
      bitRow
        [s.ae.supply.state == .lockedOut, s.ae.supply.state == .stalled, s.ae.supply.flowLimited,
         s.ae.extract.state == .lockedOut, s.ae.extract.state == .stalled, s.ae.extract.flowLimited,
         s.damper.state == .fault],
      bitRow ((List.finRange 8).map fun n => (s.channel n).state == .failed) ]) ∧
  answerBytes none = [0, 0] ∧
  (∀ a : Answer, answerBytes (some a) = [BitVec.ofNat 8 (outcomeCodes.idxOf a.outcome + 1), a.kindCode])

/-- A miss (R151, R159 to R162): an UNKNOWN slot is lost at five misses in five polls; a PRESENT one goes MISSING at
three in its window; a MISSING one starts its good run again; a LOST one is left. A reply that is broken, malformed or
from another address is the same miss with one frame error. The slot timer loses a slot missing for 300 s. A LOST slot
is empty and its source holds nothing. An address that has left the poll list during its own poll is lost at the poll's
end, log entry 17. That PRESENT or MISSING is judged at the poll's end is log entry 30, that an end with no window open
does nothing is log entry 6: each the model's reading. -/
def Obligations.SilentPartnersGoMissingAndAreLost : Prop :=
  (∀ (s : State) (i : Fin 15) (x : Slot) (window : List Bool), s.Listening i → s.ChangesCoherent →
    s.rl.lossDue = false → x = s.slot i →
    window = pushWindow 5 true x.window →
    ∃ t, exec .replyWindowEnd s = .next t ∧ t.rl.stage = .idle ∧ t.rl.lossDue = false ∧
      (∀ j : Fin 15, j ≠ i → t.slot j = s.slot j) ∧
      (x.state = .unknown → window ≠ [true, true, true, true, true] →
        t.slot i = { x with window := window } ∧ t.eu = s.eu) ∧
      (x.state = .unknown → window = [true, true, true, true, true] →
        t.slot i = Slot.lost ∧ t.eu.isSet .stationLost = s.eu.isSet .stationLost ∧
        ∀ m, slotMaster i = some m → t.HoldsNothing m) ∧
      (x.state = .present → t.eu = s.eu.count s.settings.counterSnapshot .linkMisses ∧
        (marks window < 3 → t.slot i = { x with window := window }) ∧
        (3 ≤ marks window →
          t.slot i =
            { x with
              state := .missing
              window := window
              goodRun := 0
              timeMissing := some 0 })) ∧
      (x.state = .missing →
        t.eu = s.eu.count s.settings.counterSnapshot .linkMisses ∧
        t.slot i = { x with window := window, goodRun := 0 }) ∧
      (x.state = .lost → t.slot i = x ∧ t.eu = s.eu)) ∧
  (∀ (s : State) (i : Fin 15), s.Listening i → s.ChangesCoherent → s.rl.lossDue = true →
    ∃ t, exec .replyWindowEnd s = .next t ∧ t.rl.stage = .idle ∧ t.rl.lossDue = false ∧
      (∀ j : Fin 15, j ≠ i → t.slot j = s.slot j) ∧
      ((s.slot i).state = .lost → t.slot i = s.slot i) ∧
      ((s.slot i).state ≠ .lost → t.slot i = Slot.lost ∧ ∀ m, slotMaster i = some m → t.HoldsNothing m) ∧
      ((s.slot i).state = .present ∨ (s.slot i).state = .missing → t.eu.isSet .stationLost = true)) ∧
  (∀ (s : State) (i : Fin 15), s.Listening i →
    ∃ t, exec .badReplyEnd s = .next t ∧ exec .replyWindowEnd (s.count .linkFrameErrors) = .next t ∧
      ∀ (address : Byte) (payload : List Byte) (temperature humidity : Word16) (b : Byte),
        (address.toNat % 16 ≠ i.val + 1 →
          exec (.idleReply address) s = .next t ∧ exec (.askReply address payload) s = .next t ∧
          exec (.tellReply address temperature humidity b) s = .next t ∧ exec (.heatReply address b) s = .next t) ∧
        (payload.length = 0 ∨ 12 < payload.length → exec (.askReply address payload) s = .next t)) ∧
  (∀ s : State, (∀ i, s.rl.stage ≠ .window i) → exec .replyWindowEnd s = .next s ∧ exec .badReplyEnd s = .next s) ∧
  (∀ s : State, s.phase ≠ .held → s.ChangesCoherent →
    ∃ t, exec .slotTimer s = .next t ∧
      ∀ (i : Fin 15) (x : Slot), x = s.slot i →
        (x.state ≠ .missing → t.slot i = x) ∧
        (∀ n, x.state = .missing → x.timeMissing = some n →
          (n + 1 < 300 → t.slot i = { x with timeMissing := some (n + 1) }) ∧
          (300 ≤ n + 1 →
            t.slot i = Slot.lost ∧ t.eu.isSet .stationLost = true ∧
            ∀ m, slotMaster i = some m → t.HoldsNothing m)))

/-- A good reply (R152, R154, R155, R159, R160, R163). Its slot is taken first: UNKNOWN and LOST become PRESENT, LOST
with STATION_FOUND; a PRESENT window takes a good mark; a MISSING slot is PRESENT at its second good reply in a row.
Then the content: an IDLE has none; a TELL from addresses 1 to 4 is stored and its humidity reported; a HEAT from
heat_address is a heat call, and ON ends SUMMER while observed. An address that has left the poll list during its own
poll takes the reply in the same way and is then lost (R149), at the poll's end by the model's reading, log entry 17. -/
def Obligations.GoodRepliesTakePresenceThenContent : Prop :=
  (∀ (s : State) (i : Fin 15) (x : Slot) (address : Byte), s.Listening i → s.rl.lossDue = false → x = s.slot i →
    address.toNat % 16 = i.val + 1 →
    ∃ u, exec (.idleReply address) s = .next u ∧ u.rl.stage = .idle ∧
      u = { s with rl := u.rl, eu := u.eu, season := u.season } ∧
      (∀ j : Fin 15, j ≠ i → u.slot j = s.slot j) ∧
      (x.state ≠ .lost → u.eu = s.eu ∧ u.season = s.season) ∧
      (x.state = .unknown ∨ x.state = .lost ∨ (x.state = .missing ∧ 1 ≤ x.goodRun) →
        u.slot i =
          { x with
            state := .present
            window := []
            goodRun := 0
            timeMissing := none }) ∧
      (x.state = .lost → u.eu = s.eu.raise .stationFound ∧
        (i.val + 1 ≠ s.settings.heatAddress → u.season = s.season) ∧
        (i.val + 1 = s.settings.heatAddress →
          u.season.observing = s.settings.seasonObserve ∧ u.season.mode = s.season.mode ∧
          (s.settings.seasonObserve = true → s.season.observing = false → u.season.heatCallAge = 0))) ∧
      (x.state = .missing → x.goodRun = 0 →
        u.slot i = { x with window := pushWindow 5 false x.window, goodRun := 1 }) ∧
      (x.state = .present → marks (pushWindow 5 false x.window) < 3 →
        u.slot i = { x with window := pushWindow 5 false x.window }) ∧
      (∀ (temperature humidity : Word16) (flags : Byte),
        (4 ≤ i.val → exec (.tellReply address temperature humidity flags) s = .next u) ∧
        (∀ (n : Fin 4) (a : Acceptance) (reports : List Nat), n.val = i.val → a = s.hm.stations[n] →
          reports = (if 1000 < humidity.toNat then a.reports else pushWindow 4 humidity.toNat a.reports) →
          ∃ t, exec (.tellReply address temperature humidity flags) s = .next t ∧
            t = { u with rl := t.rl, hm := { s.hm with stations := t.hm.stations } } ∧
            t.rl = { u.rl with slots := t.rl.slots } ∧ (∀ j : Fin 15, j ≠ i → t.slot j = s.slot j) ∧
            t.slot i =
              { u.slot i with
                tell := some
                  { temperature := if flags.getLsbD 0 = true then none else some temperature
                    humidity := humidity
                    flags := flags } } ∧
            (∀ m : Fin 4, m ≠ n → t.hm.stations[m] = s.hm.stations[m]) ∧ t.hm.stations[n].reports = reports ∧
            (1000 < humidity.toNat → t.hm.stations[n].humid = a.humid) ∧
            (humidity.toNat ≤ 1000 →
              (t.hm.stations[n].humid = true ↔
                3 ≤ reports.countP (fun v => decide (s.settings.highLimit ≤ v)) ∨
                (a.humid = true ∧
                  reports.countP (fun v => decide ((v : Int) < (s.settings.highLimit : Int) - 50)) < 3))))) ∧
      ∀ call : Byte,
        (i.val + 1 ≠ s.settings.heatAddress ∨ call ≠ 0x01 ∨ u.season.observing = false →
          exec (.heatReply address call) s = .next u) ∧
        (i.val + 1 = s.settings.heatAddress → u.season.observing = true →
          (u.season.mode = .winter →
            exec (.heatReply address 0x01) s = .next (u.setSeason { u.season with heatCallAge := 0 })) ∧
          (u.season.mode = .summer →
            exec (.heatReply address 0x01) s =
              .next ((u.setSeason
                { u.season with
                  mode := .winter
                  heatCallAge := 0
                  lastSetBy := .heatCall }).raise .seasonChanged)))) ∧
  (∀ (s : State) (i : Fin 15) (address call flags : Byte) (temperature humidity : Word16) (reply : Instr),
    s.Listening i → s.ChangesCoherent → s.rl.lossDue = true → address.toNat % 16 = i.val + 1 →
    reply ∈ [.idleReply address, .tellReply address temperature humidity flags, .heatReply address call] →
    ∃ u t, exec reply (s.setRl { s.rl with lossDue := false }) = .next u ∧ exec reply s = .next t ∧
      t.rl.stage = .idle ∧ t.rl.lossDue = false ∧ t.slot i = Slot.lost ∧ t.eu.isSet .stationLost = true ∧
      (∀ m, slotMaster i = some m → t.HoldsNothing m) ∧ (∀ j : Fin 15, j ≠ i → t.slot j = u.slot j) ∧
      (∀ n : Fin 4, n.val ≠ i.val → t.hm.stations[n] = u.hm.stations[n]) ∧
      (∀ n : Fin 4, n.val = i.val → t.hm.stations[n] = { reports := [], humid := false }))

/-- An ASK (R131, R152, R153, R193): from addresses 1 to 4 and 15 it is a request of that address's master, taken after
the slot and answered into it; from the others it is an IDLE. Its first byte is the kind; a demand kind with one byte
more is the short form, and otherwise the bytes are P0 and the parameters that P0 marks present and the payload holds
whole, at the places of 12.2 for each kind. The request block of the local port is read in the same way. An address that
leaves the poll list by its own request is lost at the poll's end by the model's reading, log entry 17. -/
def Obligations.AsksBecomeRequests : Prop :=
  (∀ (s : State) (i : Fin 15) (address : Byte) (payload : List Byte), s.Listening i →
    address.toNat % 16 = i.val + 1 → 1 ≤ payload.length → payload.length ≤ 12 →
    (4 ≤ i.val → i.val < 14 →
      ∃ t, exec (.askReply address payload) s = .next t ∧ exec (.idleReply address) s = .next t) ∧
    (∀ (m : Master) (u : State), (m = .tool ∧ i = 14 ∨ ∃ n, m = .station n ∧ i.val = n.val) →
      u = (s.slotGood i).submit (Request.ofAsk m payload) →
      (u.rl.lossDue = false →
        exec (.askReply address payload) s = .next (u.setRl { u.rl with stage := .idle, lossDue := false })) ∧
      (u.rl.lossDue = true →
        ∃ t, exec (.askReply address payload) s = .next t ∧ t.rl.stage = .idle ∧ (t.slot i).state = .lost))) ∧
  (∀ (m : Master) (kind : DemandKind) (b : Byte),
    Request.ofAsk m [kind.code, b] =
      { Request.bare kind.code m with
        demand :=
          { level := if b.toNat / 32 = 7 then none else some (BitVec.ofNat 8 (b.toNat / 32))
            flow := none
            duration := if b.toNat % 32 = 0 then none else some (BitVec.ofNat 16 (60 * (b.toNat % 32))) } }) ∧
  (∀ (m : Master) (kind : DemandKind) (p0 p1 p2 p3 p4 p5 : Byte) (rest : List Byte),
    Request.ofAsk m (kind.code :: p0 :: p1 :: p2 :: p3 :: p4 :: p5 :: rest) =
      { Request.bare kind.code m with
        demand :=
          { level := if p0.getLsbD 0 = true then some p1 else none
            flow := if p0.getLsbD 1 = true then some (p3 ++ p2) else none
            duration := if p0.getLsbD 2 = true then some (p5 ++ p4) else none } }) ∧
  (∀ (m : Master) (p0 p1 p2 p3 p4 : Byte) (rest : List Byte),
    Request.ofAsk m (RequestKind.writeSetting.code :: p0 :: p1 :: p2 :: p3 :: p4 :: rest) =
      { Request.bare RequestKind.writeSetting.code m with
        settingId := if p0.getLsbD 0 = true then some (p2 ++ p1) else none
        value := if p0.getLsbD 1 = true then some (p4 ++ p3) else none }) ∧
  (∀ (m : Master) (code : Byte) (params : List Byte),
    (params.length ≠ 1 ∨ (∀ kind : DemandKind, kind.code ≠ code) →
      Request.ofAsk m (code :: params) = Request.ofParams m code params) ∧
    ∀ (has : Nat → Bool) (one : Nat → Nat → Option Byte) (two : Nat → Nat → Option Word16) (r : Request),
      (∀ n, has n = true ↔ ∃ b, params[0]? = some b ∧ b.getLsbD n = true) →
      (∀ n p, one n p = if has n then params[p]? else none) →
      (∀ n p w, two n p = some w ↔
        has n = true ∧ ∃ lo hi, params[p]? = some lo ∧ params[p + 1]? = some hi ∧ w = hi ++ lo) →
      r = Request.bare code m →
      (∀ kind : DemandKind, code = kind.code →
        Request.ofParams m code params =
          { r with demand := { level := one 0 1, flow := two 1 2, duration := two 2 4 } }) ∧
      (code = 0x07 → Request.ofParams m code params = { r with namedKind := one 0 1 }) ∧
      (code ∈ [0x10, 0x11, 0x12] → Request.ofParams m code params = { r with filterId := one 0 1 }) ∧
      (code = 0x18 → Request.ofParams m code params = { r with season := one 0 1 }) ∧
      (code = 0x20 → Request.ofParams m code params = { r with target := one 0 1 }) ∧
      (code = 0x21 → Request.ofParams m code params = { r with channel := one 0 1, mode := one 1 2 }) ∧
      (code = 0x30 → Request.ofParams m code params = { r with settingId := two 0 1, value := two 1 3 }) ∧
      (code = 0x31 ∨ code = 0x32 ∨ (∀ k : RequestKind, k.code ≠ code) → Request.ofParams m code params = r)) ∧
  (∀ kind : DemandKind, kind.code = BitVec.ofNat 8 (demandCodes.idxOf kind + 1))

/-! ## The local port -/

/-- Addressing and the end of a transaction (R131, R165 to R167, R170, R174). The port answers while the part runs, not
stand-alone, with RESET released. Its address byte begins or goes on with a transaction; another's, or one that is not
answered, ends one. A write's first byte is the offset. The end takes a pending request, as UNIT, unless a running reset
was asked for. That another address byte itself ends a transaction is log entry 23, that RESET_RELEASE moves the pin
alone is log entry 21, and that an offset or an end out of place does nothing is log entry 6: each the model's reading.
That the part's own address is acknowledged also after a START to another target with no STOP between, log entry 36, and
that a running reset at the end of a transaction leaves the byte sent at 0 and the address byte as not acknowledged, log
entry 4, are the model's choice. -/
def Obligations.PortAddressingAndTheEndOfATransaction : Prop :=
  (∀ s : State, s.portAnswers = true ↔ s.phase = .running ∧ s.straps.c.val < 2 ∧ s.resetPin = false) ∧
  (∀ s : State, exec .resetRelease s = .next (s.setResetPin false)) ∧
  (∀ (s : State) (b : Byte), s.phase ≠ .held →
    (s.portAnswers = true →
      (b.toNat = 2 * (0x2C + s.straps.a.val) →
        exec (.addressByte b) s = .next (s.setLp { s.lp with stage := .awaitOffset, acked := true })) ∧
      (b.toNat = 2 * (0x2C + s.straps.a.val) + 1 →
        exec (.addressByte b) s = .next (s.setLp { s.lp with stage := .reading, acked := true }))) ∧
    (s.portAnswers = false ∨ b.toNat / 2 ≠ 0x2C + s.straps.a.val →
      (s.lp.stage = .idle → exec (.addressByte b) s = .next (s.setLp { s.lp with acked := false })) ∧
      (s.lp.stage ≠ .idle → s.phase = .running →
        ∃ t, exec .transactionEnd s = .next t ∧
          exec (.addressByte b) s = .next (t.setLp { t.lp with acked := false })))) ∧
  (∀ (s : State) (b : Byte), s.phase = .running →
    (s.lp.stage = .awaitOffset →
      exec (.offsetWrite b) s =
        .next (s.setLp { s.lp with stage := .writing, pointer := BitVec.ofNat 6 b.toNat })) ∧
    (s.lp.stage ≠ .awaitOffset → exec (.offsetWrite b) s = .next s)) ∧
  (∀ s : State, s.phase = .running →
    (s.lp.stage = .idle → exec .transactionEnd s = .next s) ∧
    (s.lp.stage ≠ .idle → s.lp.resetRequested = false → s.lp.pending = false →
      exec .transactionEnd s = .next (s.setLp { s.lp with stage := .idle })) ∧
    (∀ (r : Request) (u : State), s.lp.stage ≠ .idle → s.lp.resetRequested = false → s.lp.pending = true →
      r = Request.ofParams .unit s.lp.requestKind s.lp.params.toList → u = s.setLp { s.lp with stage := .idle } →
      ∃ t, exec .transactionEnd s = .next t ∧ t.lp.pending = false ∧
        t.lp.resultCount = s.lp.resultCount + 1 ∧
        t.lp.answer = some { outcome := (u.handle r).2, kindCode := s.lp.requestKind } ∧
        t = { (u.handle r).1 with lp := t.lp }) ∧
    (s.lp.stage ≠ .idle → s.lp.resetRequested = true →
      ∃ t, exec .transactionEnd s = .next t ∧ t.lp = LocalPort.initial))

/-- Writes (R167 to R170, R172, R174), at the offsets of 12.4. The request block stores; the page select and the table
select empty their copies; the pointer bytes are set at once; GO marks the request pending; 0xA5 alone asks for a
running reset; the read-only and unused offsets ignore the byte. The pointer advances, from 63 to 0, but not at table
data. A write command of another register does nothing. That last is the model's reading, log entry 6. -/
def Obligations.PortWritesReachTheirRegisters : Prop :=
  ∀ (s : State) (b : Byte) (p : Nat) (lp : LocalPort), s.phase = .running → s.lp.stage = .writing →
    p = s.lp.pointer.toNat → lp = { s.lp with pointer := s.lp.pointer + 1 } →
    (p = 0x1E → exec (.registerWrite b) s = .next (s.setLp { lp with requestKind := b })) ∧
    (∀ n : Fin 8, p = 0x1F + n.val →
      exec (.registerWrite b) s = .next (s.setLp { lp with params := s.lp.params.set n.val b })) ∧
    (p < 0x03 ∨ (0x04 ≤ p ∧ p < 0x19) ∨ (0x28 ≤ p ∧ p < 0x2C) ∨ 0x31 ≤ p →
      exec (.registerWrite b) s = .next (s.setLp lp)) ∧
    (p = 0x2F → exec (.registerWrite b) s = .next s) ∧
    (p = 0x03 →
      exec (.statusPageSelectWrite b) s =
        .next (s.setLp { lp with
          pageSelect := b
          pageSnapshot := none
          mirrorSnapshot := none })) ∧
    (p = 0x27 → exec (.go b) s = .next (s.setLp { lp with pending := true })) ∧
    (p = 0x2C →
      exec (.tableSelectWrite b) s =
        .next (s.setLp { lp with
          tableSelect := b
          tablePointer := 0
          entrySnapshot := none })) ∧
    (p = 0x2D →
      exec (.tablePointerWrite b) s =
        .next (s.setLp { lp with
          tablePointer := BitVec.ofNat 16 (256 * (s.lp.tablePointer.toNat / 256) + b.toNat)
          entrySnapshot := none })) ∧
    (p = 0x2E →
      exec (.tablePointerWrite b) s =
        .next (s.setLp { lp with
          tablePointer := BitVec.ofNat 16 (256 * b.toNat + s.lp.tablePointer.toNat % 256)
          entrySnapshot := none })) ∧
    (p = 0x30 →
      (b = 0xA5 → exec (.runningResetRequest b) s = .next (s.setLp { lp with resetRequested := true })) ∧
      (b ≠ 0xA5 → exec (.runningResetRequest b) s = .next (s.setLp lp))) ∧
    (p ≠ 0x03 → exec (.statusPageSelectWrite b) s = .next s) ∧
    (p ≠ 0x27 → exec (.go b) s = .next s) ∧
    (p ≠ 0x2C → exec (.tableSelectWrite b) s = .next s) ∧
    (p ≠ 0x2D → p ≠ 0x2E → exec (.tablePointerWrite b) s = .next s) ∧
    (p ≠ 0x30 → exec (.runningResetRequest b) s = .next s)

/-- Reads (R167, R169, R171 to R173), at the offsets of 12.4. A page and the mirror are read from a copy, taken afresh
at their first byte or when there is none; table data streams an entry from its snapshot, taken afresh at the entry's
first byte or when another is held, and 0 beyond the table; the registers without a rule of their own send what they
hold. The pointer advances but at table data, and nothing outside the port moves. The five status pages and the entries
of the nine tables hold the bytes of 12.4 and 12.5, with the codes of 12.3. That a read command of another register than
the pointer names does nothing is log entry 6, and the absent fields of a STATIONS and of the FROST entry are log entry
19: both the model's reading. -/
def Obligations.PortReadsSendTheirRegisters : Prop :=
  (∀ (s : State) (p : Nat) (lp : LocalPort), s.phase = .running → s.lp.stage = .reading → p = s.lp.pointer.toNat →
    lp = { s.lp with pointer := s.lp.pointer + 1 } →
    (∀ (n : Nat) (page : List Byte), n < 16 → p = 0x04 + n →
      page = (if n = 0 then s.statusPage s.lp.pageSelect
        else s.lp.pageSnapshot.getD (s.statusPage s.lp.pageSelect)) →
      exec .statusAreaRead s =
        .next (s.setLp { lp with pageSnapshot := some page, sent := page.getD n 0 })) ∧
    (∀ (n : Nat) (fresh copy : List Byte), n < 12 → p = 0x31 + n → fresh = s.rl.digest ++ answerBytes s.lp.answer →
      copy = (if n = 0 then fresh else s.lp.mirrorSnapshot.getD fresh) →
      exec .digestMirrorRead s =
        .next (s.setLp { lp with mirrorSnapshot := some copy, sent := copy.getD n 0 })) ∧
    (p = 0x2F →
      (∀ (table : Table) (i off : Nat) (entry : List Byte), Table.ofSelect s.lp.tableSelect = some table →
        i < table.count → off < table.size → s.lp.tablePointer.toNat = i * table.size + off →
        (off = 0 ∨ (∀ e, s.lp.entrySnapshot = some e → e.index ≠ i) → entry = s.tableEntry table i) →
        (∀ e, off ≠ 0 → s.lp.entrySnapshot = some e → e.index = i → entry = e.bytes) →
        exec .tableDataRead s =
          .next (s.setLp { s.lp with
            tablePointer := s.lp.tablePointer + 1
            entrySnapshot := some { index := i, bytes := entry }
            sent := entry.getD off 0 })) ∧
      (Table.ofSelect s.lp.tableSelect = none ∨
          (∃ table, Table.ofSelect s.lp.tableSelect = some table ∧
            table.count * table.size ≤ s.lp.tablePointer.toNat) →
        exec .tableDataRead s =
          .next (s.setLp { s.lp with tablePointer := s.lp.tablePointer + 1, sent := 0 }))) ∧
    (∀ b : Byte,
      (p = 0 ∧ b = 0x72) ∨ (p = 1 ∧ b = 0x0B) ∨ (p = 2 ∧ b = 0x01) ∨ (p = 0x03 ∧ b = s.lp.pageSelect) ∨
      (p = 0x14 ∧ b = byteOf s.ss.cause.code) ∨ (p = 0x19 ∧ b = s.eu.masks.fan) ∨ (p = 0x1A ∧ b = s.eu.masks.core) ∨
      (p = 0x1B ∧ b = s.eu.masks.service) ∨ (p = 0x1C ∧ b = s.eu.masks.system) ∨
      (p = 0x1D ∧ b = (if s.eu.suspended = true then 1 else 0)) ∨ (p = 0x1E ∧ b = s.lp.requestKind) ∨
      (∃ n : Fin 8, p = 0x1F + n.val ∧ b = s.lp.params[n]) ∨ (p = 0x27 ∧ b = 0) ∨
      (p = 0x28 ∧ b = (s.lp.answer.map fun a => byteOf a.outcome.code).getD 0) ∨
      (p = 0x29 ∧ b = (s.lp.answer.map fun a => a.kindCode).getD 0) ∨ (p = 0x2A ∧ b = s.lp.resultCount) ∨
      (p = 0x2B ∧ b = (if s.lp.pending = true then 1 else 0) + (if s.ss.store = .idle then 0 else 2)) ∨
      (p = 0x2C ∧ b = s.lp.tableSelect) ∨ (p = 0x2D ∧ b = BitVec.ofNat 8 (s.lp.tablePointer.toNat % 256)) ∨
      (p = 0x2E ∧ b = BitVec.ofNat 8 (s.lp.tablePointer.toNat / 256)) ∨ (p = 0x30 ∧ b = 0) ∨ (0x3D ≤ p ∧ b = 0) →
      exec .registerRead s = .next (s.setLp { lp with sent := b })) ∧
    (p < 0x04 ∨ 0x14 ≤ p → exec .statusAreaRead s = .next s) ∧
    (p < 0x31 ∨ 0x3D ≤ p → exec .digestMirrorRead s = .next s) ∧
    (p ≠ 0x2F → exec .tableDataRead s = .next s)) ∧
  (∀ (s : State) (select : Byte), s.statusPage select =
    (if select = 0 then
      [ bitRow
          [s.mc.ready, s.straps.b.val % 2 == 1, s.straps.c.val % 2 == 1, decide (2 ≤ s.straps.c.val),
           decide (2 ≤ s.straps.b.val), s.ss.store != .idle, s.season.mode == .summer, s.season.observing],
        BitVec.ofNat 8 (s.straps.a.val + 4 * s.straps.b.val + 16 * s.straps.c.val),
        BitVec.ofNat 8 s.season.heatCallAge, BitVec.ofNat 8 (s.season.heatCallAge / 256),
        BitVec.ofNat 8 (s.season.heatCallAge / 65536), BitVec.ofNat 8 (lastSetCodes.idxOf s.season.lastSetBy) ] ++
      littleSignedOr s.hm.dewPoint ++ [BitVec.ofNat 8 s.rl.roundCounter, 0, 0, 0, 0, 0, 0, 0]
    else if select = 1 ∨ select = 2 then
      [s.ae.fan (if select = 1 then .supply else .extract)].flatMap fun f =>
        [BitVec.ofNat 8 (fanCodes.idxOf f.state)] ++ little f.duty ++ little f.measured ++ little f.qc ++ little f.qr ++
        little f.speedTarget ++ [BitVec.ofNat 8 f.retries, bitRow [f.curveLimit, f.flowLimited], 0, 0, 0]
    else if select = 3 then s.corePage ++ [0, 0, 0, 0]
    else if select = 4 then
      little s.da.plan.target ++
      [BitVec.ofNat 8 (reasonCodes.idxOf s.da.plan.reason), sourceOr0 s.da.plan.baseSource] ++
      little s.da.plan.ceiling ++ [0, 0, 0, 0, 0, 0, 0, 0, 0, 0]
    else List.replicate 16 0)) ∧
  (∀ (s : State) (i : Nat) (entry : Option Entry), i < 15 →
    entry = (if i < 12 then s.da.table.general[i]? else if i = 12 then s.da.table.pcK
      else if i = 13 then s.da.table.pcB else s.da.table.humidity) →
    (entry = none → s.tableEntry .demand i = [0, 0, 0, 0, 0, 0, 0, 0]) ∧
    (∀ e, entry = some e → s.tableEntry .demand i =
      [BitVec.ofNat 8 (sourceCodes.idxOf e.source + 1), BitVec.ofNat 8 (demandCodes.idxOf e.kind + 1)] ++
      little e.flow ++ littleOr e.remaining ++ little e.seq.toNat)) ∧
  (∀ (s : State) (i : Fin 15) (x : Slot), x = s.slot i → s.tableEntry .stations i =
    [ BitVec.ofNat 8 (slotCodes.idxOf x.state), bitRow x.window,
      BitVec.ofNat 8 (x.window.length + 16 * x.goodRun + (if x.tell.isSome then 64 else 0) +
        (if ∃ n : Fin 4, n.val = i.val ∧ s.hm.stations[n].humid = true then 128 else 0)) ] ++
    littleOr x.timeMissing ++
    (x.lastOutcome.map fun a => [BitVec.ofNat 8 (outcomeCodes.idxOf a.outcome + 1), a.kindCode]).getD [0, 0xFF] ++
    (x.tell.map fun c => (c.temperature.map fun w => little w.toNat).getD [0x00, 0x80] ++ little c.humidity.toNat ++
      [c.flags]).getD [0x00, 0x80, 0xFF, 0xFF, 0xFF]) ∧
  (∀ (s : State) (side : Side) (f : FilterRecord), f = s.fm.filter side →
    s.tableEntry .filters (if side = .supply then 0 else 1) =
      f.savedBytes ++ little f.steadyFlow ++
      [BitVec.ofNat 8 f.steadyCount, BitVec.ofNat 8 (assessmentCodes.idxOf f.lastAssessment)] ++
      littleOr f.lastDpNorm ++ [sourceOr0 f.owner] ++ littleOr f.deadline) ∧
  (∀ (s : State) (n : Fin 8), s.tableEntry .counters n = little s.eu.copies[n].toNat) ∧
  (∀ (s : State) (ages : List Nat), s.fg.history.length ≤ 4 →
    ages = s.fg.history ++ List.replicate (4 - s.fg.history.length) 0 →
    s.tableEntry .frost 0 =
      s.corePage ++ [bitRow s.fg.window, BitVec.ofNat 8 s.fg.window.length] ++ littleOr s.fg.defrostElapsed ++
      littleOr s.fg.holdElapsed ++ littleSignedOr s.fg.holdEntryOda ++ littleOr s.fg.fallbackCycle ++
      (s.fg.coreRef.map fun r => littleSigned r.pressure ++ little r.flow).getD [0xFF, 0xFF, 0xFF, 0xFF] ++
      [BitVec.ofNat 8 s.fg.history.length] ++ ages.flatMap little ++
      [ (s.damper.allowance.map fun n => BitVec.ofNat 8 n).getD 0xFF,
        (s.damper.elapsed.map fun n => BitVec.ofNat 8 n).getD 0xFF,
        BitVec.ofNat 8 (driveCodes.idxOf s.damper.drive) ]) ∧
  (∀ (s : State) (i id : Nat) (k : SettingId), settingTable[i]? = some (id, k) →
    s.tableEntry .commissioning i = little id ++ littleSigned (s.settings.get k)) ∧
  (∀ (s : State) (side : Side) (i : Fin 8),
    s.tableEntry (.curve side) i =
      little (s.settings.curve side).flows[i] ++ little (s.settings.curve side).speeds[i]) ∧
  (∀ (s : State) (n : Fin 8) (c : Channel) (readings : List Int), c = s.channel n → c.history.length ≤ 4 →
    readings = c.history ++ List.replicate (4 - c.history.length) 0 →
    s.tableEntry .channels n =
      [BitVec.ofNat 8 n.val] ++ littleSigned c.raw ++
      [ bitRow c.window, BitVec.ofNat 8 c.window.length, BitVec.ofNat 8 (channelCodes.idxOf c.state),
        BitVec.ofNat 8 (injectCodes.idxOf c.injection), BitVec.ofNat 8 c.settling,
        BitVec.ofNat 8 c.history.length ] ++
      readings.flatMap littleSigned ++ littleSigned c.filtered)

/-! ## The event unit -/

/-- Flags, masks, SUSPEND and the pin (R175 to R178): a raise sets its flag and no other; a read of a word sends it and
clears it; a mask write replaces its word; a write of the IRQ control sets SUSPEND to bit 0 and, with bit 1, clears
every flag. The pin is then active exactly when an unmasked flag is set and SUSPEND is clear. That ACK_ALL acts with bit
1 set whatever its byte, and that both rows act on SUSPEND, is the model's choice, log entry 24; that a command of
another register does nothing is its reading, log entry 6. -/
def Obligations.EventWordsMasksAndThePin : Prop :=
  (∀ (s : State) (f : Flag), s.eu.Coherent →
    ∃ eu, s.raise f = s.setEu eu ∧ eu.isSet f = true ∧ (∀ g : Flag, g ≠ f → eu.isSet g = s.eu.isSet g) ∧
      eu.Coherent ∧ eu = { s.eu with flags := eu.flags, irq := eu.irq }) ∧
  (∀ (s : State) (w : EventWord) (n : Nat) (lp : LocalPort), s.phase = .running → s.eu.Coherent →
    lp = { s.lp with pointer := s.lp.pointer + 1 } →
    n = (match w with
      | .fan => 0
      | .core => 1
      | .service => 2
      | .system => 3) →
    (s.lp.stage = .reading → s.lp.pointer.toNat = 0x15 + n →
      ∃ eu, exec .eventWordRead s = .next ((s.setLp { lp with sent := s.eu.flags.get w }).setEu eu) ∧
        (∀ f : Flag, eu.isSet f = (if f.word = w then false else s.eu.isSet f)) ∧ eu.Coherent ∧
        eu = { s.eu with flags := eu.flags, irq := eu.irq }) ∧
    (∀ b : Byte, s.lp.stage = .writing → s.lp.pointer.toNat = 0x19 + n →
      ∃ eu, exec (.maskWrite b) s = .next ((s.setLp lp).setEu eu) ∧ eu.masks.get w = b ∧
        (∀ v, v ≠ w → eu.masks.get v = s.eu.masks.get v) ∧ eu.Coherent ∧
        eu = { s.eu with masks := eu.masks, irq := eu.irq }) ∧
    (∀ b : Byte, s.lp.stage = .writing → s.lp.pointer.toNat = 0x1D →
      (∃ eu, exec (.suspend b) s = .next ((s.setLp lp).setEu eu) ∧ eu.suspended = b.getLsbD 0 ∧
        (∀ f : Flag, eu.isSet f = (s.eu.isSet f && !b.getLsbD 1)) ∧ eu.Coherent ∧
        eu = { s.eu with flags := eu.flags, suspended := eu.suspended, irq := eu.irq }) ∧
      (b.getLsbD 1 = true → exec (.ackAll b) s = exec (.suspend b) s) ∧
      (∃ eu, exec (.ackAll b) s = .next ((s.setLp lp).setEu eu) ∧ eu.suspended = b.getLsbD 0 ∧
        (∀ f : Flag, eu.isSet f = false) ∧ eu.irq = false ∧ eu.masks = s.eu.masks))) ∧
  (∀ (s : State) (b : Byte) (p : Nat), s.phase = .running → p = s.lp.pointer.toNat →
    (s.lp.stage ≠ .reading ∨ p < 0x15 ∨ 0x18 < p → exec .eventWordRead s = .next s) ∧
    (s.lp.stage ≠ .writing ∨ p < 0x19 ∨ 0x1C < p → exec (.maskWrite b) s = .next s) ∧
    (s.lp.stage ≠ .writing ∨ p ≠ 0x1D → exec (.suspend b) s = .next s ∧ exec (.ackAll b) s = .next s))

/-- Counters (R179 to R181): a count adds one to its live value, from 65535 to 0 with COUNTER_WRAPPED, and the readable
copy follows unless counter_snapshot is on; the hour mark then copies all eight; CLEAR_COUNTERS sets all sixteen to 0.
Which sources can ask, an UNKNOWN slot's among them, is the model's choice, log entry 10. -/
def Obligations.CountersCountCopyAndClear : Prop :=
  (∀ (s : State) (c : Counter),
    ∃ eu, s.count c = s.setEu eu ∧ eu.live[c.index] = s.eu.live[c.index] + 1 ∧
      (∀ d : Counter, d ≠ c → eu.live[d.index] = s.eu.live[d.index] ∧ eu.copies[d.index] = s.eu.copies[d.index]) ∧
      (s.settings.counterSnapshot = false → eu.copies[c.index] = eu.live[c.index]) ∧
      (s.settings.counterSnapshot = true → eu.copies = s.eu.copies) ∧
      (∀ f : Flag, eu.isSet f =
        (s.eu.isSet f || (f == .counterWrapped && s.eu.live[c.index] == 0xFFFF))) ∧
      eu.masks = s.eu.masks ∧ eu.suspended = s.eu.suspended) ∧
  (∀ s : State, s.phase ≠ .held →
    (s.settings.counterSnapshot = false → exec .hourMark s = .next s) ∧
    (s.settings.counterSnapshot = true →
      exec .hourMark s = .next (s.setEu { s.eu with copies := s.eu.live }))) ∧
  (∀ (s : State) (src : Master), s.CanAsk src .clearCounters →
    ∃ eu o, exec (.clearCounters src) s =
        .next ((s.setEu eu).deliver src { outcome := o, kindCode := RequestKind.clearCounters.code }) ∧
      (∀ n : Fin 8, eu.live[n] = 0 ∧ eu.copies[n] = 0) ∧
      eu = { s.eu with live := eu.live, copies := eu.copies } ∧
      ((∃ n : Fin 8, s.eu.live[n] ≠ 0 ∨ s.eu.copies[n] ≠ 0) → o = .done) ∧
      ((∀ n : Fin 8, s.eu.live[n] = 0 ∧ s.eu.copies[n] = 0) → o = .doneNothing))

/-! ## The settings store -/

/-- WRITE_SETTING (R187, R188): BUSY while a store is in flight; NOT_APPLICABLE for an id that names no setting, or with
a parameter absent; otherwise the value is brought into the setting's range and then its cross-field limits and stands
in the working record, every other setting as it was but for the flows that a written Qmin or Qmax carries along; the
stored copy is not touched. The outcome is DONE_CLAMPED if the value was changed, DONE_NOTHING if it was not and the
setting held it, and DONE otherwise. That bit 0 of a written poll_list is dropped before the value is judged, without
DONE_CLAMPED, is the model's reading, log entry 31; which sources can ask, an UNKNOWN slot's among them, is its choice,
log entry 10. -/
def Obligations.WriteSettingClampsAndWrites : Prop :=
  (∀ (s : State) (src : Master), s.CanAsk src .writeSetting →
    (∀ idAsked valueAsked : Option Word16, idAsked = none ∨ valueAsked = none →
      exec (.writeSetting src idAsked valueAsked) s =
        .next ((s.count .requestsRefused).deliver src
          { outcome := .notApplicable, kindCode := RequestKind.writeSetting.code })) ∧
    ∀ id value : Word16,
      (s.ss.store ≠ .idle →
        exec (.writeSetting src (some id) (some value)) s =
          .next ((s.count .requestsRefused).deliver src
            { outcome := .busy, kindCode := RequestKind.writeSetting.code })) ∧
      (s.ss.store = .idle → SettingId.ofId id.toNat = none →
        exec (.writeSetting src (some id) (some value)) s =
          .next ((s.count .requestsRefused).deliver src
            { outcome := .notApplicable, kindCode := RequestKind.writeSetting.code })) ∧
      ∀ (k : SettingId) (asked v : Int), s.ss.store = .idle → s.settings.Legal → SettingId.ofId id.toNat = some k →
        asked = (if k = .pollList then (value &&& 0xFFFE).toInt else value.toInt) →
        v = max (s.settings.crossLimits k).1 (min (s.settings.crossLimits k).2
          (max (s.settings.range k).1 (min (s.settings.range k).2 asked))) →
        ∃ u, exec (.writeSetting src (some id) (some value)) s =
            .next (u.deliver src
              { outcome := if v ≠ asked then .doneClamped else if v = s.settings.get k then .doneNothing else .done
                kindCode := RequestKind.writeSetting.code }) ∧
          (v = s.settings.get k → u = s) ∧ u.ss = { s.ss with working := u.settings } ∧ u.settings.get k = v ∧
          ∀ other : SettingId, other ≠ k →
            ((k = .qmin ∨ k = .qmax) ∧
                ((∃ i, other = .level i) ∨ other = .defrostExtract ∨ other = .unbalancedCeiling) →
              u.settings.get other =
                max (u.settings.qmin : Int) (min (s.settings.get other) (u.settings.qmax : Int))) ∧
            (k ≠ .qmin ∧ k ≠ .qmax ∨
                (∀ i, other ≠ .level i) ∧ other ≠ .defrostExtract ∧ other ≠ .unbalancedCeiling →
              u.settings.get other = s.settings.get other)) ∧
  (settingTable.take 0x2C).map Prod.snd =
    [.kFail, .pullcordDuration, .qmin, .qmax, .level 0, .level 1, .level 2, .level 3, .level 4, .defaultBaseLevel,
     .derateLoaded, .derateBlocked, .balance, .defrostExtract, .unbalancedCeiling, .rampRate, .holdoffTime,
     .provingSpeed, .qref, .compGain, .kp, .ki, .frostBaseLimit, .frostEnable, .kFrost, .frostStep, .minFraction,
     .defrostTime, .exitMargin, .comfort, .bypassTravel, .riseThreshold, .highLimit, .lowLimit, .assessMinFlow,
     .absentThreshold, .loadedPct, .blockedPct, .volumeLimit, .hoursLimit, .seasonObserve, .heatAddress,
     .counterSnapshot, .pollList] ∧
  (∀ n k, SettingId.ofId n = some k ↔ (n, k) ∈ settingTable) ∧
  (∀ i : Fin 8,
    SettingId.ofId (0x40 + i.val) = some (.curveFlow .supply i) ∧
    SettingId.ofId (0x48 + i.val) = some (.curveSpeed .supply i) ∧
    SettingId.ofId (0x50 + i.val) = some (.curveFlow .extract i) ∧
    SettingId.ofId (0x58 + i.val) = some (.curveSpeed .extract i)) ∧
  (∀ (n : Nat) (k : RequestKind),
    ([.base, .boost, .away, .purge, .quiet, .shutdown, .withdraw, .filterBegin, .filterDone, .filterAbandon, .setSeason,
      .clearLockout, .inject, .writeSetting, .storeSettings, .clearCounters] : List RequestKind)[n]? = some k →
    SettingId.ofId (0x80 + 4 * n) = some (.permission k .occupant) ∧
    SettingId.ofId (0x81 + 4 * n) = some (.permission k .installer) ∧
    SettingId.ofId (0x82 + 4 * n) = some (.permission k .unit))

/-- What a written setting moves outside the record (R32, R33, R86, R92, R130, R141, R149, R180): the ceilings and the
plan; the fraction; the damper's position; the clean pressures, rescaled; observation of the season; the counters'
copies; and an address that leaves the poll list is lost with all that its source holds, at once or, in its own poll,
at the poll's end. Any other setting moves nothing. That a loss due stays due where the address joins the list again is
the model's reading, log entry 17; which sources can ask, an UNKNOWN slot's among them, is its choice, log entry 10. -/
def Obligations.WrittenSettingsReachTheirOwners : Prop :=
  ∀ (s : State) (src : Master) (id value : Word16) (k : SettingId), s.CanAsk src .writeSetting → s.ss.store = .idle →
    SettingId.ofId id.toNat = some k →
    ∃ u o, exec (.writeSetting src (some id) (some value)) s =
        .next (u.deliver src { outcome := o, kindCode := RequestKind.writeSetting.code }) ∧
      (u.settings = s.settings → u = s) ∧
      (u.settings ≠ s.settings →
        (k ∈ [.qmin, .qmax, .defaultBaseLevel, .derateLoaded, .derateBlocked] ∨ (∃ i, k = .level i) →
          u = { s with da := u.da, ss := u.ss } ∧ u.da.table = s.da.table ∧
          u.da.supplyCeiling = contribution u.settings s.fm.supply ∧
          u.da.extractCeiling = contribution u.settings s.fm.extract ∧ u.da.plan = u.planNow) ∧
        (k = .minFraction →
          u = { s with
            ss := u.ss
            fg := { s.fg with
              fraction := if s.fg.state ∈ [.protect, .recover, .fallback] then
                max s.fg.fraction u.settings.minFraction else s.fg.fraction } }) ∧
        (k = .bypassTravel →
          u = { s with
            ss := u.ss
            damper := { s.damper with
              position := if s.damper.state = .opened then u.settings.bypassTravel
                else min s.damper.position u.settings.bypassTravel } }) ∧
        (k = .qref →
          u = { s with ss := u.ss, fm := u.fm } ∧
          ∀ side : Side, u.fm.filter side =
            { s.fm.filter side with
              dpClean := (s.fm.filter side).dpClean.map fun dp =>
                max 1 (min 500 (dp * u.settings.qref * u.settings.qref /
                  (s.settings.qref * s.settings.qref))) }) ∧
        (k = .seasonObserve ∨ k = .heatAddress →
          u = { s with
            ss := u.ss
            season := { s.season with
              observing := u.settings.seasonObserve && !u.addressLost u.settings.heatAddress
              heatCallAge := u.season.heatCallAge } } ∧
          (u.season.observing = true → s.season.observing = false ∨ k = .heatAddress → u.season.heatCallAge = 0) ∧
          (u.season.observing = false ∨ (s.season.observing = true ∧ k = .seasonObserve) →
            u.season.heatCallAge = s.season.heatCallAge)) ∧
        (k = .counterSnapshot →
          (u.settings.counterSnapshot = false → u = { s with ss := u.ss, eu := { s.eu with copies := s.eu.live } }) ∧
          (u.settings.counterSnapshot = true → u = { s with ss := u.ss })) ∧
        (k = .pollList → ∀ leaves gone : Fin 15 → Bool,
          (∀ i, leaves i = true ↔
            s.settings.listed (i.val + 1) = true ∧ u.settings.listed (i.val + 1) = false) →
          (∀ i, gone i = true ↔ leaves i = true ∧ s.rl.stage.slot ≠ some i ∧ (s.slot i).state ≠ .lost) →
          u = { s with
            ss := u.ss
            rl := { s.rl with slots := u.rl.slots, lossDue := u.rl.lossDue }
            da := u.da
            fm := u.fm
            hm := { s.hm with stations := u.hm.stations }
            season := { s.season with observing := u.season.observing }
            eu := { s.eu with flags := u.eu.flags, irq := u.eu.irq } } ∧
          (u.rl.lossDue = true ↔ s.rl.lossDue = true ∨ ∃ i, leaves i = true ∧ s.rl.stage.slot = some i) ∧
          (∀ i : Fin 15, u.slot i = (if gone i = true then Slot.lost else s.slot i)) ∧
          (u.eu.isSet .stationLost = true ↔ s.eu.isSet .stationLost = true ∨
            ∃ i, gone i = true ∧ ((s.slot i).state = .present ∨ (s.slot i).state = .missing)) ∧
          (∀ n : Fin 4, u.hm.stations[n] =
            (if ∃ i, gone i = true ∧ i.val = n.val then { reports := [], humid := false } else s.hm.stations[n])) ∧
          u.season.observing =
            (if ∃ i, gone i = true ∧ i.val + 1 = s.settings.heatAddress then false else s.season.observing) ∧
          u.da.table = { s.da.table with general := u.da.table.general } ∧
          u.da.table.general.Sublist s.da.table.general ∧
          (∀ e ∈ s.da.table.general, e ∈ u.da.table.general ↔
            ∀ i m, gone i = true → slotMaster i = some m → e.source ≠ .master m) ∧
          (s.PlanCurrent → u.PlanCurrent) ∧
          (s.ChangesCoherent →
            (∀ i m, gone i = true → slotMaster i = some m → u.HoldsNothing m) ∧
            ∀ (side : Side) (f : FilterRecord), f = s.fm.filter side →
              ((∀ i m, gone i = true → slotMaster i = some m → f.owner ≠ some m) → u.fm.filter side = f) ∧
              (∀ i m back, gone i = true → slotMaster i = some m → f.owner = some m → f.saved = some back →
                u.fm.filter side =
                  { f with
                    state := back
                    saved := none
                    owner := none
                    deadline := none } ∧
                u.eu.isSet .changeAbandoned = true ∧ u.eu.isSet (filterFlag side) = true))) ∧
        (k ∉ [.qmin, .qmax, .defaultBaseLevel, .derateLoaded, .derateBlocked, .minFraction, .bypassTravel, .qref,
            .seasonObserve, .heatAddress, .counterSnapshot, .pollList] → (∀ i, k ≠ .level i) →
          u = { s with ss := u.ss }))

/-- Stores and filter saves take turns (R128, R189, R190). STORE_SETTINGS is BUSY while one is in flight, starts at once
or, with a filter save in flight, when that has ended. A store's end writes the stored copy with its CRC, or leaves it
invalid, raises its flag and makes a save due; a save writes both records, at the store reference flow, and ends with
them stored. The stored records consist of the bytes of 12.5. That a store starts at its acceptance, and that a waiting
store goes before a waiting save, is log entry 14, and that an event with nothing in flight does nothing is log entry 6:
both the model's reading; which sources can ask, an UNKNOWN slot's among them, is its choice, log entry 10. -/
def Obligations.StoresAndSavesTakeTurns : Prop :=
  (∀ (s : State) (src : Master), s.CanAsk src .storeSettings →
    (s.ss.store ≠ .idle →
      exec (.storeSettings src) s =
        .next ((s.count .requestsRefused).deliver src
          { outcome := .busy, kindCode := RequestKind.storeSettings.code })) ∧
    (s.ss.store = .idle →
      exec (.storeSettings src) s =
        .next ((s.setSs { s.ss with store := if s.ss.saving = none then .writing else .accepted }).deliver src
          { outcome := .done, kindCode := RequestKind.storeSettings.code }))) ∧
  (∀ s : State, s.phase ≠ .held →
    (s.ss.store = .accepted → s.ss.saving = none →
      exec .storeStart s = .next (s.setSs { s.ss with store := .writing })) ∧
    (s.ss.store ≠ .accepted ∨ s.ss.saving ≠ none → exec .storeStart s = .next s) ∧
    (s.ss.store = .writing →
      exec .storeDone s =
        .next (((s.setSs { s.ss with
          stored :=
            { contents := s.settings
              crc := crc16 s.settings.image
              valid := true }
          store := .idle }).raise .storeDone).saveDue) ∧
      exec .storeFailed s =
        .next (((s.setSs { s.ss with
          stored := { s.ss.stored with valid := false }
          store := .idle }).raise .storeFailed).saveDue)) ∧
    (s.ss.store ≠ .writing → exec .storeDone s = .next s ∧ exec .storeFailed s = .next s) ∧
    (s.ss.saveWaiting = true → s.ss.store = .idle → s.ss.saving = none →
      ∃ t, exec .filterSaveStart s = .next t ∧ t = s.saveDue) ∧
    (s.ss.saveWaiting = false ∨ s.ss.store ≠ .idle ∨ s.ss.saving ≠ none → exec .filterSaveStart s = .next s) ∧
    (∀ a b, s.ss.saving = some (a, b) →
      exec .filterSaveComplete s =
        .next (s.setSs { s.ss with
          storedSupply := a
          storedExtract := b
          saving := none })) ∧
    (s.ss.saving = none → exec .filterSaveComplete s = .next s)) ∧
  (∀ (s : State) (reference : Nat) (record : FilterCore → StoredFilter),
    reference = (if s.ss.stored.valid = true then s.ss.stored.contents.qref else 150) →
    (∀ f, (record f).passes = true ∧ (record f).contents =
      (if reference = s.settings.qref then f
      else
        { f with
          dpClean := f.dpClean.map fun dp =>
            max 1 (min 500 (dp * reference * reference / (s.settings.qref * s.settings.qref))) })) →
    (s.ss.store = .idle ∧ s.ss.saving = none →
      s.saveDue = s.setSs { s.ss with
        saving := some (record s.fm.supply.toFilterCore, record s.fm.extract.toFilterCore)
        saveWaiting := false }) ∧
    (s.ss.store ≠ .idle ∨ s.ss.saving ≠ none → s.saveDue = s.setSs { s.ss with saveWaiting := true })) ∧
  (∀ set : Settings, set.image = settingTable.flatMap fun p => little p.1 ++ littleSigned (set.get p.2)) ∧
  (settingTable.map Prod.fst = List.range' 1 0x2C ++ List.range' 0x40 0x20 ++
    (List.range 16).flatMap fun k => [0x80 + 4 * k, 0x80 + 4 * k + 1, 0x80 + 4 * k + 2]) ∧
  (∀ f : FilterCore, f.image = f.savedBytes) ∧
  (∀ r : StoredSettings, r.passes = true ↔ r.valid = true ∧ r.crc = crc16 r.contents.image) ∧
  (∀ r : StoredFilter, r.passes = true ↔ r.whole = true ∧ r.crc = crc16 r.contents.savedBytes)

/-! ## Encodings -/

/-- Every well-formed reply of the room link is read back from its frame whole, and no frame of 12.1 whose CRC-8 does
not match is read as a reply (R147, R151). The rows of the replies by kind, and BAD_REPLY_END for what decodeReply
judges to be none, are the model's choice, log entry 27. -/
def Obligations.RepliesAreReadBackFromTheirFrames : Prop :=
  (∀ (i : Instr) (chars : List Byte), i.wf = true → encodeReply i = some chars → decodeReply chars = i) ∧
  (∀ (address kind len crc : Byte) (payload : List Byte), crc ≠ crc8 ([address, kind, len] ++ payload) →
    len.toNat = payload.length →
    decodeReply ([0xA9, address, kind, len] ++ payload ++ [crc]) = .badReplyEnd)

/-! ## What every step keeps -/

/-- The state after reset, before any command, meets every invariant below. The levels of its pins and straps, log entry
3, and the values that the manual does not give before the load, log entry 4, are the model's choice, and the statement
is about them. -/
def Obligations.ResetIsSound : Prop := State.reset.Sound

/-- In every step the pin is active exactly when an unmasked flag is set and SUSPEND is clear, and the positions that
carry no flag stay 0 (R175, R178). -/
def Obligations.StepsKeepThePinAndTheFlags : Prop :=
  ∀ s t : State, s.eu.Coherent → step s = .next t → t.eu.Coherent

/-- In every step each fan keeps the duty and the applied flow of its state, no supply flow passes the extract flow, and
each port is driven at the duty of its fan (R41, R51, R53, R58, R59, R63). -/
def Obligations.StepsKeepTheFansTogether : Prop :=
  ∀ s t : State, s.FansCoherent → step s = .next t → t.FansCoherent

/-- In every step the working record and the stored contents meet every range and every cross-field limit (R187, R188),
and the frost guard keeps the fraction, the proportion and the elapsed times of its state, and its windows and its
history within bounds (R71, R76, R85). -/
def Obligations.StepsKeepTheRecordAndTheFrostGuard : Prop :=
  ∀ s t : State, s.RecordLegal → step s = .next t → t.RecordLegal ∧ (s.FrostCoherent → t.FrostCoherent)

/-- In every step the pre-heater is on only with a supply fan running and a proportion above 0, and the damper is driven
as its state says, home outside INACTIVE, and closed where none is fitted (R87 to R96). -/
def Obligations.StepsKeepTheHeaterAndTheDamper : Prop :=
  ∀ s t : State, s.HeaterSafe → s.DamperSafe → step s = .next t → t.HeaterSafe ∧ t.DamperSafe

/-- In every step the demand table keeps its bounds and its distinct pairs, the humidity slot is what the humidity
manager shows (R17, R20, R26, R105), and the plan is the one that the table and its other inputs give (R33, R34, R39).
-/
def Obligations.StepsKeepTheTableAndThePlan : Prop :=
  ∀ s t : State, s.TableCoherent → s.PlanCurrent → step s = .next t → t.TableCoherent ∧ t.PlanCurrent

/-- In every step a filter is CHANGING exactly while it has an owner, a deadline and a saved state; a LOST partner holds
nothing; and a port that does not answer is in no transaction (R123 to R129, R162, R165). -/
def Obligations.StepsKeepChangesAndPartners : Prop :=
  ∀ s t : State, s.ChangesCoherent → s.LostHoldNothing → s.PortSilent → step s = .next t →
    t.ChangesCoherent ∧ t.LostHoldNothing ∧ t.PortSilent
end

