-- ==== Sys2Proof/Laws/Formats.lean ====
section
/-! SUPPORT. The codes and the fields of Chapter 12: what the machine sends is what the statements spell out from the
tables, code by code and byte by byte. -/

namespace Sys2Proof.Machine

/-! ## Codes (12.3) -/

theorem Reason.code_eq (r : Reason) : r.code = reasonCodes.idxOf r := by cases r <;> rfl
theorem FrostState.code_eq (x : FrostState) : x.code = frostCodes.idxOf x := by cases x <;> rfl
theorem FilterState.code_eq (x : FilterState) : x.code = filterCodes.idxOf x := by cases x <;> rfl
theorem FanState.code_eq (x : FanState) : x.code = fanCodes.idxOf x := by cases x <;> rfl
theorem DamperState.code_eq (x : DamperState) : x.code = damperCodes.idxOf x := by cases x <;> rfl
theorem MotorDrive.code_eq (x : MotorDrive) : x.code = driveCodes.idxOf x := by cases x <;> rfl
theorem ChannelState.code_eq (x : ChannelState) : x.code = channelCodes.idxOf x := by cases x <;> rfl
theorem InjectMode.code_eq (x : InjectMode) : x.code = injectCodes.idxOf x := by cases x <;> rfl
theorem SlotState.code_eq (x : SlotState) : x.code = slotCodes.idxOf x := by cases x <;> rfl
theorem Assessment.code_eq (x : Assessment) : x.code = assessmentCodes.idxOf x := by cases x <;> rfl
theorem RequestOutcome.code_eq (x : RequestOutcome) : x.code = outcomeCodes.idxOf x + 1 := by cases x <;> rfl
theorem originCode_eq (o : Option DefrostOrigin) : originCode o = originCodes.idxOf o := by
  rcases o with _ | _ | _ <;> rfl
theorem masterCode_eq (m : Master) : masterCode m = sourceCodes.idxOf (.master m) + 1 := by
  rcases m with _ | _ | n
  · rfl
  · rfl
  · revert n; decide
theorem Source.code_eq (x : Source) : x.code = sourceCodes.idxOf x + 1 := by
  rcases x with m | c | _
  · exact masterCode_eq m
  · cases c <;> rfl
  · rfl
theorem LastSetBy.code_eq (x : LastSetBy) : x.code = lastSetCodes.idxOf x := by
  rcases x with _ | _ | _ | m
  · rfl
  · rfl
  · rfl
  · rcases m with _ | _ | n
    · rfl
    · rfl
    · revert n; decide
theorem sourceCode_eq (m : Option Master) : byteOf (sourceCode m) = sourceOr0 m := by
  cases m <;> simp [sourceCode, sourceOr0, byteOf, masterCode_eq]

/-! ## Fields (R192, 6.6) -/

/-- An unsigned field is its two bytes, low byte first. -/
theorem field16_eq (n : Nat) : field16 n = little n := by
  simp only [field16, bytes16, little, List.cons.injEq, and_true]
  constructor <;> apply BitVec.eq_of_toNat_eq <;> simp [Nat.shiftRight_eq_div_pow] <;> omega

/-- A signed field is its two bytes, low byte first. -/
theorem signed16_eq (i : Int) : signed16 i = littleSigned i := by
  simp only [signed16, bytes16, littleSigned, List.cons.injEq, and_true]
  constructor <;> apply BitVec.eq_of_toNat_eq <;> simp [Nat.shiftRight_eq_div_pow] <;> omega

theorem field16?_eq (o : Option Nat) : field16? o = littleOr o := by
  cases o <;> simp [field16?, littleOr, field16_eq]

theorem signed16?_eq (o : Option Int) : signed16? o = littleSignedOr o := by
  cases o <;> simp [signed16?, littleSignedOr, signed16_eq]

/-- The bits of a window below a place are the sum of those that are set. -/
theorem markBits_mod (n : Nat) (l : List Bool) :
    markBits l % 2 ^ n = ((List.range n).map fun k => if l.getD k false then 2 ^ k else 0).sum := by
  induction n generalizing l with
  | zero => simp [Nat.mod_one]
  | succ n ih =>
    have double : ∀ f : Nat → Bool, ((List.range n).map fun k => if f k then 2 ^ (k + 1) else 0).sum =
        2 * ((List.range n).map fun k => if f k then 2 ^ k else 0).sum := by
      intro f
      rw [← List.sum_map_mul_left]
      congr 1
      refine List.map_congr_left fun k _ => ?_
      split <;> simp [Nat.pow_succ, Nat.mul_comm]
    rw [List.range_succ_eq_map, List.map_cons, List.sum_cons, List.map_map]
    cases l with
    | nil => simp [markBits, Function.comp_def]
    | cons m l =>
      have sum := double fun k => l.getD k false
      rw [← ih l] at sum
      simp only [Function.comp_def, List.getD_cons_zero, List.getD_cons_succ, Nat.succ_eq_add_one, sum, markBits,
        Nat.pow_zero]
      have split : (if m then 1 else 0) + 2 * markBits l =
          ((if m then 1 else 0) + 2 * (markBits l % 2 ^ n)) + 2 ^ (n + 1) * (markBits l / 2 ^ n) := by
        have := Nat.div_add_mod (markBits l) (2 ^ n)
        rw [Nat.pow_succ, Nat.mul_comm (2 ^ n) 2, Nat.mul_assoc]
        omega
      rw [split, Nat.add_mul_mod_self_left, Nat.mod_eq_of_lt]
      have := Nat.mod_lt (markBits l) (Nat.two_pow_pos n)
      rw [Nat.pow_succ]
      cases m <;> simp <;> omega

/-- A window is sent as one byte, its oldest mark in bit 0. -/
theorem markBits_eq (l : List Bool) : byteOf (markBits l) = bitRow l := by
  rw [bitRow, ← markBits_mod]
  apply BitVec.eq_of_toNat_eq
  simp [byteOf]

end Sys2Proof.Machine
end

