-- ==== Sys2Proof/Laws/State.lean ====
section
/-! SUPPORT. What each setter of the state does to each field: one lemma for a field and a setter, true by `rfl`. -/

namespace Sys2Proof.Machine

/-! ## `setPhase` -/

@[simp] theorem State.setPhase_self (s : State) : s.setPhase s.phase = s := rfl
@[simp] theorem State.setPhase_setPhase (s : State) (x y) : (s.setPhase x).setPhase y = s.setPhase y := rfl
@[simp] theorem State.setPhase_phase (s : State) (x) : (s.setPhase x).phase = x := rfl
@[simp] theorem State.setPhase_resetPin (s : State) (x) : (s.setPhase x).resetPin = s.resetPin := rfl
@[simp] theorem State.setPhase_straps (s : State) (x) : (s.setPhase x).straps = s.straps := rfl
@[simp] theorem State.setPhase_mc (s : State) (x) : (s.setPhase x).mc = s.mc := rfl
@[simp] theorem State.setPhase_da (s : State) (x) : (s.setPhase x).da = s.da := rfl
@[simp] theorem State.setPhase_ae (s : State) (x) : (s.setPhase x).ae = s.ae := rfl
@[simp] theorem State.setPhase_fg (s : State) (x) : (s.setPhase x).fg = s.fg := rfl
@[simp] theorem State.setPhase_preheat (s : State) (x) : (s.setPhase x).preheat = s.preheat := rfl
@[simp] theorem State.setPhase_damper (s : State) (x) : (s.setPhase x).damper = s.damper := rfl
@[simp] theorem State.setPhase_hm (s : State) (x) : (s.setPhase x).hm = s.hm := rfl
@[simp] theorem State.setPhase_fm (s : State) (x) : (s.setPhase x).fm = s.fm := rfl
@[simp] theorem State.setPhase_season (s : State) (x) : (s.setPhase x).season = s.season := rfl
@[simp] theorem State.setPhase_rl (s : State) (x) : (s.setPhase x).rl = s.rl := rfl
@[simp] theorem State.setPhase_lp (s : State) (x) : (s.setPhase x).lp = s.lp := rfl
@[simp] theorem State.setPhase_eu (s : State) (x) : (s.setPhase x).eu = s.eu := rfl
@[simp] theorem State.setPhase_ss (s : State) (x) : (s.setPhase x).ss = s.ss := rfl
@[simp] theorem State.setPhase_freeCount (s : State) (x) : (s.setPhase x).freeCount = s.freeCount := rfl
@[simp] theorem State.setPhase_pending (s : State) (x) : (s.setPhase x).pending = s.pending := rfl

/-! ## `setResetPin` -/

@[simp] theorem State.setResetPin_self (s : State) : s.setResetPin s.resetPin = s := rfl
@[simp] theorem State.setResetPin_setResetPin (s : State) (x y) : (s.setResetPin x).setResetPin y = s.setResetPin y := rfl
@[simp] theorem State.setResetPin_phase (s : State) (x) : (s.setResetPin x).phase = s.phase := rfl
@[simp] theorem State.setResetPin_resetPin (s : State) (x) : (s.setResetPin x).resetPin = x := rfl
@[simp] theorem State.setResetPin_straps (s : State) (x) : (s.setResetPin x).straps = s.straps := rfl
@[simp] theorem State.setResetPin_mc (s : State) (x) : (s.setResetPin x).mc = s.mc := rfl
@[simp] theorem State.setResetPin_da (s : State) (x) : (s.setResetPin x).da = s.da := rfl
@[simp] theorem State.setResetPin_ae (s : State) (x) : (s.setResetPin x).ae = s.ae := rfl
@[simp] theorem State.setResetPin_fg (s : State) (x) : (s.setResetPin x).fg = s.fg := rfl
@[simp] theorem State.setResetPin_preheat (s : State) (x) : (s.setResetPin x).preheat = s.preheat := rfl
@[simp] theorem State.setResetPin_damper (s : State) (x) : (s.setResetPin x).damper = s.damper := rfl
@[simp] theorem State.setResetPin_hm (s : State) (x) : (s.setResetPin x).hm = s.hm := rfl
@[simp] theorem State.setResetPin_fm (s : State) (x) : (s.setResetPin x).fm = s.fm := rfl
@[simp] theorem State.setResetPin_season (s : State) (x) : (s.setResetPin x).season = s.season := rfl
@[simp] theorem State.setResetPin_rl (s : State) (x) : (s.setResetPin x).rl = s.rl := rfl
@[simp] theorem State.setResetPin_lp (s : State) (x) : (s.setResetPin x).lp = s.lp := rfl
@[simp] theorem State.setResetPin_eu (s : State) (x) : (s.setResetPin x).eu = s.eu := rfl
@[simp] theorem State.setResetPin_ss (s : State) (x) : (s.setResetPin x).ss = s.ss := rfl
@[simp] theorem State.setResetPin_freeCount (s : State) (x) : (s.setResetPin x).freeCount = s.freeCount := rfl
@[simp] theorem State.setResetPin_pending (s : State) (x) : (s.setResetPin x).pending = s.pending := rfl

/-! ## `setStraps` -/

@[simp] theorem State.setStraps_self (s : State) : s.setStraps s.straps = s := rfl
@[simp] theorem State.setStraps_setStraps (s : State) (x y) : (s.setStraps x).setStraps y = s.setStraps y := rfl
@[simp] theorem State.setStraps_phase (s : State) (x) : (s.setStraps x).phase = s.phase := rfl
@[simp] theorem State.setStraps_resetPin (s : State) (x) : (s.setStraps x).resetPin = s.resetPin := rfl
@[simp] theorem State.setStraps_straps (s : State) (x) : (s.setStraps x).straps = x := rfl
@[simp] theorem State.setStraps_mc (s : State) (x) : (s.setStraps x).mc = s.mc := rfl
@[simp] theorem State.setStraps_da (s : State) (x) : (s.setStraps x).da = s.da := rfl
@[simp] theorem State.setStraps_ae (s : State) (x) : (s.setStraps x).ae = s.ae := rfl
@[simp] theorem State.setStraps_fg (s : State) (x) : (s.setStraps x).fg = s.fg := rfl
@[simp] theorem State.setStraps_preheat (s : State) (x) : (s.setStraps x).preheat = s.preheat := rfl
@[simp] theorem State.setStraps_damper (s : State) (x) : (s.setStraps x).damper = s.damper := rfl
@[simp] theorem State.setStraps_hm (s : State) (x) : (s.setStraps x).hm = s.hm := rfl
@[simp] theorem State.setStraps_fm (s : State) (x) : (s.setStraps x).fm = s.fm := rfl
@[simp] theorem State.setStraps_season (s : State) (x) : (s.setStraps x).season = s.season := rfl
@[simp] theorem State.setStraps_rl (s : State) (x) : (s.setStraps x).rl = s.rl := rfl
@[simp] theorem State.setStraps_lp (s : State) (x) : (s.setStraps x).lp = s.lp := rfl
@[simp] theorem State.setStraps_eu (s : State) (x) : (s.setStraps x).eu = s.eu := rfl
@[simp] theorem State.setStraps_ss (s : State) (x) : (s.setStraps x).ss = s.ss := rfl
@[simp] theorem State.setStraps_freeCount (s : State) (x) : (s.setStraps x).freeCount = s.freeCount := rfl
@[simp] theorem State.setStraps_pending (s : State) (x) : (s.setStraps x).pending = s.pending := rfl

/-! ## `setMc` -/

@[simp] theorem State.setMc_self (s : State) : s.setMc s.mc = s := rfl
@[simp] theorem State.setMc_setMc (s : State) (x y) : (s.setMc x).setMc y = s.setMc y := rfl
@[simp] theorem State.setMc_phase (s : State) (x) : (s.setMc x).phase = s.phase := rfl
@[simp] theorem State.setMc_resetPin (s : State) (x) : (s.setMc x).resetPin = s.resetPin := rfl
@[simp] theorem State.setMc_straps (s : State) (x) : (s.setMc x).straps = s.straps := rfl
@[simp] theorem State.setMc_mc (s : State) (x) : (s.setMc x).mc = x := rfl
@[simp] theorem State.setMc_da (s : State) (x) : (s.setMc x).da = s.da := rfl
@[simp] theorem State.setMc_ae (s : State) (x) : (s.setMc x).ae = s.ae := rfl
@[simp] theorem State.setMc_fg (s : State) (x) : (s.setMc x).fg = s.fg := rfl
@[simp] theorem State.setMc_preheat (s : State) (x) : (s.setMc x).preheat = s.preheat := rfl
@[simp] theorem State.setMc_damper (s : State) (x) : (s.setMc x).damper = s.damper := rfl
@[simp] theorem State.setMc_hm (s : State) (x) : (s.setMc x).hm = s.hm := rfl
@[simp] theorem State.setMc_fm (s : State) (x) : (s.setMc x).fm = s.fm := rfl
@[simp] theorem State.setMc_season (s : State) (x) : (s.setMc x).season = s.season := rfl
@[simp] theorem State.setMc_rl (s : State) (x) : (s.setMc x).rl = s.rl := rfl
@[simp] theorem State.setMc_lp (s : State) (x) : (s.setMc x).lp = s.lp := rfl
@[simp] theorem State.setMc_eu (s : State) (x) : (s.setMc x).eu = s.eu := rfl
@[simp] theorem State.setMc_ss (s : State) (x) : (s.setMc x).ss = s.ss := rfl
@[simp] theorem State.setMc_freeCount (s : State) (x) : (s.setMc x).freeCount = s.freeCount := rfl
@[simp] theorem State.setMc_pending (s : State) (x) : (s.setMc x).pending = s.pending := rfl

/-! ## `setDa` -/

@[simp] theorem State.setDa_self (s : State) : s.setDa s.da = s := rfl
@[simp] theorem State.setDa_setDa (s : State) (x y) : (s.setDa x).setDa y = s.setDa y := rfl
@[simp] theorem State.setDa_phase (s : State) (x) : (s.setDa x).phase = s.phase := rfl
@[simp] theorem State.setDa_resetPin (s : State) (x) : (s.setDa x).resetPin = s.resetPin := rfl
@[simp] theorem State.setDa_straps (s : State) (x) : (s.setDa x).straps = s.straps := rfl
@[simp] theorem State.setDa_mc (s : State) (x) : (s.setDa x).mc = s.mc := rfl
@[simp] theorem State.setDa_da (s : State) (x) : (s.setDa x).da = x := rfl
@[simp] theorem State.setDa_ae (s : State) (x) : (s.setDa x).ae = s.ae := rfl
@[simp] theorem State.setDa_fg (s : State) (x) : (s.setDa x).fg = s.fg := rfl
@[simp] theorem State.setDa_preheat (s : State) (x) : (s.setDa x).preheat = s.preheat := rfl
@[simp] theorem State.setDa_damper (s : State) (x) : (s.setDa x).damper = s.damper := rfl
@[simp] theorem State.setDa_hm (s : State) (x) : (s.setDa x).hm = s.hm := rfl
@[simp] theorem State.setDa_fm (s : State) (x) : (s.setDa x).fm = s.fm := rfl
@[simp] theorem State.setDa_season (s : State) (x) : (s.setDa x).season = s.season := rfl
@[simp] theorem State.setDa_rl (s : State) (x) : (s.setDa x).rl = s.rl := rfl
@[simp] theorem State.setDa_lp (s : State) (x) : (s.setDa x).lp = s.lp := rfl
@[simp] theorem State.setDa_eu (s : State) (x) : (s.setDa x).eu = s.eu := rfl
@[simp] theorem State.setDa_ss (s : State) (x) : (s.setDa x).ss = s.ss := rfl
@[simp] theorem State.setDa_freeCount (s : State) (x) : (s.setDa x).freeCount = s.freeCount := rfl
@[simp] theorem State.setDa_pending (s : State) (x) : (s.setDa x).pending = s.pending := rfl

/-! ## `setAe` -/

@[simp] theorem State.setAe_self (s : State) : s.setAe s.ae = s := rfl
@[simp] theorem State.setAe_setAe (s : State) (x y) : (s.setAe x).setAe y = s.setAe y := rfl
@[simp] theorem State.setAe_phase (s : State) (x) : (s.setAe x).phase = s.phase := rfl
@[simp] theorem State.setAe_resetPin (s : State) (x) : (s.setAe x).resetPin = s.resetPin := rfl
@[simp] theorem State.setAe_straps (s : State) (x) : (s.setAe x).straps = s.straps := rfl
@[simp] theorem State.setAe_mc (s : State) (x) : (s.setAe x).mc = s.mc := rfl
@[simp] theorem State.setAe_da (s : State) (x) : (s.setAe x).da = s.da := rfl
@[simp] theorem State.setAe_ae (s : State) (x) : (s.setAe x).ae = x := rfl
@[simp] theorem State.setAe_fg (s : State) (x) : (s.setAe x).fg = s.fg := rfl
@[simp] theorem State.setAe_preheat (s : State) (x) : (s.setAe x).preheat = s.preheat := rfl
@[simp] theorem State.setAe_damper (s : State) (x) : (s.setAe x).damper = s.damper := rfl
@[simp] theorem State.setAe_hm (s : State) (x) : (s.setAe x).hm = s.hm := rfl
@[simp] theorem State.setAe_fm (s : State) (x) : (s.setAe x).fm = s.fm := rfl
@[simp] theorem State.setAe_season (s : State) (x) : (s.setAe x).season = s.season := rfl
@[simp] theorem State.setAe_rl (s : State) (x) : (s.setAe x).rl = s.rl := rfl
@[simp] theorem State.setAe_lp (s : State) (x) : (s.setAe x).lp = s.lp := rfl
@[simp] theorem State.setAe_eu (s : State) (x) : (s.setAe x).eu = s.eu := rfl
@[simp] theorem State.setAe_ss (s : State) (x) : (s.setAe x).ss = s.ss := rfl
@[simp] theorem State.setAe_freeCount (s : State) (x) : (s.setAe x).freeCount = s.freeCount := rfl
@[simp] theorem State.setAe_pending (s : State) (x) : (s.setAe x).pending = s.pending := rfl

/-! ## `setFg` -/

@[simp] theorem State.setFg_self (s : State) : s.setFg s.fg = s := rfl
@[simp] theorem State.setFg_setFg (s : State) (x y) : (s.setFg x).setFg y = s.setFg y := rfl
@[simp] theorem State.setFg_phase (s : State) (x) : (s.setFg x).phase = s.phase := rfl
@[simp] theorem State.setFg_resetPin (s : State) (x) : (s.setFg x).resetPin = s.resetPin := rfl
@[simp] theorem State.setFg_straps (s : State) (x) : (s.setFg x).straps = s.straps := rfl
@[simp] theorem State.setFg_mc (s : State) (x) : (s.setFg x).mc = s.mc := rfl
@[simp] theorem State.setFg_da (s : State) (x) : (s.setFg x).da = s.da := rfl
@[simp] theorem State.setFg_ae (s : State) (x) : (s.setFg x).ae = s.ae := rfl
@[simp] theorem State.setFg_fg (s : State) (x) : (s.setFg x).fg = x := rfl
@[simp] theorem State.setFg_preheat (s : State) (x) : (s.setFg x).preheat = s.preheat := rfl
@[simp] theorem State.setFg_damper (s : State) (x) : (s.setFg x).damper = s.damper := rfl
@[simp] theorem State.setFg_hm (s : State) (x) : (s.setFg x).hm = s.hm := rfl
@[simp] theorem State.setFg_fm (s : State) (x) : (s.setFg x).fm = s.fm := rfl
@[simp] theorem State.setFg_season (s : State) (x) : (s.setFg x).season = s.season := rfl
@[simp] theorem State.setFg_rl (s : State) (x) : (s.setFg x).rl = s.rl := rfl
@[simp] theorem State.setFg_lp (s : State) (x) : (s.setFg x).lp = s.lp := rfl
@[simp] theorem State.setFg_eu (s : State) (x) : (s.setFg x).eu = s.eu := rfl
@[simp] theorem State.setFg_ss (s : State) (x) : (s.setFg x).ss = s.ss := rfl
@[simp] theorem State.setFg_freeCount (s : State) (x) : (s.setFg x).freeCount = s.freeCount := rfl
@[simp] theorem State.setFg_pending (s : State) (x) : (s.setFg x).pending = s.pending := rfl

/-! ## `setPreheat` -/

@[simp] theorem State.setPreheat_self (s : State) : s.setPreheat s.preheat = s := rfl
@[simp] theorem State.setPreheat_setPreheat (s : State) (x y) : (s.setPreheat x).setPreheat y = s.setPreheat y := rfl
@[simp] theorem State.setPreheat_phase (s : State) (x) : (s.setPreheat x).phase = s.phase := rfl
@[simp] theorem State.setPreheat_resetPin (s : State) (x) : (s.setPreheat x).resetPin = s.resetPin := rfl
@[simp] theorem State.setPreheat_straps (s : State) (x) : (s.setPreheat x).straps = s.straps := rfl
@[simp] theorem State.setPreheat_mc (s : State) (x) : (s.setPreheat x).mc = s.mc := rfl
@[simp] theorem State.setPreheat_da (s : State) (x) : (s.setPreheat x).da = s.da := rfl
@[simp] theorem State.setPreheat_ae (s : State) (x) : (s.setPreheat x).ae = s.ae := rfl
@[simp] theorem State.setPreheat_fg (s : State) (x) : (s.setPreheat x).fg = s.fg := rfl
@[simp] theorem State.setPreheat_preheat (s : State) (x) : (s.setPreheat x).preheat = x := rfl
@[simp] theorem State.setPreheat_damper (s : State) (x) : (s.setPreheat x).damper = s.damper := rfl
@[simp] theorem State.setPreheat_hm (s : State) (x) : (s.setPreheat x).hm = s.hm := rfl
@[simp] theorem State.setPreheat_fm (s : State) (x) : (s.setPreheat x).fm = s.fm := rfl
@[simp] theorem State.setPreheat_season (s : State) (x) : (s.setPreheat x).season = s.season := rfl
@[simp] theorem State.setPreheat_rl (s : State) (x) : (s.setPreheat x).rl = s.rl := rfl
@[simp] theorem State.setPreheat_lp (s : State) (x) : (s.setPreheat x).lp = s.lp := rfl
@[simp] theorem State.setPreheat_eu (s : State) (x) : (s.setPreheat x).eu = s.eu := rfl
@[simp] theorem State.setPreheat_ss (s : State) (x) : (s.setPreheat x).ss = s.ss := rfl
@[simp] theorem State.setPreheat_freeCount (s : State) (x) : (s.setPreheat x).freeCount = s.freeCount := rfl
@[simp] theorem State.setPreheat_pending (s : State) (x) : (s.setPreheat x).pending = s.pending := rfl

/-! ## `setDamper` -/

@[simp] theorem State.setDamper_self (s : State) : s.setDamper s.damper = s := rfl
@[simp] theorem State.setDamper_setDamper (s : State) (x y) : (s.setDamper x).setDamper y = s.setDamper y := rfl
@[simp] theorem State.setDamper_phase (s : State) (x) : (s.setDamper x).phase = s.phase := rfl
@[simp] theorem State.setDamper_resetPin (s : State) (x) : (s.setDamper x).resetPin = s.resetPin := rfl
@[simp] theorem State.setDamper_straps (s : State) (x) : (s.setDamper x).straps = s.straps := rfl
@[simp] theorem State.setDamper_mc (s : State) (x) : (s.setDamper x).mc = s.mc := rfl
@[simp] theorem State.setDamper_da (s : State) (x) : (s.setDamper x).da = s.da := rfl
@[simp] theorem State.setDamper_ae (s : State) (x) : (s.setDamper x).ae = s.ae := rfl
@[simp] theorem State.setDamper_fg (s : State) (x) : (s.setDamper x).fg = s.fg := rfl
@[simp] theorem State.setDamper_preheat (s : State) (x) : (s.setDamper x).preheat = s.preheat := rfl
@[simp] theorem State.setDamper_damper (s : State) (x) : (s.setDamper x).damper = x := rfl
@[simp] theorem State.setDamper_hm (s : State) (x) : (s.setDamper x).hm = s.hm := rfl
@[simp] theorem State.setDamper_fm (s : State) (x) : (s.setDamper x).fm = s.fm := rfl
@[simp] theorem State.setDamper_season (s : State) (x) : (s.setDamper x).season = s.season := rfl
@[simp] theorem State.setDamper_rl (s : State) (x) : (s.setDamper x).rl = s.rl := rfl
@[simp] theorem State.setDamper_lp (s : State) (x) : (s.setDamper x).lp = s.lp := rfl
@[simp] theorem State.setDamper_eu (s : State) (x) : (s.setDamper x).eu = s.eu := rfl
@[simp] theorem State.setDamper_ss (s : State) (x) : (s.setDamper x).ss = s.ss := rfl
@[simp] theorem State.setDamper_freeCount (s : State) (x) : (s.setDamper x).freeCount = s.freeCount := rfl
@[simp] theorem State.setDamper_pending (s : State) (x) : (s.setDamper x).pending = s.pending := rfl

/-! ## `setHm` -/

@[simp] theorem State.setHm_self (s : State) : s.setHm s.hm = s := rfl
@[simp] theorem State.setHm_setHm (s : State) (x y) : (s.setHm x).setHm y = s.setHm y := rfl
@[simp] theorem State.setHm_phase (s : State) (x) : (s.setHm x).phase = s.phase := rfl
@[simp] theorem State.setHm_resetPin (s : State) (x) : (s.setHm x).resetPin = s.resetPin := rfl
@[simp] theorem State.setHm_straps (s : State) (x) : (s.setHm x).straps = s.straps := rfl
@[simp] theorem State.setHm_mc (s : State) (x) : (s.setHm x).mc = s.mc := rfl
@[simp] theorem State.setHm_da (s : State) (x) : (s.setHm x).da = s.da := rfl
@[simp] theorem State.setHm_ae (s : State) (x) : (s.setHm x).ae = s.ae := rfl
@[simp] theorem State.setHm_fg (s : State) (x) : (s.setHm x).fg = s.fg := rfl
@[simp] theorem State.setHm_preheat (s : State) (x) : (s.setHm x).preheat = s.preheat := rfl
@[simp] theorem State.setHm_damper (s : State) (x) : (s.setHm x).damper = s.damper := rfl
@[simp] theorem State.setHm_hm (s : State) (x) : (s.setHm x).hm = x := rfl
@[simp] theorem State.setHm_fm (s : State) (x) : (s.setHm x).fm = s.fm := rfl
@[simp] theorem State.setHm_season (s : State) (x) : (s.setHm x).season = s.season := rfl
@[simp] theorem State.setHm_rl (s : State) (x) : (s.setHm x).rl = s.rl := rfl
@[simp] theorem State.setHm_lp (s : State) (x) : (s.setHm x).lp = s.lp := rfl
@[simp] theorem State.setHm_eu (s : State) (x) : (s.setHm x).eu = s.eu := rfl
@[simp] theorem State.setHm_ss (s : State) (x) : (s.setHm x).ss = s.ss := rfl
@[simp] theorem State.setHm_freeCount (s : State) (x) : (s.setHm x).freeCount = s.freeCount := rfl
@[simp] theorem State.setHm_pending (s : State) (x) : (s.setHm x).pending = s.pending := rfl

/-! ## `setFm` -/

@[simp] theorem State.setFm_self (s : State) : s.setFm s.fm = s := rfl
@[simp] theorem State.setFm_setFm (s : State) (x y) : (s.setFm x).setFm y = s.setFm y := rfl
@[simp] theorem State.setFm_phase (s : State) (x) : (s.setFm x).phase = s.phase := rfl
@[simp] theorem State.setFm_resetPin (s : State) (x) : (s.setFm x).resetPin = s.resetPin := rfl
@[simp] theorem State.setFm_straps (s : State) (x) : (s.setFm x).straps = s.straps := rfl
@[simp] theorem State.setFm_mc (s : State) (x) : (s.setFm x).mc = s.mc := rfl
@[simp] theorem State.setFm_da (s : State) (x) : (s.setFm x).da = s.da := rfl
@[simp] theorem State.setFm_ae (s : State) (x) : (s.setFm x).ae = s.ae := rfl
@[simp] theorem State.setFm_fg (s : State) (x) : (s.setFm x).fg = s.fg := rfl
@[simp] theorem State.setFm_preheat (s : State) (x) : (s.setFm x).preheat = s.preheat := rfl
@[simp] theorem State.setFm_damper (s : State) (x) : (s.setFm x).damper = s.damper := rfl
@[simp] theorem State.setFm_hm (s : State) (x) : (s.setFm x).hm = s.hm := rfl
@[simp] theorem State.setFm_fm (s : State) (x) : (s.setFm x).fm = x := rfl
@[simp] theorem State.setFm_season (s : State) (x) : (s.setFm x).season = s.season := rfl
@[simp] theorem State.setFm_rl (s : State) (x) : (s.setFm x).rl = s.rl := rfl
@[simp] theorem State.setFm_lp (s : State) (x) : (s.setFm x).lp = s.lp := rfl
@[simp] theorem State.setFm_eu (s : State) (x) : (s.setFm x).eu = s.eu := rfl
@[simp] theorem State.setFm_ss (s : State) (x) : (s.setFm x).ss = s.ss := rfl
@[simp] theorem State.setFm_freeCount (s : State) (x) : (s.setFm x).freeCount = s.freeCount := rfl
@[simp] theorem State.setFm_pending (s : State) (x) : (s.setFm x).pending = s.pending := rfl

/-! ## `setSeason` -/

@[simp] theorem State.setSeason_self (s : State) : s.setSeason s.season = s := rfl
@[simp] theorem State.setSeason_setSeason (s : State) (x y) : (s.setSeason x).setSeason y = s.setSeason y := rfl
@[simp] theorem State.setSeason_phase (s : State) (x) : (s.setSeason x).phase = s.phase := rfl
@[simp] theorem State.setSeason_resetPin (s : State) (x) : (s.setSeason x).resetPin = s.resetPin := rfl
@[simp] theorem State.setSeason_straps (s : State) (x) : (s.setSeason x).straps = s.straps := rfl
@[simp] theorem State.setSeason_mc (s : State) (x) : (s.setSeason x).mc = s.mc := rfl
@[simp] theorem State.setSeason_da (s : State) (x) : (s.setSeason x).da = s.da := rfl
@[simp] theorem State.setSeason_ae (s : State) (x) : (s.setSeason x).ae = s.ae := rfl
@[simp] theorem State.setSeason_fg (s : State) (x) : (s.setSeason x).fg = s.fg := rfl
@[simp] theorem State.setSeason_preheat (s : State) (x) : (s.setSeason x).preheat = s.preheat := rfl
@[simp] theorem State.setSeason_damper (s : State) (x) : (s.setSeason x).damper = s.damper := rfl
@[simp] theorem State.setSeason_hm (s : State) (x) : (s.setSeason x).hm = s.hm := rfl
@[simp] theorem State.setSeason_fm (s : State) (x) : (s.setSeason x).fm = s.fm := rfl
@[simp] theorem State.setSeason_season (s : State) (x) : (s.setSeason x).season = x := rfl
@[simp] theorem State.setSeason_rl (s : State) (x) : (s.setSeason x).rl = s.rl := rfl
@[simp] theorem State.setSeason_lp (s : State) (x) : (s.setSeason x).lp = s.lp := rfl
@[simp] theorem State.setSeason_eu (s : State) (x) : (s.setSeason x).eu = s.eu := rfl
@[simp] theorem State.setSeason_ss (s : State) (x) : (s.setSeason x).ss = s.ss := rfl
@[simp] theorem State.setSeason_freeCount (s : State) (x) : (s.setSeason x).freeCount = s.freeCount := rfl
@[simp] theorem State.setSeason_pending (s : State) (x) : (s.setSeason x).pending = s.pending := rfl

/-! ## `setRl` -/

@[simp] theorem State.setRl_self (s : State) : s.setRl s.rl = s := rfl
@[simp] theorem State.setRl_setRl (s : State) (x y) : (s.setRl x).setRl y = s.setRl y := rfl
@[simp] theorem State.setRl_phase (s : State) (x) : (s.setRl x).phase = s.phase := rfl
@[simp] theorem State.setRl_resetPin (s : State) (x) : (s.setRl x).resetPin = s.resetPin := rfl
@[simp] theorem State.setRl_straps (s : State) (x) : (s.setRl x).straps = s.straps := rfl
@[simp] theorem State.setRl_mc (s : State) (x) : (s.setRl x).mc = s.mc := rfl
@[simp] theorem State.setRl_da (s : State) (x) : (s.setRl x).da = s.da := rfl
@[simp] theorem State.setRl_ae (s : State) (x) : (s.setRl x).ae = s.ae := rfl
@[simp] theorem State.setRl_fg (s : State) (x) : (s.setRl x).fg = s.fg := rfl
@[simp] theorem State.setRl_preheat (s : State) (x) : (s.setRl x).preheat = s.preheat := rfl
@[simp] theorem State.setRl_damper (s : State) (x) : (s.setRl x).damper = s.damper := rfl
@[simp] theorem State.setRl_hm (s : State) (x) : (s.setRl x).hm = s.hm := rfl
@[simp] theorem State.setRl_fm (s : State) (x) : (s.setRl x).fm = s.fm := rfl
@[simp] theorem State.setRl_season (s : State) (x) : (s.setRl x).season = s.season := rfl
@[simp] theorem State.setRl_rl (s : State) (x) : (s.setRl x).rl = x := rfl
@[simp] theorem State.setRl_lp (s : State) (x) : (s.setRl x).lp = s.lp := rfl
@[simp] theorem State.setRl_eu (s : State) (x) : (s.setRl x).eu = s.eu := rfl
@[simp] theorem State.setRl_ss (s : State) (x) : (s.setRl x).ss = s.ss := rfl
@[simp] theorem State.setRl_freeCount (s : State) (x) : (s.setRl x).freeCount = s.freeCount := rfl
@[simp] theorem State.setRl_pending (s : State) (x) : (s.setRl x).pending = s.pending := rfl

/-! ## `setLp` -/

@[simp] theorem State.setLp_self (s : State) : s.setLp s.lp = s := rfl
@[simp] theorem State.setLp_setLp (s : State) (x y) : (s.setLp x).setLp y = s.setLp y := rfl
@[simp] theorem State.setLp_phase (s : State) (x) : (s.setLp x).phase = s.phase := rfl
@[simp] theorem State.setLp_resetPin (s : State) (x) : (s.setLp x).resetPin = s.resetPin := rfl
@[simp] theorem State.setLp_straps (s : State) (x) : (s.setLp x).straps = s.straps := rfl
@[simp] theorem State.setLp_mc (s : State) (x) : (s.setLp x).mc = s.mc := rfl
@[simp] theorem State.setLp_da (s : State) (x) : (s.setLp x).da = s.da := rfl
@[simp] theorem State.setLp_ae (s : State) (x) : (s.setLp x).ae = s.ae := rfl
@[simp] theorem State.setLp_fg (s : State) (x) : (s.setLp x).fg = s.fg := rfl
@[simp] theorem State.setLp_preheat (s : State) (x) : (s.setLp x).preheat = s.preheat := rfl
@[simp] theorem State.setLp_damper (s : State) (x) : (s.setLp x).damper = s.damper := rfl
@[simp] theorem State.setLp_hm (s : State) (x) : (s.setLp x).hm = s.hm := rfl
@[simp] theorem State.setLp_fm (s : State) (x) : (s.setLp x).fm = s.fm := rfl
@[simp] theorem State.setLp_season (s : State) (x) : (s.setLp x).season = s.season := rfl
@[simp] theorem State.setLp_rl (s : State) (x) : (s.setLp x).rl = s.rl := rfl
@[simp] theorem State.setLp_lp (s : State) (x) : (s.setLp x).lp = x := rfl
@[simp] theorem State.setLp_eu (s : State) (x) : (s.setLp x).eu = s.eu := rfl
@[simp] theorem State.setLp_ss (s : State) (x) : (s.setLp x).ss = s.ss := rfl
@[simp] theorem State.setLp_freeCount (s : State) (x) : (s.setLp x).freeCount = s.freeCount := rfl
@[simp] theorem State.setLp_pending (s : State) (x) : (s.setLp x).pending = s.pending := rfl

/-! ## `setEu` -/

@[simp] theorem State.setEu_self (s : State) : s.setEu s.eu = s := rfl
@[simp] theorem State.setEu_setEu (s : State) (x y) : (s.setEu x).setEu y = s.setEu y := rfl
@[simp] theorem State.setEu_phase (s : State) (x) : (s.setEu x).phase = s.phase := rfl
@[simp] theorem State.setEu_resetPin (s : State) (x) : (s.setEu x).resetPin = s.resetPin := rfl
@[simp] theorem State.setEu_straps (s : State) (x) : (s.setEu x).straps = s.straps := rfl
@[simp] theorem State.setEu_mc (s : State) (x) : (s.setEu x).mc = s.mc := rfl
@[simp] theorem State.setEu_da (s : State) (x) : (s.setEu x).da = s.da := rfl
@[simp] theorem State.setEu_ae (s : State) (x) : (s.setEu x).ae = s.ae := rfl
@[simp] theorem State.setEu_fg (s : State) (x) : (s.setEu x).fg = s.fg := rfl
@[simp] theorem State.setEu_preheat (s : State) (x) : (s.setEu x).preheat = s.preheat := rfl
@[simp] theorem State.setEu_damper (s : State) (x) : (s.setEu x).damper = s.damper := rfl
@[simp] theorem State.setEu_hm (s : State) (x) : (s.setEu x).hm = s.hm := rfl
@[simp] theorem State.setEu_fm (s : State) (x) : (s.setEu x).fm = s.fm := rfl
@[simp] theorem State.setEu_season (s : State) (x) : (s.setEu x).season = s.season := rfl
@[simp] theorem State.setEu_rl (s : State) (x) : (s.setEu x).rl = s.rl := rfl
@[simp] theorem State.setEu_lp (s : State) (x) : (s.setEu x).lp = s.lp := rfl
@[simp] theorem State.setEu_eu (s : State) (x) : (s.setEu x).eu = x := rfl
@[simp] theorem State.setEu_ss (s : State) (x) : (s.setEu x).ss = s.ss := rfl
@[simp] theorem State.setEu_freeCount (s : State) (x) : (s.setEu x).freeCount = s.freeCount := rfl
@[simp] theorem State.setEu_pending (s : State) (x) : (s.setEu x).pending = s.pending := rfl

/-! ## `setSs` -/

@[simp] theorem State.setSs_self (s : State) : s.setSs s.ss = s := rfl
@[simp] theorem State.setSs_setSs (s : State) (x y) : (s.setSs x).setSs y = s.setSs y := rfl
@[simp] theorem State.setSs_phase (s : State) (x) : (s.setSs x).phase = s.phase := rfl
@[simp] theorem State.setSs_resetPin (s : State) (x) : (s.setSs x).resetPin = s.resetPin := rfl
@[simp] theorem State.setSs_straps (s : State) (x) : (s.setSs x).straps = s.straps := rfl
@[simp] theorem State.setSs_mc (s : State) (x) : (s.setSs x).mc = s.mc := rfl
@[simp] theorem State.setSs_da (s : State) (x) : (s.setSs x).da = s.da := rfl
@[simp] theorem State.setSs_ae (s : State) (x) : (s.setSs x).ae = s.ae := rfl
@[simp] theorem State.setSs_fg (s : State) (x) : (s.setSs x).fg = s.fg := rfl
@[simp] theorem State.setSs_preheat (s : State) (x) : (s.setSs x).preheat = s.preheat := rfl
@[simp] theorem State.setSs_damper (s : State) (x) : (s.setSs x).damper = s.damper := rfl
@[simp] theorem State.setSs_hm (s : State) (x) : (s.setSs x).hm = s.hm := rfl
@[simp] theorem State.setSs_fm (s : State) (x) : (s.setSs x).fm = s.fm := rfl
@[simp] theorem State.setSs_season (s : State) (x) : (s.setSs x).season = s.season := rfl
@[simp] theorem State.setSs_rl (s : State) (x) : (s.setSs x).rl = s.rl := rfl
@[simp] theorem State.setSs_lp (s : State) (x) : (s.setSs x).lp = s.lp := rfl
@[simp] theorem State.setSs_eu (s : State) (x) : (s.setSs x).eu = s.eu := rfl
@[simp] theorem State.setSs_ss (s : State) (x) : (s.setSs x).ss = x := rfl
@[simp] theorem State.setSs_freeCount (s : State) (x) : (s.setSs x).freeCount = s.freeCount := rfl
@[simp] theorem State.setSs_pending (s : State) (x) : (s.setSs x).pending = s.pending := rfl

/-! ## `setFreeCount` -/

@[simp] theorem State.setFreeCount_self (s : State) : s.setFreeCount s.freeCount = s := rfl
@[simp] theorem State.setFreeCount_setFreeCount (s : State) (x y) : (s.setFreeCount x).setFreeCount y = s.setFreeCount y := rfl
@[simp] theorem State.setFreeCount_phase (s : State) (x) : (s.setFreeCount x).phase = s.phase := rfl
@[simp] theorem State.setFreeCount_resetPin (s : State) (x) : (s.setFreeCount x).resetPin = s.resetPin := rfl
@[simp] theorem State.setFreeCount_straps (s : State) (x) : (s.setFreeCount x).straps = s.straps := rfl
@[simp] theorem State.setFreeCount_mc (s : State) (x) : (s.setFreeCount x).mc = s.mc := rfl
@[simp] theorem State.setFreeCount_da (s : State) (x) : (s.setFreeCount x).da = s.da := rfl
@[simp] theorem State.setFreeCount_ae (s : State) (x) : (s.setFreeCount x).ae = s.ae := rfl
@[simp] theorem State.setFreeCount_fg (s : State) (x) : (s.setFreeCount x).fg = s.fg := rfl
@[simp] theorem State.setFreeCount_preheat (s : State) (x) : (s.setFreeCount x).preheat = s.preheat := rfl
@[simp] theorem State.setFreeCount_damper (s : State) (x) : (s.setFreeCount x).damper = s.damper := rfl
@[simp] theorem State.setFreeCount_hm (s : State) (x) : (s.setFreeCount x).hm = s.hm := rfl
@[simp] theorem State.setFreeCount_fm (s : State) (x) : (s.setFreeCount x).fm = s.fm := rfl
@[simp] theorem State.setFreeCount_season (s : State) (x) : (s.setFreeCount x).season = s.season := rfl
@[simp] theorem State.setFreeCount_rl (s : State) (x) : (s.setFreeCount x).rl = s.rl := rfl
@[simp] theorem State.setFreeCount_lp (s : State) (x) : (s.setFreeCount x).lp = s.lp := rfl
@[simp] theorem State.setFreeCount_eu (s : State) (x) : (s.setFreeCount x).eu = s.eu := rfl
@[simp] theorem State.setFreeCount_ss (s : State) (x) : (s.setFreeCount x).ss = s.ss := rfl
@[simp] theorem State.setFreeCount_freeCount (s : State) (x) : (s.setFreeCount x).freeCount = x := rfl
@[simp] theorem State.setFreeCount_pending (s : State) (x) : (s.setFreeCount x).pending = s.pending := rfl

/-! ## `setPending` -/

@[simp] theorem State.setPending_self (s : State) : s.setPending s.pending = s := rfl
@[simp] theorem State.setPending_setPending (s : State) (x y) : (s.setPending x).setPending y = s.setPending y := rfl
@[simp] theorem State.setPending_phase (s : State) (x) : (s.setPending x).phase = s.phase := rfl
@[simp] theorem State.setPending_resetPin (s : State) (x) : (s.setPending x).resetPin = s.resetPin := rfl
@[simp] theorem State.setPending_straps (s : State) (x) : (s.setPending x).straps = s.straps := rfl
@[simp] theorem State.setPending_mc (s : State) (x) : (s.setPending x).mc = s.mc := rfl
@[simp] theorem State.setPending_da (s : State) (x) : (s.setPending x).da = s.da := rfl
@[simp] theorem State.setPending_ae (s : State) (x) : (s.setPending x).ae = s.ae := rfl
@[simp] theorem State.setPending_fg (s : State) (x) : (s.setPending x).fg = s.fg := rfl
@[simp] theorem State.setPending_preheat (s : State) (x) : (s.setPending x).preheat = s.preheat := rfl
@[simp] theorem State.setPending_damper (s : State) (x) : (s.setPending x).damper = s.damper := rfl
@[simp] theorem State.setPending_hm (s : State) (x) : (s.setPending x).hm = s.hm := rfl
@[simp] theorem State.setPending_fm (s : State) (x) : (s.setPending x).fm = s.fm := rfl
@[simp] theorem State.setPending_season (s : State) (x) : (s.setPending x).season = s.season := rfl
@[simp] theorem State.setPending_rl (s : State) (x) : (s.setPending x).rl = s.rl := rfl
@[simp] theorem State.setPending_lp (s : State) (x) : (s.setPending x).lp = s.lp := rfl
@[simp] theorem State.setPending_eu (s : State) (x) : (s.setPending x).eu = s.eu := rfl
@[simp] theorem State.setPending_ss (s : State) (x) : (s.setPending x).ss = s.ss := rfl
@[simp] theorem State.setPending_freeCount (s : State) (x) : (s.setPending x).freeCount = s.freeCount := rfl
@[simp] theorem State.setPending_pending (s : State) (x) : (s.setPending x).pending = x := rfl

end Sys2Proof.Machine
end

