-- ==== Sys2Proof/Laws/Frame.lean ====
section
/-! SUPPORT. The frame of each shared operation of the state: the fields that it leaves as they are. -/

namespace Sys2Proof.Machine

/-! ## `raise` -/

@[simp] theorem State.raise_phase (s : State) (f : Flag) : (s.raise f).phase = s.phase := rfl
@[simp] theorem State.raise_resetPin (s : State) (f : Flag) : (s.raise f).resetPin = s.resetPin := rfl
@[simp] theorem State.raise_straps (s : State) (f : Flag) : (s.raise f).straps = s.straps := rfl
@[simp] theorem State.raise_mc (s : State) (f : Flag) : (s.raise f).mc = s.mc := rfl
@[simp] theorem State.raise_da (s : State) (f : Flag) : (s.raise f).da = s.da := rfl
@[simp] theorem State.raise_ae (s : State) (f : Flag) : (s.raise f).ae = s.ae := rfl
@[simp] theorem State.raise_fg (s : State) (f : Flag) : (s.raise f).fg = s.fg := rfl
@[simp] theorem State.raise_preheat (s : State) (f : Flag) : (s.raise f).preheat = s.preheat := rfl
@[simp] theorem State.raise_damper (s : State) (f : Flag) : (s.raise f).damper = s.damper := rfl
@[simp] theorem State.raise_hm (s : State) (f : Flag) : (s.raise f).hm = s.hm := rfl
@[simp] theorem State.raise_fm (s : State) (f : Flag) : (s.raise f).fm = s.fm := rfl
@[simp] theorem State.raise_season (s : State) (f : Flag) : (s.raise f).season = s.season := rfl
@[simp] theorem State.raise_rl (s : State) (f : Flag) : (s.raise f).rl = s.rl := rfl
@[simp] theorem State.raise_lp (s : State) (f : Flag) : (s.raise f).lp = s.lp := rfl
@[simp] theorem State.raise_ss (s : State) (f : Flag) : (s.raise f).ss = s.ss := rfl
@[simp] theorem State.raise_freeCount (s : State) (f : Flag) : (s.raise f).freeCount = s.freeCount := rfl
@[simp] theorem State.raise_pending (s : State) (f : Flag) : (s.raise f).pending = s.pending := rfl

/-! ## `count` -/

@[simp] theorem State.count_phase (s : State) (c : Counter) : (s.count c).phase = s.phase := rfl
@[simp] theorem State.count_resetPin (s : State) (c : Counter) : (s.count c).resetPin = s.resetPin := rfl
@[simp] theorem State.count_straps (s : State) (c : Counter) : (s.count c).straps = s.straps := rfl
@[simp] theorem State.count_mc (s : State) (c : Counter) : (s.count c).mc = s.mc := rfl
@[simp] theorem State.count_da (s : State) (c : Counter) : (s.count c).da = s.da := rfl
@[simp] theorem State.count_ae (s : State) (c : Counter) : (s.count c).ae = s.ae := rfl
@[simp] theorem State.count_fg (s : State) (c : Counter) : (s.count c).fg = s.fg := rfl
@[simp] theorem State.count_preheat (s : State) (c : Counter) : (s.count c).preheat = s.preheat := rfl
@[simp] theorem State.count_damper (s : State) (c : Counter) : (s.count c).damper = s.damper := rfl
@[simp] theorem State.count_hm (s : State) (c : Counter) : (s.count c).hm = s.hm := rfl
@[simp] theorem State.count_fm (s : State) (c : Counter) : (s.count c).fm = s.fm := rfl
@[simp] theorem State.count_season (s : State) (c : Counter) : (s.count c).season = s.season := rfl
@[simp] theorem State.count_rl (s : State) (c : Counter) : (s.count c).rl = s.rl := rfl
@[simp] theorem State.count_lp (s : State) (c : Counter) : (s.count c).lp = s.lp := rfl
@[simp] theorem State.count_ss (s : State) (c : Counter) : (s.count c).ss = s.ss := rfl
@[simp] theorem State.count_freeCount (s : State) (c : Counter) : (s.count c).freeCount = s.freeCount := rfl
@[simp] theorem State.count_pending (s : State) (c : Counter) : (s.count c).pending = s.pending := rfl

/-! ## `replan` -/

@[simp] theorem State.replan_phase (s : State) : (s.replan).phase = s.phase := rfl
@[simp] theorem State.replan_resetPin (s : State) : (s.replan).resetPin = s.resetPin := rfl
@[simp] theorem State.replan_straps (s : State) : (s.replan).straps = s.straps := rfl
@[simp] theorem State.replan_mc (s : State) : (s.replan).mc = s.mc := rfl
@[simp] theorem State.replan_ae (s : State) : (s.replan).ae = s.ae := rfl
@[simp] theorem State.replan_fg (s : State) : (s.replan).fg = s.fg := rfl
@[simp] theorem State.replan_preheat (s : State) : (s.replan).preheat = s.preheat := rfl
@[simp] theorem State.replan_damper (s : State) : (s.replan).damper = s.damper := rfl
@[simp] theorem State.replan_hm (s : State) : (s.replan).hm = s.hm := rfl
@[simp] theorem State.replan_fm (s : State) : (s.replan).fm = s.fm := rfl
@[simp] theorem State.replan_season (s : State) : (s.replan).season = s.season := rfl
@[simp] theorem State.replan_rl (s : State) : (s.replan).rl = s.rl := rfl
@[simp] theorem State.replan_lp (s : State) : (s.replan).lp = s.lp := rfl
@[simp] theorem State.replan_eu (s : State) : (s.replan).eu = s.eu := rfl
@[simp] theorem State.replan_ss (s : State) : (s.replan).ss = s.ss := rfl
@[simp] theorem State.replan_freeCount (s : State) : (s.replan).freeCount = s.freeCount := rfl
@[simp] theorem State.replan_pending (s : State) : (s.replan).pending = s.pending := rfl

/-! ## `recomputeCeiling` -/

@[simp] theorem State.recomputeCeiling_phase (s : State) : (s.recomputeCeiling).phase = s.phase := rfl
@[simp] theorem State.recomputeCeiling_resetPin (s : State) : (s.recomputeCeiling).resetPin = s.resetPin := rfl
@[simp] theorem State.recomputeCeiling_straps (s : State) : (s.recomputeCeiling).straps = s.straps := rfl
@[simp] theorem State.recomputeCeiling_mc (s : State) : (s.recomputeCeiling).mc = s.mc := rfl
@[simp] theorem State.recomputeCeiling_ae (s : State) : (s.recomputeCeiling).ae = s.ae := rfl
@[simp] theorem State.recomputeCeiling_fg (s : State) : (s.recomputeCeiling).fg = s.fg := rfl
@[simp] theorem State.recomputeCeiling_preheat (s : State) : (s.recomputeCeiling).preheat = s.preheat := rfl
@[simp] theorem State.recomputeCeiling_damper (s : State) : (s.recomputeCeiling).damper = s.damper := rfl
@[simp] theorem State.recomputeCeiling_hm (s : State) : (s.recomputeCeiling).hm = s.hm := rfl
@[simp] theorem State.recomputeCeiling_fm (s : State) : (s.recomputeCeiling).fm = s.fm := rfl
@[simp] theorem State.recomputeCeiling_season (s : State) : (s.recomputeCeiling).season = s.season := rfl
@[simp] theorem State.recomputeCeiling_rl (s : State) : (s.recomputeCeiling).rl = s.rl := rfl
@[simp] theorem State.recomputeCeiling_lp (s : State) : (s.recomputeCeiling).lp = s.lp := rfl
@[simp] theorem State.recomputeCeiling_eu (s : State) : (s.recomputeCeiling).eu = s.eu := rfl
@[simp] theorem State.recomputeCeiling_ss (s : State) : (s.recomputeCeiling).ss = s.ss := rfl
@[simp] theorem State.recomputeCeiling_freeCount (s : State) : (s.recomputeCeiling).freeCount = s.freeCount := rfl
@[simp] theorem State.recomputeCeiling_pending (s : State) : (s.recomputeCeiling).pending = s.pending := rfl

/-! ## `withTable` -/

@[simp] theorem State.withTable_phase (s : State) (t : DemandTable) : (s.withTable t).phase = s.phase := rfl
@[simp] theorem State.withTable_resetPin (s : State) (t : DemandTable) : (s.withTable t).resetPin = s.resetPin := rfl
@[simp] theorem State.withTable_straps (s : State) (t : DemandTable) : (s.withTable t).straps = s.straps := rfl
@[simp] theorem State.withTable_mc (s : State) (t : DemandTable) : (s.withTable t).mc = s.mc := rfl
@[simp] theorem State.withTable_ae (s : State) (t : DemandTable) : (s.withTable t).ae = s.ae := rfl
@[simp] theorem State.withTable_fg (s : State) (t : DemandTable) : (s.withTable t).fg = s.fg := rfl
@[simp] theorem State.withTable_preheat (s : State) (t : DemandTable) : (s.withTable t).preheat = s.preheat := rfl
@[simp] theorem State.withTable_damper (s : State) (t : DemandTable) : (s.withTable t).damper = s.damper := rfl
@[simp] theorem State.withTable_hm (s : State) (t : DemandTable) : (s.withTable t).hm = s.hm := rfl
@[simp] theorem State.withTable_fm (s : State) (t : DemandTable) : (s.withTable t).fm = s.fm := rfl
@[simp] theorem State.withTable_season (s : State) (t : DemandTable) : (s.withTable t).season = s.season := rfl
@[simp] theorem State.withTable_rl (s : State) (t : DemandTable) : (s.withTable t).rl = s.rl := rfl
@[simp] theorem State.withTable_lp (s : State) (t : DemandTable) : (s.withTable t).lp = s.lp := rfl
@[simp] theorem State.withTable_eu (s : State) (t : DemandTable) : (s.withTable t).eu = s.eu := rfl
@[simp] theorem State.withTable_ss (s : State) (t : DemandTable) : (s.withTable t).ss = s.ss := rfl
@[simp] theorem State.withTable_freeCount (s : State) (t : DemandTable) :
    (s.withTable t).freeCount = s.freeCount := rfl
@[simp] theorem State.withTable_pending (s : State) (t : DemandTable) : (s.withTable t).pending = s.pending := rfl

/-! ## `removeMaster` -/

@[simp] theorem State.removeMaster_phase (s : State) (m : Master) : (s.removeMaster m).phase = s.phase := rfl
@[simp] theorem State.removeMaster_resetPin (s : State) (m : Master) : (s.removeMaster m).resetPin = s.resetPin := rfl
@[simp] theorem State.removeMaster_straps (s : State) (m : Master) : (s.removeMaster m).straps = s.straps := rfl
@[simp] theorem State.removeMaster_mc (s : State) (m : Master) : (s.removeMaster m).mc = s.mc := rfl
@[simp] theorem State.removeMaster_ae (s : State) (m : Master) : (s.removeMaster m).ae = s.ae := rfl
@[simp] theorem State.removeMaster_fg (s : State) (m : Master) : (s.removeMaster m).fg = s.fg := rfl
@[simp] theorem State.removeMaster_preheat (s : State) (m : Master) : (s.removeMaster m).preheat = s.preheat := rfl
@[simp] theorem State.removeMaster_damper (s : State) (m : Master) : (s.removeMaster m).damper = s.damper := rfl
@[simp] theorem State.removeMaster_hm (s : State) (m : Master) : (s.removeMaster m).hm = s.hm := rfl
@[simp] theorem State.removeMaster_fm (s : State) (m : Master) : (s.removeMaster m).fm = s.fm := rfl
@[simp] theorem State.removeMaster_season (s : State) (m : Master) : (s.removeMaster m).season = s.season := rfl
@[simp] theorem State.removeMaster_rl (s : State) (m : Master) : (s.removeMaster m).rl = s.rl := rfl
@[simp] theorem State.removeMaster_lp (s : State) (m : Master) : (s.removeMaster m).lp = s.lp := rfl
@[simp] theorem State.removeMaster_eu (s : State) (m : Master) : (s.removeMaster m).eu = s.eu := rfl
@[simp] theorem State.removeMaster_ss (s : State) (m : Master) : (s.removeMaster m).ss = s.ss := rfl
@[simp] theorem State.removeMaster_freeCount (s : State) (m : Master) :
    (s.removeMaster m).freeCount = s.freeCount := rfl
@[simp] theorem State.removeMaster_pending (s : State) (m : Master) : (s.removeMaster m).pending = s.pending := rfl

/-! ## `withFan` -/

@[simp] theorem State.withFan_phase (s : State) (side : Side) (f : FanRecord) :
    (s.withFan side f).phase = s.phase := rfl
@[simp] theorem State.withFan_resetPin (s : State) (side : Side) (f : FanRecord) :
    (s.withFan side f).resetPin = s.resetPin := rfl
@[simp] theorem State.withFan_straps (s : State) (side : Side) (f : FanRecord) :
    (s.withFan side f).straps = s.straps := rfl
@[simp] theorem State.withFan_mc (s : State) (side : Side) (f : FanRecord) : (s.withFan side f).mc = s.mc := rfl
@[simp] theorem State.withFan_da (s : State) (side : Side) (f : FanRecord) : (s.withFan side f).da = s.da := rfl
@[simp] theorem State.withFan_fg (s : State) (side : Side) (f : FanRecord) : (s.withFan side f).fg = s.fg := rfl
@[simp] theorem State.withFan_preheat (s : State) (side : Side) (f : FanRecord) :
    (s.withFan side f).preheat = s.preheat := rfl
@[simp] theorem State.withFan_damper (s : State) (side : Side) (f : FanRecord) :
    (s.withFan side f).damper = s.damper := rfl
@[simp] theorem State.withFan_hm (s : State) (side : Side) (f : FanRecord) : (s.withFan side f).hm = s.hm := rfl
@[simp] theorem State.withFan_fm (s : State) (side : Side) (f : FanRecord) : (s.withFan side f).fm = s.fm := rfl
@[simp] theorem State.withFan_season (s : State) (side : Side) (f : FanRecord) :
    (s.withFan side f).season = s.season := rfl
@[simp] theorem State.withFan_rl (s : State) (side : Side) (f : FanRecord) : (s.withFan side f).rl = s.rl := rfl
@[simp] theorem State.withFan_lp (s : State) (side : Side) (f : FanRecord) : (s.withFan side f).lp = s.lp := rfl
@[simp] theorem State.withFan_eu (s : State) (side : Side) (f : FanRecord) : (s.withFan side f).eu = s.eu := rfl
@[simp] theorem State.withFan_ss (s : State) (side : Side) (f : FanRecord) : (s.withFan side f).ss = s.ss := rfl
@[simp] theorem State.withFan_freeCount (s : State) (side : Side) (f : FanRecord) :
    (s.withFan side f).freeCount = s.freeCount := rfl
@[simp] theorem State.withFan_pending (s : State) (side : Side) (f : FanRecord) :
    (s.withFan side f).pending = s.pending := rfl

/-! ## `withSlot` -/

@[simp] theorem State.withSlot_phase (s : State) (i : Fin 15) (x : Slot) : (s.withSlot i x).phase = s.phase := rfl
@[simp] theorem State.withSlot_resetPin (s : State) (i : Fin 15) (x : Slot) :
    (s.withSlot i x).resetPin = s.resetPin := rfl
@[simp] theorem State.withSlot_straps (s : State) (i : Fin 15) (x : Slot) : (s.withSlot i x).straps = s.straps := rfl
@[simp] theorem State.withSlot_mc (s : State) (i : Fin 15) (x : Slot) : (s.withSlot i x).mc = s.mc := rfl
@[simp] theorem State.withSlot_da (s : State) (i : Fin 15) (x : Slot) : (s.withSlot i x).da = s.da := rfl
@[simp] theorem State.withSlot_ae (s : State) (i : Fin 15) (x : Slot) : (s.withSlot i x).ae = s.ae := rfl
@[simp] theorem State.withSlot_fg (s : State) (i : Fin 15) (x : Slot) : (s.withSlot i x).fg = s.fg := rfl
@[simp] theorem State.withSlot_preheat (s : State) (i : Fin 15) (x : Slot) :
    (s.withSlot i x).preheat = s.preheat := rfl
@[simp] theorem State.withSlot_damper (s : State) (i : Fin 15) (x : Slot) : (s.withSlot i x).damper = s.damper := rfl
@[simp] theorem State.withSlot_hm (s : State) (i : Fin 15) (x : Slot) : (s.withSlot i x).hm = s.hm := rfl
@[simp] theorem State.withSlot_fm (s : State) (i : Fin 15) (x : Slot) : (s.withSlot i x).fm = s.fm := rfl
@[simp] theorem State.withSlot_season (s : State) (i : Fin 15) (x : Slot) : (s.withSlot i x).season = s.season := rfl
@[simp] theorem State.withSlot_lp (s : State) (i : Fin 15) (x : Slot) : (s.withSlot i x).lp = s.lp := rfl
@[simp] theorem State.withSlot_eu (s : State) (i : Fin 15) (x : Slot) : (s.withSlot i x).eu = s.eu := rfl
@[simp] theorem State.withSlot_ss (s : State) (i : Fin 15) (x : Slot) : (s.withSlot i x).ss = s.ss := rfl
@[simp] theorem State.withSlot_freeCount (s : State) (i : Fin 15) (x : Slot) :
    (s.withSlot i x).freeCount = s.freeCount := rfl
@[simp] theorem State.withSlot_pending (s : State) (i : Fin 15) (x : Slot) :
    (s.withSlot i x).pending = s.pending := rfl

/-! ## `withStation` -/

@[simp] theorem State.withStation_phase (s : State) (n : Fin 4) (a : Acceptance) :
    (s.withStation n a).phase = s.phase := rfl
@[simp] theorem State.withStation_resetPin (s : State) (n : Fin 4) (a : Acceptance) :
    (s.withStation n a).resetPin = s.resetPin := rfl
@[simp] theorem State.withStation_straps (s : State) (n : Fin 4) (a : Acceptance) :
    (s.withStation n a).straps = s.straps := rfl
@[simp] theorem State.withStation_mc (s : State) (n : Fin 4) (a : Acceptance) : (s.withStation n a).mc = s.mc := rfl
@[simp] theorem State.withStation_da (s : State) (n : Fin 4) (a : Acceptance) : (s.withStation n a).da = s.da := rfl
@[simp] theorem State.withStation_ae (s : State) (n : Fin 4) (a : Acceptance) : (s.withStation n a).ae = s.ae := rfl
@[simp] theorem State.withStation_fg (s : State) (n : Fin 4) (a : Acceptance) : (s.withStation n a).fg = s.fg := rfl
@[simp] theorem State.withStation_preheat (s : State) (n : Fin 4) (a : Acceptance) :
    (s.withStation n a).preheat = s.preheat := rfl
@[simp] theorem State.withStation_damper (s : State) (n : Fin 4) (a : Acceptance) :
    (s.withStation n a).damper = s.damper := rfl
@[simp] theorem State.withStation_fm (s : State) (n : Fin 4) (a : Acceptance) : (s.withStation n a).fm = s.fm := rfl
@[simp] theorem State.withStation_season (s : State) (n : Fin 4) (a : Acceptance) :
    (s.withStation n a).season = s.season := rfl
@[simp] theorem State.withStation_rl (s : State) (n : Fin 4) (a : Acceptance) : (s.withStation n a).rl = s.rl := rfl
@[simp] theorem State.withStation_lp (s : State) (n : Fin 4) (a : Acceptance) : (s.withStation n a).lp = s.lp := rfl
@[simp] theorem State.withStation_eu (s : State) (n : Fin 4) (a : Acceptance) : (s.withStation n a).eu = s.eu := rfl
@[simp] theorem State.withStation_ss (s : State) (n : Fin 4) (a : Acceptance) : (s.withStation n a).ss = s.ss := rfl
@[simp] theorem State.withStation_freeCount (s : State) (n : Fin 4) (a : Acceptance) :
    (s.withStation n a).freeCount = s.freeCount := rfl
@[simp] theorem State.withStation_pending (s : State) (n : Fin 4) (a : Acceptance) :
    (s.withStation n a).pending = s.pending := rfl

/-! ## `beginSave` -/

@[simp] theorem State.beginSave_phase (s : State) : (s.beginSave).phase = s.phase := rfl
@[simp] theorem State.beginSave_resetPin (s : State) : (s.beginSave).resetPin = s.resetPin := rfl
@[simp] theorem State.beginSave_straps (s : State) : (s.beginSave).straps = s.straps := rfl
@[simp] theorem State.beginSave_mc (s : State) : (s.beginSave).mc = s.mc := rfl
@[simp] theorem State.beginSave_da (s : State) : (s.beginSave).da = s.da := rfl
@[simp] theorem State.beginSave_ae (s : State) : (s.beginSave).ae = s.ae := rfl
@[simp] theorem State.beginSave_fg (s : State) : (s.beginSave).fg = s.fg := rfl
@[simp] theorem State.beginSave_preheat (s : State) : (s.beginSave).preheat = s.preheat := rfl
@[simp] theorem State.beginSave_damper (s : State) : (s.beginSave).damper = s.damper := rfl
@[simp] theorem State.beginSave_hm (s : State) : (s.beginSave).hm = s.hm := rfl
@[simp] theorem State.beginSave_fm (s : State) : (s.beginSave).fm = s.fm := rfl
@[simp] theorem State.beginSave_season (s : State) : (s.beginSave).season = s.season := rfl
@[simp] theorem State.beginSave_rl (s : State) : (s.beginSave).rl = s.rl := rfl
@[simp] theorem State.beginSave_lp (s : State) : (s.beginSave).lp = s.lp := rfl
@[simp] theorem State.beginSave_eu (s : State) : (s.beginSave).eu = s.eu := rfl
@[simp] theorem State.beginSave_freeCount (s : State) : (s.beginSave).freeCount = s.freeCount := rfl
@[simp] theorem State.beginSave_pending (s : State) : (s.beginSave).pending = s.pending := rfl

/-! ## `judgeObservation` -/

@[simp] theorem State.judgeObservation_phase (s : State) : (s.judgeObservation).phase = s.phase := rfl
@[simp] theorem State.judgeObservation_resetPin (s : State) : (s.judgeObservation).resetPin = s.resetPin := rfl
@[simp] theorem State.judgeObservation_straps (s : State) : (s.judgeObservation).straps = s.straps := rfl
@[simp] theorem State.judgeObservation_mc (s : State) : (s.judgeObservation).mc = s.mc := rfl
@[simp] theorem State.judgeObservation_da (s : State) : (s.judgeObservation).da = s.da := rfl
@[simp] theorem State.judgeObservation_ae (s : State) : (s.judgeObservation).ae = s.ae := rfl
@[simp] theorem State.judgeObservation_fg (s : State) : (s.judgeObservation).fg = s.fg := rfl
@[simp] theorem State.judgeObservation_preheat (s : State) : (s.judgeObservation).preheat = s.preheat := rfl
@[simp] theorem State.judgeObservation_damper (s : State) : (s.judgeObservation).damper = s.damper := rfl
@[simp] theorem State.judgeObservation_hm (s : State) : (s.judgeObservation).hm = s.hm := rfl
@[simp] theorem State.judgeObservation_fm (s : State) : (s.judgeObservation).fm = s.fm := rfl
@[simp] theorem State.judgeObservation_rl (s : State) : (s.judgeObservation).rl = s.rl := rfl
@[simp] theorem State.judgeObservation_lp (s : State) : (s.judgeObservation).lp = s.lp := rfl
@[simp] theorem State.judgeObservation_eu (s : State) : (s.judgeObservation).eu = s.eu := rfl
@[simp] theorem State.judgeObservation_ss (s : State) : (s.judgeObservation).ss = s.ss := rfl
@[simp] theorem State.judgeObservation_freeCount (s : State) : (s.judgeObservation).freeCount = s.freeCount := rfl
@[simp] theorem State.judgeObservation_pending (s : State) : (s.judgeObservation).pending = s.pending := rfl

/-! ## `setLpNext` -/

@[simp] theorem State.setLpNext_phase (s : State) (x : LocalPort) : (s.setLpNext x).phase = s.phase := rfl
@[simp] theorem State.setLpNext_resetPin (s : State) (x : LocalPort) : (s.setLpNext x).resetPin = s.resetPin := rfl
@[simp] theorem State.setLpNext_straps (s : State) (x : LocalPort) : (s.setLpNext x).straps = s.straps := rfl
@[simp] theorem State.setLpNext_mc (s : State) (x : LocalPort) : (s.setLpNext x).mc = s.mc := rfl
@[simp] theorem State.setLpNext_da (s : State) (x : LocalPort) : (s.setLpNext x).da = s.da := rfl
@[simp] theorem State.setLpNext_ae (s : State) (x : LocalPort) : (s.setLpNext x).ae = s.ae := rfl
@[simp] theorem State.setLpNext_fg (s : State) (x : LocalPort) : (s.setLpNext x).fg = s.fg := rfl
@[simp] theorem State.setLpNext_preheat (s : State) (x : LocalPort) : (s.setLpNext x).preheat = s.preheat := rfl
@[simp] theorem State.setLpNext_damper (s : State) (x : LocalPort) : (s.setLpNext x).damper = s.damper := rfl
@[simp] theorem State.setLpNext_hm (s : State) (x : LocalPort) : (s.setLpNext x).hm = s.hm := rfl
@[simp] theorem State.setLpNext_fm (s : State) (x : LocalPort) : (s.setLpNext x).fm = s.fm := rfl
@[simp] theorem State.setLpNext_season (s : State) (x : LocalPort) : (s.setLpNext x).season = s.season := rfl
@[simp] theorem State.setLpNext_rl (s : State) (x : LocalPort) : (s.setLpNext x).rl = s.rl := rfl
@[simp] theorem State.setLpNext_eu (s : State) (x : LocalPort) : (s.setLpNext x).eu = s.eu := rfl
@[simp] theorem State.setLpNext_ss (s : State) (x : LocalPort) : (s.setLpNext x).ss = s.ss := rfl
@[simp] theorem State.setLpNext_freeCount (s : State) (x : LocalPort) : (s.setLpNext x).freeCount = s.freeCount := rfl
@[simp] theorem State.setLpNext_pending (s : State) (x : LocalPort) : (s.setLpNext x).pending = s.pending := rfl

/-! ## `withWorking` -/

@[simp] theorem State.withWorking_phase (s : State) (x : Settings) : (s.withWorking x).phase = s.phase := rfl
@[simp] theorem State.withWorking_resetPin (s : State) (x : Settings) : (s.withWorking x).resetPin = s.resetPin := rfl
@[simp] theorem State.withWorking_straps (s : State) (x : Settings) : (s.withWorking x).straps = s.straps := rfl
@[simp] theorem State.withWorking_mc (s : State) (x : Settings) : (s.withWorking x).mc = s.mc := rfl
@[simp] theorem State.withWorking_da (s : State) (x : Settings) : (s.withWorking x).da = s.da := rfl
@[simp] theorem State.withWorking_ae (s : State) (x : Settings) : (s.withWorking x).ae = s.ae := rfl
@[simp] theorem State.withWorking_fg (s : State) (x : Settings) : (s.withWorking x).fg = s.fg := rfl
@[simp] theorem State.withWorking_preheat (s : State) (x : Settings) : (s.withWorking x).preheat = s.preheat := rfl
@[simp] theorem State.withWorking_damper (s : State) (x : Settings) : (s.withWorking x).damper = s.damper := rfl
@[simp] theorem State.withWorking_hm (s : State) (x : Settings) : (s.withWorking x).hm = s.hm := rfl
@[simp] theorem State.withWorking_fm (s : State) (x : Settings) : (s.withWorking x).fm = s.fm := rfl
@[simp] theorem State.withWorking_season (s : State) (x : Settings) : (s.withWorking x).season = s.season := rfl
@[simp] theorem State.withWorking_rl (s : State) (x : Settings) : (s.withWorking x).rl = s.rl := rfl
@[simp] theorem State.withWorking_lp (s : State) (x : Settings) : (s.withWorking x).lp = s.lp := rfl
@[simp] theorem State.withWorking_eu (s : State) (x : Settings) : (s.withWorking x).eu = s.eu := rfl
@[simp] theorem State.withWorking_freeCount (s : State) (x : Settings) :
    (s.withWorking x).freeCount = s.freeCount := rfl
@[simp] theorem State.withWorking_pending (s : State) (x : Settings) : (s.withWorking x).pending = s.pending := rfl

/-! ## `handOn` -/

@[simp] theorem State.handOn_phase (s : State) (side : Side) (f : FilterRecord) :
    (s.handOn side f).phase = s.phase := by
  unfold State.handOn; dsimp only; split <;> rfl
@[simp] theorem State.handOn_resetPin (s : State) (side : Side) (f : FilterRecord) :
    (s.handOn side f).resetPin = s.resetPin := by
  unfold State.handOn; dsimp only; split <;> rfl
@[simp] theorem State.handOn_straps (s : State) (side : Side) (f : FilterRecord) :
    (s.handOn side f).straps = s.straps := by
  unfold State.handOn; dsimp only; split <;> rfl
@[simp] theorem State.handOn_mc (s : State) (side : Side) (f : FilterRecord) : (s.handOn side f).mc = s.mc := by
  unfold State.handOn; dsimp only; split <;> rfl
@[simp] theorem State.handOn_ae (s : State) (side : Side) (f : FilterRecord) : (s.handOn side f).ae = s.ae := by
  unfold State.handOn; dsimp only; split <;> rfl
@[simp] theorem State.handOn_fg (s : State) (side : Side) (f : FilterRecord) : (s.handOn side f).fg = s.fg := by
  unfold State.handOn; dsimp only; split <;> rfl
@[simp] theorem State.handOn_preheat (s : State) (side : Side) (f : FilterRecord) :
    (s.handOn side f).preheat = s.preheat := by
  unfold State.handOn; dsimp only; split <;> rfl
@[simp] theorem State.handOn_damper (s : State) (side : Side) (f : FilterRecord) :
    (s.handOn side f).damper = s.damper := by
  unfold State.handOn; dsimp only; split <;> rfl
@[simp] theorem State.handOn_hm (s : State) (side : Side) (f : FilterRecord) : (s.handOn side f).hm = s.hm := by
  unfold State.handOn; dsimp only; split <;> rfl
@[simp] theorem State.handOn_season (s : State) (side : Side) (f : FilterRecord) :
    (s.handOn side f).season = s.season := by
  unfold State.handOn; dsimp only; split <;> rfl
@[simp] theorem State.handOn_rl (s : State) (side : Side) (f : FilterRecord) : (s.handOn side f).rl = s.rl := by
  unfold State.handOn; dsimp only; split <;> rfl
@[simp] theorem State.handOn_lp (s : State) (side : Side) (f : FilterRecord) : (s.handOn side f).lp = s.lp := by
  unfold State.handOn; dsimp only; split <;> rfl
@[simp] theorem State.handOn_ss (s : State) (side : Side) (f : FilterRecord) : (s.handOn side f).ss = s.ss := by
  unfold State.handOn; dsimp only; split <;> rfl
@[simp] theorem State.handOn_freeCount (s : State) (side : Side) (f : FilterRecord) :
    (s.handOn side f).freeCount = s.freeCount := by
  unfold State.handOn; dsimp only; split <;> rfl
@[simp] theorem State.handOn_pending (s : State) (side : Side) (f : FilterRecord) :
    (s.handOn side f).pending = s.pending := by
  unfold State.handOn; dsimp only; split <;> rfl

/-! ## `saveDue` -/

@[simp] theorem State.saveDue_phase (s : State) : (s.saveDue).phase = s.phase := by
  unfold State.saveDue; split <;> rfl
@[simp] theorem State.saveDue_resetPin (s : State) : (s.saveDue).resetPin = s.resetPin := by
  unfold State.saveDue; split <;> rfl
@[simp] theorem State.saveDue_straps (s : State) : (s.saveDue).straps = s.straps := by
  unfold State.saveDue; split <;> rfl
@[simp] theorem State.saveDue_mc (s : State) : (s.saveDue).mc = s.mc := by
  unfold State.saveDue; split <;> rfl
@[simp] theorem State.saveDue_da (s : State) : (s.saveDue).da = s.da := by
  unfold State.saveDue; split <;> rfl
@[simp] theorem State.saveDue_ae (s : State) : (s.saveDue).ae = s.ae := by
  unfold State.saveDue; split <;> rfl
@[simp] theorem State.saveDue_fg (s : State) : (s.saveDue).fg = s.fg := by
  unfold State.saveDue; split <;> rfl
@[simp] theorem State.saveDue_preheat (s : State) : (s.saveDue).preheat = s.preheat := by
  unfold State.saveDue; split <;> rfl
@[simp] theorem State.saveDue_damper (s : State) : (s.saveDue).damper = s.damper := by
  unfold State.saveDue; split <;> rfl
@[simp] theorem State.saveDue_hm (s : State) : (s.saveDue).hm = s.hm := by
  unfold State.saveDue; split <;> rfl
@[simp] theorem State.saveDue_fm (s : State) : (s.saveDue).fm = s.fm := by
  unfold State.saveDue; split <;> rfl
@[simp] theorem State.saveDue_season (s : State) : (s.saveDue).season = s.season := by
  unfold State.saveDue; split <;> rfl
@[simp] theorem State.saveDue_rl (s : State) : (s.saveDue).rl = s.rl := by
  unfold State.saveDue; split <;> rfl
@[simp] theorem State.saveDue_lp (s : State) : (s.saveDue).lp = s.lp := by
  unfold State.saveDue; split <;> rfl
@[simp] theorem State.saveDue_eu (s : State) : (s.saveDue).eu = s.eu := by
  unfold State.saveDue; split <;> rfl
@[simp] theorem State.saveDue_freeCount (s : State) : (s.saveDue).freeCount = s.freeCount := by
  unfold State.saveDue; split <;> rfl
@[simp] theorem State.saveDue_pending (s : State) : (s.saveDue).pending = s.pending := by
  unfold State.saveDue; split <;> rfl

/-! ## `deliver` -/

@[simp] theorem State.deliver_phase (s : State) (m : Master) (a : Answer) : (s.deliver m a).phase = s.phase := by
  unfold State.deliver; split
  · rfl
  · split <;> rfl
@[simp] theorem State.deliver_resetPin (s : State) (m : Master) (a : Answer) :
    (s.deliver m a).resetPin = s.resetPin := by
  unfold State.deliver; split
  · rfl
  · split <;> rfl
@[simp] theorem State.deliver_straps (s : State) (m : Master) (a : Answer) : (s.deliver m a).straps = s.straps := by
  unfold State.deliver; split
  · rfl
  · split <;> rfl
@[simp] theorem State.deliver_mc (s : State) (m : Master) (a : Answer) : (s.deliver m a).mc = s.mc := by
  unfold State.deliver; split
  · rfl
  · split <;> rfl
@[simp] theorem State.deliver_da (s : State) (m : Master) (a : Answer) : (s.deliver m a).da = s.da := by
  unfold State.deliver; split
  · rfl
  · split <;> rfl
@[simp] theorem State.deliver_ae (s : State) (m : Master) (a : Answer) : (s.deliver m a).ae = s.ae := by
  unfold State.deliver; split
  · rfl
  · split <;> rfl
@[simp] theorem State.deliver_fg (s : State) (m : Master) (a : Answer) : (s.deliver m a).fg = s.fg := by
  unfold State.deliver; split
  · rfl
  · split <;> rfl
@[simp] theorem State.deliver_preheat (s : State) (m : Master) (a : Answer) :
    (s.deliver m a).preheat = s.preheat := by
  unfold State.deliver; split
  · rfl
  · split <;> rfl
@[simp] theorem State.deliver_damper (s : State) (m : Master) (a : Answer) : (s.deliver m a).damper = s.damper := by
  unfold State.deliver; split
  · rfl
  · split <;> rfl
@[simp] theorem State.deliver_hm (s : State) (m : Master) (a : Answer) : (s.deliver m a).hm = s.hm := by
  unfold State.deliver; split
  · rfl
  · split <;> rfl
@[simp] theorem State.deliver_fm (s : State) (m : Master) (a : Answer) : (s.deliver m a).fm = s.fm := by
  unfold State.deliver; split
  · rfl
  · split <;> rfl
@[simp] theorem State.deliver_season (s : State) (m : Master) (a : Answer) : (s.deliver m a).season = s.season := by
  unfold State.deliver; split
  · rfl
  · split <;> rfl
@[simp] theorem State.deliver_eu (s : State) (m : Master) (a : Answer) : (s.deliver m a).eu = s.eu := by
  unfold State.deliver; split
  · rfl
  · split <;> rfl
@[simp] theorem State.deliver_ss (s : State) (m : Master) (a : Answer) : (s.deliver m a).ss = s.ss := by
  unfold State.deliver; split
  · rfl
  · split <;> rfl
@[simp] theorem State.deliver_freeCount (s : State) (m : Master) (a : Answer) :
    (s.deliver m a).freeCount = s.freeCount := by
  unfold State.deliver; split
  · rfl
  · split <;> rfl
@[simp] theorem State.deliver_pending (s : State) (m : Master) (a : Answer) :
    (s.deliver m a).pending = s.pending := by
  unfold State.deliver; split
  · rfl
  · split <;> rfl

end Sys2Proof.Machine
end

