-- ==== Sys2Proof/Laws/Ops.lean ====
section
/-! SUPPORT. What each shared operation does, said once: the proofs about the commands cite these and unfold none of the
operations. -/

namespace Sys2Proof.Machine

/-! ## The gates of a command -/

theorem State.unlessHeld_held {s : State} (h : s.phase = .held) (f : State → State) : s.unlessHeld f = s := by
  simp [State.unlessHeld, h]

theorem State.unlessHeld_of_ne {s : State} (h : s.phase ≠ .held) (f : State → State) : s.unlessHeld f = f s := by
  unfold State.unlessHeld; split
  · contradiction
  · rfl

theorem State.whenRunning_of {s : State} (h : s.phase = .running) (f : State → State) : s.whenRunning f = f s := by
  simp [State.whenRunning, h]

theorem State.whenRunning_of_ne {s : State} (h : s.phase ≠ .running) (f : State → State) : s.whenRunning f = s := by
  unfold State.whenRunning; split
  · contradiction
  · rfl

/-- A property that `s` has and that `f` gives is had after the gate. -/
theorem State.unlessHeld_cases {P : State → Prop} {s : State} {f : State → State} (held : P s) (acts : P (f s)) :
    P (s.unlessHeld f) := by
  unfold State.unlessHeld; split <;> assumption

/-- A property that `s` has and that `f` gives is had after the gate. -/
theorem State.whenRunning_cases {P : State → Prop} {s : State} {f : State → State} (waits : P s) (runs : P (f s)) :
    P (s.whenRunning f) := by
  unfold State.whenRunning; split <;> assumption

@[simp] theorem done_eq (s : State) : done s = .next s := rfl

/-- A command that answers by `done` answers a next state exactly so. -/
theorem done_eq_next {s t : State} : done s = .next t ↔ s = t := by
  constructor
  · intro h; injection h
  · rintro rfl; rfl

/-! ## Windows, vectors -/

theorem length_pushWindow {α : Type} (n : Nat) (x : α) (l : List α) :
    (pushWindow n x l).length = min n (l.length + 1) := by
  simp [pushWindow]; omega

theorem length_pushWindow_le {α : Type} (n : Nat) (x : α) (l : List α) : (pushWindow n x l).length ≤ n := by
  rw [length_pushWindow]; omega

/-- A window that is not full takes the new entry at its newest end. -/
theorem pushWindow_of_lt {α : Type} {n : Nat} {l : List α} (h : l.length < n) (x : α) : pushWindow n x l = l ++ [x] := by
  unfold pushWindow
  rw [show l.length + 1 - n = 0 by omega, List.drop_zero]

/-- A full window drops its oldest entry. -/
theorem pushWindow_of_full {α : Type} {n : Nat} {y : α} {l : List α} (h : l.length + 1 = n) (x : α) :
    pushWindow n x (y :: l) = l ++ [x] := by
  unfold pushWindow
  simp [← h]

theorem mem_of_mem_pushWindow {α : Type} {n : Nat} {x y : α} {l : List α} (h : y ∈ pushWindow n x l) : y ∈ l ∨ y = x := by
  have := List.mem_of_mem_drop h
  simpa using this

theorem mem_pushWindow_self {α : Type} {n : Nat} (hn : 0 < n) (x : α) (l : List α) : x ∈ pushWindow n x l := by
  unfold pushWindow
  rw [List.drop_append_of_le_length (by omega)]
  simp

theorem marks_le_length (l : List Bool) : marks l ≤ l.length := List.count_le_length

@[simp] theorem getElem_setAt_self {α : Type} {n : Nat} (v : Vector α n) (i : Fin n) (x : α) : (setAt v i x)[i] = x := by
  simp [setAt]

theorem getElem_setAt_ne {α : Type} {n : Nat} (v : Vector α n) {i j : Fin n} (h : j ≠ i) (x : α) :
    (setAt v i x)[j] = v[j] := by
  have : i.val ≠ j.val := fun e => h (Fin.ext e.symm)
  simp [setAt, this]

/-! ## The event unit -/

@[simp] theorem EventBytes.get_put_self (e : EventBytes) (w : EventWord) (b : Byte) : (e.put w b).get w = b := by
  cases w <;> rfl

theorem EventBytes.get_put_ne (e : EventBytes) {w v : EventWord} (h : v ≠ w) (b : Byte) : (e.put w b).get v = e.get v := by
  cases w <;> cases v <;> first | rfl | exact absurd rfl h

@[simp] theorem EventUnit.settle_flags (e : EventUnit) : e.settle.flags = e.flags := rfl
@[simp] theorem EventUnit.settle_masks (e : EventUnit) : e.settle.masks = e.masks := rfl
@[simp] theorem EventUnit.settle_suspended (e : EventUnit) : e.settle.suspended = e.suspended := rfl
@[simp] theorem EventUnit.settle_live (e : EventUnit) : e.settle.live = e.live := rfl
@[simp] theorem EventUnit.settle_copies (e : EventUnit) : e.settle.copies = e.copies := rfl
@[simp] theorem EventUnit.settle_irq (e : EventUnit) : e.settle.irq = e.condition := rfl

/-- A raise ors one place into its word and drives the pin from the condition; nothing else moves. -/
theorem EventUnit.raise_eq (e : EventUnit) (f : Flag) :
    e.raise f = { e with
      flags := e.flags.put f.word (e.flags.get f.word ||| f.mask)
      irq := (e.raise f).condition } := rfl

@[simp] theorem EventUnit.raise_masks (e : EventUnit) (f : Flag) : (e.raise f).masks = e.masks := rfl
@[simp] theorem EventUnit.raise_suspended (e : EventUnit) (f : Flag) : (e.raise f).suspended = e.suspended := rfl
@[simp] theorem EventUnit.raise_live (e : EventUnit) (f : Flag) : (e.raise f).live = e.live := rfl
@[simp] theorem EventUnit.raise_copies (e : EventUnit) (f : Flag) : (e.raise f).copies = e.copies := rfl

/-- Two flags of one word stand at different places. -/
theorem Flag.mask_and_mask {f g : Flag} (hw : f.word = g.word) (h : f ≠ g) : f.mask &&& g.mask = 0 := by
  cases f <;> cases g <;> first | rfl | exact absurd rfl h | cases hw

/-- A flag's place is one bit: any byte meets it in nothing or in the place itself. -/
theorem Flag.mask_ne_zero (f : Flag) : f.mask ≠ 0 := by cases f <;> decide

/-- A raise sets its own flag and no other. -/
theorem EventUnit.isSet_raise (e : EventUnit) (f g : Flag) : (e.raise f).isSet g = (e.isSet g || g == f) := by
  by_cases h : g = f
  · subst h
    have : (e.flags.get g.word ||| g.mask) &&& g.mask = g.mask := by ext i; simp; tauto
    simpa [EventUnit.isSet, EventUnit.raise, this] using g.mask_ne_zero
  · have hb : (g == f) = false := by simpa using h
    by_cases hw : g.word = f.word
    · have hm : f.mask &&& g.mask = 0 := Flag.mask_and_mask hw.symm (Ne.symm h)
      have : (e.flags.get f.word ||| f.mask) &&& g.mask = e.flags.get f.word &&& g.mask := by
        rw [BitVec.and_comm, BitVec.and_or_distrib_left, BitVec.and_comm g.mask f.mask, hm, BitVec.and_comm]
        exact BitVec.or_zero
      simp [EventUnit.isSet, EventUnit.raise, hw, hb, this]
    · simp [EventUnit.isSet, EventUnit.raise, EventBytes.get_put_ne _ hw, hb]

/-- A count adds one to its live value; the copy follows unless the copies are held. -/
theorem EventUnit.count_live (e : EventUnit) (snapshot : Bool) (c : Counter) :
    (e.count snapshot c).live = setAt e.live c.index (e.live[c.index] + 1) := by
  unfold EventUnit.count; dsimp only; split <;> rfl

theorem EventUnit.count_copies (e : EventUnit) (snapshot : Bool) (c : Counter) :
    (e.count snapshot c).copies = if snapshot then e.copies else setAt e.copies c.index (e.live[c.index] + 1) := by
  unfold EventUnit.count; dsimp only; split <;> rfl

@[simp] theorem EventUnit.count_masks (e : EventUnit) (b : Bool) (c : Counter) : (e.count b c).masks = e.masks := by
  unfold EventUnit.count; dsimp only; split <;> rfl

@[simp] theorem EventUnit.count_suspended (e : EventUnit) (b : Bool) (c : Counter) :
    (e.count b c).suspended = e.suspended := by
  unfold EventUnit.count; dsimp only; split <;> rfl

/-- A count raises COUNTER_WRAPPED when its live value wraps, and no other flag. -/
theorem EventUnit.isSet_count (e : EventUnit) (b : Bool) (c : Counter) (g : Flag) :
    (e.count b c).isSet g = (e.isSet g || (g == .counterWrapped && e.live[c.index] + 1 == 0)) := by
  unfold EventUnit.count; dsimp only; split
  · rename_i h
    rw [EventUnit.isSet_raise, show (e.live[c.index] + 1 == 0) = true by simpa using h, Bool.and_true]
    rfl
  · rename_i h
    rw [show (e.live[c.index] + 1 == 0) = false by simpa using h, Bool.and_false, Bool.or_false]
    rfl

theorem State.raise_eu (s : State) (f : Flag) : (s.raise f).eu = s.eu.raise f := rfl
theorem State.count_eu (s : State) (c : Counter) : (s.count c).eu = s.eu.count s.settings.counterSnapshot c := rfl

/-! ## The demand arbiter -/

/-- A replan writes the plan that the table and its other inputs give (R34, R39). -/
theorem State.replan_da (s : State) :
    s.replan.da = { s.da with
      plan := resolve s.settings s.da.table s.fm.changing (min s.da.supplyCeiling s.da.extractCeiling) } := rfl

/-- Another table stands, with the plan it gives. -/
theorem State.withTable_da (s : State) (t : DemandTable) :
    (s.withTable t).da = { s.da with
      table := t
      plan := resolve s.settings t s.fm.changing (min s.da.supplyCeiling s.da.extractCeiling) } := rfl

/-- Both contributions and the plan recomputed; the table stands (R33, R34). -/
theorem State.recomputeCeiling_da (s : State) :
    s.recomputeCeiling.da =
      { table := s.da.table
        supplyCeiling := contribution s.settings s.fm.supply
        extractCeiling := contribution s.settings s.fm.extract
        plan := resolve s.settings s.da.table s.fm.changing
          (min (contribution s.settings s.fm.supply) (contribution s.settings s.fm.extract)) } := rfl

theorem State.removeMaster_table (s : State) (m : Master) : (s.removeMaster m).da.table = s.da.table.without m := rfl

/-- No entry of the source is left in the general part (R29). -/
theorem DemandTable.source_of_mem_without {t : DemandTable} {m : Master} {e : Entry}
    (h : e ∈ (t.without m).general) : e ∈ t.general ∧ e.source ≠ .master m := by
  simpa [DemandTable.without] using h

/-! ## Fans, filters, stations, slots -/

@[simp] theorem Airflow.fan_withFan_self (ae : Airflow) (side : Side) (f : FanRecord) : (ae.withFan side f).fan side = f := by
  cases side <;> rfl

theorem Airflow.fan_withFan_ne (ae : Airflow) {side other : Side} (h : other ≠ side) (f : FanRecord) :
    (ae.withFan side f).fan other = ae.fan other := by
  cases side <;> cases other <;> first | rfl | exact absurd rfl h

@[simp] theorem Airflow.drive_fan (ae : Airflow) (b : Bool) (side : Side) : (ae.drive b).fan side = ae.fan side := by
  cases side <;> rfl

@[simp] theorem State.withFan_fan_self (s : State) (side : Side) (f : FanRecord) : (s.withFan side f).ae.fan side = f := by
  cases side <;> rfl

@[simp] theorem Filters.filter_withFilter_self (fm : Filters) (side : Side) (f : FilterRecord) :
    (fm.withFilter side f).filter side = f := by
  cases side <;> rfl

theorem Filters.filter_withFilter_ne (fm : Filters) {side other : Side} (h : other ≠ side) (f : FilterRecord) :
    (fm.withFilter side f).filter other = fm.filter other := by
  cases side <;> cases other <;> first | rfl | exact absurd rfl h

/-- A filter record handed on stands in the filter monitor, whether or not its state has changed. -/
theorem State.handOn_fm (s : State) (side : Side) (f : FilterRecord) : (s.handOn side f).fm = s.fm.withFilter side f := by
  unfold State.handOn; dsimp only; split <;> rfl

/-- A record of the same state is only written (R122). -/
theorem State.handOn_of_eq {s : State} {side : Side} {f : FilterRecord} (h : f.state = (s.fm.filter side).state) :
    s.handOn side f = s.setFm (s.fm.withFilter side f) := by
  simp [State.handOn, h]

/-- A record of another state is written, reported and flagged (R122). -/
theorem State.handOn_of_ne {s : State} {side : Side} {f : FilterRecord} (h : f.state ≠ (s.fm.filter side).state) :
    s.handOn side f = ((s.setFm (s.fm.withFilter side f)).recomputeCeiling).raise (filterFlag side) := by
  simp [State.handOn, h]

@[simp] theorem State.slot_withSlot_self (s : State) (i : Fin 15) (x : Slot) : (s.withSlot i x).slot i = x :=
  getElem_setAt_self s.rl.slots i x

theorem State.slot_withSlot_ne (s : State) {i j : Fin 15} (h : j ≠ i) (x : Slot) : (s.withSlot i x).slot j = s.slot j :=
  getElem_setAt_ne _ h x

/-- All that an expiry of a change's deadline can do (R125): it stands while the deadline runs and abandons otherwise. -/
theorem exec_changeDeadlineExpiry_cases {s : State} {side : Side} (h : s.phase ≠ .held) :
    ((s.fm.filter side).deadlineRuns = true ∧ execChangeDeadlineExpiry side s = .next s) ∨
    ((s.fm.filter side).deadlineRuns = false ∧ execChangeDeadlineExpiry side s = .next (s.abandonChange side)) := by
  rw [execChangeDeadlineExpiry, State.unlessHeld_of_ne h]
  cases hr : (s.fm.filter side).deadlineRuns <;> simp [done]

/-! ## Requests and outcomes -/

/-- An outcome for the unit processor is the result of the port (R138, R171). -/
theorem State.deliver_unit (s : State) (a : Answer) :
    s.deliver .unit a =
      s.setLp { s.lp with answer := some a, resultCount := s.lp.resultCount + 1, pending := false } := rfl

/-- An outcome for a master of the room link stands in its slot (R157). -/
theorem State.deliver_slot {s : State} {m : Master} {i : Fin 15} (h : masterSlot m = some i)
    (hl : (s.slot i).state ≠ .lost) (a : Answer) :
    s.deliver m a = s.withSlot i { s.slot i with lastOutcome := some a } := by
  simp [State.deliver, h, hl]

/-- A slot that has gone LOST takes no outcome (R162). -/
theorem State.deliver_lost {s : State} {m : Master} {i : Fin 15} (h : masterSlot m = some i)
    (hl : (s.slot i).state = .lost) (a : Answer) : s.deliver m a = s := by
  simp [State.deliver, h, hl]

/-- A request handled: what the owner answers, with one count of a refusal (R139). -/
theorem State.handle_of_not_refusal {s : State} {r : Request} (h : (s.answer r).2.isRefusal = false) :
    s.handle r = s.answer r := by
  simp [State.handle, h]

theorem State.handle_of_refusal {s : State} {r : Request} (h : (s.answer r).2.isRefusal = true) :
    s.handle r = ((s.answer r).1.count .requestsRefused, (s.answer r).2) := by
  simp [State.handle, h]

/-- A known kind that its class may ask for reaches its owner (R133, R134). -/
theorem State.answer_of_allowed {s : State} {r : Request} {k : RequestKind} (hk : RequestKind.ofCode r.code = some k)
    (ha : s.settings.allows k (classOf r.source) = true) : s.answer r = s.route r k := by
  simp [State.answer, hk, ha]

/-- A request command that arrives is handled and answered (R131). -/
theorem State.request_of {s : State} {r : Request} (hr : s.phase = .running) (hm : s.mayRequest r.source = true) :
    s.request r = s.submit r := by
  simp [State.request, State.whenRunning, hr, hm]

/-- One that cannot arrive changes nothing. -/
theorem State.request_of_not {s : State} {r : Request} (h : ¬(s.phase = .running ∧ s.mayRequest r.source = true)) :
    s.request r = s := by
  unfold State.request State.whenRunning
  split
  · rename_i hr
    simp [show s.mayRequest r.source = false by simpa [hr] using h]
  · rfl

/-! ## The store -/

/-- A save that falls due with nothing being written begins. -/
theorem State.saveDue_free {s : State} (h : s.ss.free = true) : s.saveDue = s.beginSave := by simp [State.saveDue, h]

/-- Otherwise it waits. -/
theorem State.saveDue_busy {s : State} (h : s.ss.free = false) :
    s.saveDue = s.setSs { s.ss with saveWaiting := true } := by simp [State.saveDue, h]

/-! ## The room link and the port -/

/-- The end of a poll without a loss held back: the poll is over and nothing else moves (R149). -/
theorem State.endPoll_of_not_due {s : State} (i : Fin 15) (h : s.rl.lossDue = false) :
    s.endPoll i = s.setRl { s.rl with stage := .idle, lossDue := false } := by simp [State.endPoll, h]

/-- A data byte written within a transaction acts at the register that the pointer names. -/
theorem State.writing_of {s : State} {f : Register → State → State} (hr : s.phase = .running)
    (hs : s.lp.stage = .writing) : s.writing f = f s.lp.register s := by
  simp [State.writing, State.whenRunning, hr, hs]

/-- A data byte read within a transaction acts at the register that the pointer names. -/
theorem State.reading_of {s : State} {f : Register → State → State} (hr : s.phase = .running)
    (hs : s.lp.stage = .reading) : s.reading f = f s.lp.register s := by
  simp [State.reading, State.whenRunning, hr, hs]

end Sys2Proof.Machine
end

