-- ==== Sys2Proof/Tests/Slice0.lean ====
section
/-! SUPPORT. Small tests, each of one step, with the expected values of the spec's worked cases and tables; the smoke tests
of well-formedness and of the frames; and for each statement a witness that its hypotheses can be met. -/

namespace Sys2Proof.Machine.Tests

/-! ## Small states -/

/-- The state that a command leaves. -/
def after (c : Instr) (s : State) : State :=
  match exec c s with
  | .next t => t
  | _ => s

/-- The part running, strapped attached with nothing fitted, at the factory record, with its first plan. -/
def running : State := (State.reset.setPhase .running).recomputeCeiling

/-- The same, with the measurements ready. -/
def ready : State := running.setMc { running.mc with ready := true }

/-- The part with the load in progress. -/
def loading : State := State.reset.setPhase .loading

/-- A channel record replaced. -/
def withChannel (s : State) (ch : Fin 8) (c : Channel) : State :=
  s.setMc { s.mc with channels := s.mc.channels.set ch.val c }

/-- A channel with a filtered value. -/
def reads (s : State) (ch : Fin 8) (filtered : Int) : State :=
  withChannel s ch { Channel.initial with filtered := filtered }

/-- A channel that has FAILED. -/
def failed (s : State) (ch : Fin 8) : State := withChannel s ch { Channel.initial with state := .failed }

/-- A fan that runs at a flow and a duty, with a pulse seen half a second into the second (R42). -/
def fanAt (qr duty : Nat) : FanRecord :=
  { FanRecord.initial with
    state := .running
    duty := duty
    qr := qr
    tacho := { latest := some 500000, periodSum := 14000, periodCount := 1 } }

/-- Both fans running. -/
def ventilating : State := (ready.withFan .extract (fanAt 120 500)).withFan .supply (fanAt 116 500)

/-- A filter record replaced, and the ceilings with it. -/
def withFilter (s : State) (side : Side) (f : FilterRecord) : State :=
  (s.setFm (s.fm.withFilter side f)).recomputeCeiling

/-- The extract filter of 6.9: clean reference 40, 60 steady accumulations at 120. -/
def gradedFilter (state : FilterState) (marks : Nat) : FilterRecord :=
  { FilterRecord.loaded FilterCore.blank with
    state := state
    dpClean := some 40
    loadedMarks := marks
    steadyFlow := 120
    steadyCount := 60 }

/-- A filter under change by a master. -/
def changingFilter (m : Master) : FilterRecord :=
  { FilterRecord.loaded FilterCore.blank with
    state := .changing
    saved := some .clean
    owner := some m
    deadline := some 1 }

/-- A filter that is CLEAN. -/
def cleanFilter : FilterRecord := { FilterRecord.loaded FilterCore.blank with state := .clean }

/-- A reply window open for a slot. -/
def listening (s : State) (i : Fin 15) (x : Slot) : State :=
  (s.withSlot i x).setRl { (s.withSlot i x).rl with feed := true, stage := .window i }

/-- A slot in a state. -/
def slotIn (state : SlotState) : Slot := { Slot.initial with state := state }

/-- A transaction with the port at a stage, at an offset. -/
def atOffset (s : State) (stage : PortStage) (offset : Nat) : State :=
  s.setLp { s.lp with stage := stage, pointer := BitVec.ofNat 6 offset }

/-- A demand without parameters. -/
def bare : DemandParams := { level := none, flow := none, duration := none }

/-- A level. -/
def level (n : Nat) : DemandParams := { level := some (byteOf n), flow := none, duration := none }

/-- An entry of the general part. -/
def entry (m : Master) (kind : DemandKind) (flow : Nat) (remaining : Option Nat) : Entry :=
  { source := .master m, kind := kind, flow := flow, remaining := remaining, seq := 0 }

/-- The demand table replaced, with the plan that it gives. -/
def withGeneral (s : State) (l : List Entry) : State := s.withTable { s.da.table with general := l }

/-- Twelve entries, the third no SHUTDOWN. -/
def fullTable : List Entry :=
  [entry (.station 0) .shutdown 0 none, entry (.station 1) .shutdown 0 none] ++
  [DemandKind.base, .boost, .away, .purge, .quiet].flatMap fun k => [entry .tool k 100 none, entry .unit k 100 none]

/-- A pull-cord record replaced. -/
def withCordRecord (s : State) (r : CordRecord) : State := s.withCord .kitchen r

/-- A cord pressed for a time, its pin high again and timed. -/
def releasing (ms : Nat) : CordRecord :=
  { pinHigh := true, debouncing := true, pressed := true, armed := true, pressTime := ms, holdTaken := false }

/-- A damper in a state. -/
def damperIn (state : DamperState) (position : Nat) (allowance elapsed : Option Nat) (drive : MotorDrive) : Damper :=
  { state := state, position := position, allowance := allowance, elapsed := elapsed, drive := drive, openMade := false,
    closedMade := false }

/-- Strapped with a damper and a pre-heater. -/
def fitted (s : State) : State := s.setStraps { a := 0, b := 1, c := 1 }

/-! ## Well-formedness: one ill-formed command for each check -/

theorem test_wf_refuses_a_reading_beyond_16_bits : (Instr.channelSample 0 32768).wf = false := by decide
theorem test_wf_refuses_a_pulse_after_its_second : (Instr.tachoPulse .a 1000001).wf = false := by decide
theorem test_wf_refuses_a_known_code_as_unknown : (Instr.unknownRequest .unit 0x32).wf = false := by decide
theorem test_wf_refuses_an_empty_ask : (Instr.askReply 0x01 []).wf = false := by decide
theorem test_wf_refuses_an_ask_of_13_bytes : (Instr.askReply 0x01 (List.replicate 13 0)).wf = false := by decide
theorem test_wf_refuses_the_bypass_as_a_fan : (Instr.clearLockoutFan .tool (some 2)).wf = false := by decide
theorem test_wf_accepts : (Instr.tellReply 0x03 198 540 0).wf = true ∧ (Instr.channelSample 0 (-32768)).wf = true := by
  decide

/-! ## Frames and CRCs (12.1, 12.5) -/

theorem test_no_word_spells_a_command : decodeTableWord 16 0x1234 = none := by decide
/-- The check value that the literature gives for this generator over "123456789". -/
theorem test_crc8_check : crc8 [0x31, 0x32, 0x33, 0x34, 0x35, 0x36, 0x37, 0x38, 0x39] = 0xF4 := by decide +kernel
/-- The check value that the literature gives for this generator and start over "123456789". -/
theorem test_crc16_check : crc16 [0x31, 0x32, 0x33, 0x34, 0x35, 0x36, 0x37, 0x38, 0x39] = 0x29B1 := by decide +kernel
/-- A receiver that goes on over the CRC byte ends at 0 (12.1). -/
theorem test_crc8_residue : crc8 ([0x02, 0x10, 0x00] ++ [crc8 [0x02, 0x10, 0x00]]) = 0x00 := by decide +kernel
/-- An IDLE from address 2 (12.1). -/
theorem test_decode_idle : decodeReply [0xA9, 0x02, 0x10, 0x00, crc8 [0x02, 0x10, 0x00]] = .idleReply 0x02 := by decide +kernel
/-- The ASK of 8.8: BOOST with the demand byte 0x7E. -/
theorem test_decode_ask :
    decodeReply [0xA9, 0x02, 0x20, 0x02, 0x02, 0x7E, crc8 [0x02, 0x20, 0x02, 0x02, 0x7E]] =
      .askReply 0x02 [0x02, 0x7E] := by decide +kernel
/-- The TELL of 8.8: 198, 540, flags 0; the low byte first. -/
theorem test_decode_tell :
    decodeReply [0xA9, 0x03, 0x30, 0x05, 0xC6, 0x00, 0x1C, 0x02, 0x00,
      crc8 [0x03, 0x30, 0x05, 0xC6, 0x00, 0x1C, 0x02, 0x00]] = .tellReply 0x03 198 540 0 := by decide +kernel
/-- A HEAT from address 14: ON. -/
theorem test_decode_heat :
    decodeReply [0xA9, 0x0E, 0x40, 0x01, 0x01, crc8 [0x0E, 0x40, 0x01, 0x01]] = .heatReply 0x0E 0x01 := by decide +kernel
/-- An IDLE with a payload byte is malformed (R151). -/
theorem test_decode_malformed :
    decodeReply [0xA9, 0x02, 0x10, 0x01, 0x00, crc8 [0x02, 0x10, 0x01, 0x00]] = .badReplyEnd := by decide +kernel

/-! ## The queue -/

theorem test_step_takes_the_front : step (State.reset.setPending [.masterResetEnd, .power ⟨0, 0, 0⟩]) =
    exec .masterResetEnd (State.reset.setPending [.power ⟨0, 0, 0⟩]) := rfl
theorem test_step_idles : step State.reset = .next State.reset := rfl

/-! ## Resets and start-up (11.2, 11.6, 11.7) -/

theorem test_power : (after (.power ⟨1, 2, 3⟩) running).straps = ⟨1, 2, 3⟩ ∧
    (after (.power ⟨1, 2, 3⟩) running).phase = .held := by decide
theorem test_supplyDip_cuts_the_store :
    (after (.supplyDip ⟨0, 0, 0⟩) (running.setSs { running.ss with store := .writing })).ss.stored.valid = false := by
  decide
theorem test_pinMaster : (after (.pinMaster ⟨0, 0, 0⟩) running).ss.cause = .pinMaster ∧
    (after (.pinMaster ⟨0, 0, 0⟩) running).portAnswers = false := by decide
theorem test_pinRunning_removes_units_entries :
    (after .pinRunning (withGeneral running [entry .unit .base 140 none, entry .tool .base 90 none])).da.table.general =
      [entry .tool .base 90 none] := by decide
theorem test_masterResetEnd : (after .masterResetEnd State.reset).phase = .loading := by decide
/-- The start from the factory defaults of 11.7: DEFAULTS_IN_USE and a first plan of 120, DEFAULT. -/
theorem test_settingsLoadComplete :
    (after .settingsLoadComplete loading).da.plan.target = 120 ∧
      (after .settingsLoadComplete loading).da.plan.reason = .default ∧
      (after .settingsLoadComplete loading).eu.flags.system = 0x40 := by decide
/-- R90 at the load: driven home from bypass_travel, 90 s at the factory, or CLOSED at once. -/
theorem test_settingsLoadComplete_drives_the_damper_home :
    (after .settingsLoadComplete (fitted loading)).damper = damperIn .closing 90 (some 90) (some 0) .closing ∧
      (after .settingsLoadComplete ((fitted loading).setDamper { loading.damper with closedMade := true })).damper.state =
        .closed := by decide
theorem test_resetRelease : (after .resetRelease (running.setResetPin true)).portAnswers = true := by decide

/-! ## Measurement channels and pull-cords (1.5, 1.7) -/

/-- T_EHA as it stands before 1.5's sample 1. -/
def settled : Channel :=
  { Channel.initial with window := List.replicate 8 false, history := [10, 8, 6, 4], filtered := 7, settling := 4 }
/-- T_EHA as it stands before 1.5's sample 6: three marks. -/
def suspect : Channel :=
  { settled with window := [false, false, false, true, false, true, true], state := .suspect, filtered := 4 }

theorem test_channelSample_1 : ((after (.channelSample 3 4) (withChannel running 3 settled)).channel 3).filtered = 5 := by
  decide
theorem test_channelSample_6 :
    ((after (.channelSample 3 (-999)) (withChannel running 3 suspect)).channel 3).state = .failed ∧
      (after (.channelSample 3 (-999)) (withChannel running 3 suspect)).eu.live[7] = 1 ∧
      ((after (.channelSample 3 (-999)) (withChannel running 3 suspect)).channel 3).filtered = 4 := by decide
theorem test_inject_hold :
    ((after (.inject .tool (some 3) (some 2)) running).channel 3).injection = .hold := by decide
theorem test_inject_unknown_mode :
    (after (.inject .tool (some 3) (some 3)) running).rl.slots[14].lastOutcome =
      some { outcome := .notApplicable, kindCode := 0x21 } := by decide
theorem test_pullcordPinChange :
    ((after (.pullcordPinChange .kitchen false)
      (withCordRecord running { CordRecord.initial true with armed := true })).mc.cord .kitchen).debouncing = true := by
  decide
/-- The short press of 1.7: 884 ms, BOOST at 170 m³/h for 1200 s. -/
theorem test_debounceExpiry_short_press :
    (after (.debounceExpiry .kitchen) (withCordRecord running (releasing 884))).da.table.pcK =
      some { source := .cord .kitchen, kind := .boost, flow := 170, remaining := some 1200, seq := 1 } := by decide
theorem test_debounceExpiry_after_a_hold_posts_nothing :
    (after (.debounceExpiry .kitchen)
      (withCordRecord running { releasing 3000 with holdTaken := true })).da.table.pcK = none := by decide
/-- The long hold of 1.7: PURGE at 200 m³/h for 900 s. -/
theorem test_longHold :
    (after (.longHold .bathroom) (running.withCord .bathroom { releasing 2000 with pinHigh := false })).da.table.pcB =
      some { source := .cord .bathroom, kind := .purge, flow := 200, remaining := some 900, seq := 1 } := by decide

/-! ## Demands and the plan (2.10, 11.3) -/

theorem test_base : (after (.base .unit { bare with flow := some 140 }) running).da.plan =
    { target := 140, reason := .base, baseSource := some .unit, ceiling := 240 } := by decide
theorem test_boost : (after (.boost (.station 1) (level 3)) running).da.plan.target = 170 := by decide
theorem test_boost_refuses_level_5 :
    (after (.boost .unit (level 5)) running).lp.answer = some { outcome := .notApplicable, kindCode := 0x02 } := by decide
theorem test_away : (after (.away .unit bare) running).da.plan.target = 70 := by decide
theorem test_purge_takes_900_s :
    (after (.purge .tool bare) running).da.table.general = [{ entry .tool .purge 200 (some 900) with seq := 1 }] := by
  decide
theorem test_quiet_is_clamped :
    (after (.quiet .unit { bare with flow := some 20 }) running).lp.answer =
      some { outcome := .doneClamped, kindCode := 0x05 } := by decide
/-- Log entry 33: the level is judged before the room. -/
theorem test_level_5_at_a_full_table :
    (after (.boost (.station 2) (level 5)) (withGeneral running fullTable)).eu.live[5] = 1 ∧
      ((after (.boost (.station 2) (level 5)) (withGeneral running fullTable)).slot 2).lastOutcome =
        some { outcome := .notApplicable, kindCode := 0x02 } := by decide
theorem test_shutdown : (after (.shutdown .unit bare) running).da.plan.reason = .shutdown := by decide
theorem test_shutdown_evicts :
    (after (.shutdown .unit bare) (withGeneral running fullTable)).da.table.general.length = 12 ∧
      (after (.shutdown .unit bare) (withGeneral running fullTable)).eu.isSet .entryEvicted = true := by decide
theorem test_withdraw_reaches_its_own_alone :
    (after (.withdraw (.station 0) (some 6)) (withGeneral running [entry .tool .shutdown 0 none])).da.table.general =
      [entry .tool .shutdown 0 none] := by decide
theorem test_demandExpiry :
    (after .demandExpiry
      (withGeneral running [entry .tool .boost 170 (some 1), entry .unit .base 140 (some 2)])).da.table.general =
      [entry .unit .base 140 (some 1)] := by decide
/-- The table of 2.10: base 140 of UNIT, BOOST 170, QUIET 150, ceiling 170. -/
theorem test_resolution_of_2_10 :
    resolve { Settings.factory with qmax := 200 }
      { DemandTable.initial with
        general := [entry (.station 1) .base 120 none, entry .unit .base 140 none, entry (.station 0) .quiet 150 none]
        humidity := some { source := .humidity, kind := .boost, flow := 170, remaining := none, seq := 0 } } false 170 =
      { target := 150, reason := .quiet, baseSource := some .unit, ceiling := 170 } := by decide

/-! ## The airflow engine (3.11 to 3.13) -/

theorem test_tachoPulse :
    ((after (.tachoPulse .a 600000) ventilating).ae.supply.tacho).periodSum = 114000 := by decide
/-- Step 0 of 3.11. -/
theorem test_controlStep_starts : (after .controlStep ready).ae.extract.state = .starting ∧
    (after .controlStep ready).ae.extract.duty = 300 ∧ (after .controlStep ready).ae.supply.state = .stopped := by decide
/-- The extract fan of 3.12 before its first step: 512, e_prev 90; 2150 rpm is a mean period of 13953 µs. -/
def loopFan : FanRecord :=
  { fanAt 150 512 with ePrev := 90, tacho := { latest := some 500000, periodSum := 13953, periodCount := 1 } }
/-- The case of 3.12: plan 150, dp_clean 40, DP_EF 64. -/
def loopState : State :=
  ((reads (withFilter (withGeneral ready [entry .unit .base 150 none]) .extract (gradedFilter .clean 0)) 6 64).withFan
    .extract loopFan).withFan .supply (fanAt 116 500)
theorem test_controlStep_loop : (after .controlStep loopState).ae.extract.measured = 2150 ∧
    (after .controlStep loopState).ae.extract.speedTarget = 2217 ∧
    (after .controlStep loopState).ae.extract.duty = 514 ∧
    (after .controlStep loopState).ae.extract.remainder = 640 := by decide
theorem test_holdoffExpiry :
    (after (.holdoffExpiry .supply)
      (ready.withFan .supply { FanRecord.initial with state := .holdoff })).ae.supply.state = .stopped := by decide
/-- The third stall of 3.13. -/
theorem test_startTimeExpiry :
    (after (.startTimeExpiry .extract)
      (ready.withFan .extract { FanRecord.initial with state := .starting, retries := 2 })).ae.extract.state =
        .lockedOut ∧
      (after (.startTimeExpiry .extract)
        (ready.withFan .extract { FanRecord.initial with state := .starting, retries := 2 })).eu.flags.fan = 0x0A := by
  decide
theorem test_retryWaitExpiry :
    (after (.retryWaitExpiry .extract)
      (ready.withFan .extract { FanRecord.initial with state := .stalled, qc := 120 })).ae.extract.startTime =
      some 10 := by decide
theorem test_clearLockoutFan :
    (after (.clearLockoutFan .unit (some 1))
      (ready.withFan .extract { FanRecord.initial with state := .lockedOut, retries := 3 })).ae.extract.wait =
      some 15 := by decide

/-! ## Frost guard, pre-heater, damper (4.11, 4.13) -/

/-- The guard before evaluation 14 of 4.11: dew point 144, T_EHA 19, T_ODA −60. -/
def frosting : State :=
  let s := reads (reads ventilating 3 19) 0 (-60)
  (s.setHm { s.hm with dewPoint := some 144 }).setFg
    { s.fg with state := .protect, fraction := 400, proportion := 1000, window := List.replicate 6 true }
theorem test_frostEvaluation_14 : (after .frostEvaluation frosting).fg.state = .defrost ∧
    (after .frostEvaluation frosting).fg.limit = 21 ∧ (after .frostEvaluation frosting).fg.history = [0] ∧
    (after .frostEvaluation frosting).eu.live[0] = 1 := by decide
/-- The guard before evaluation 75 of 4.11: elapsed 600, T_EHA 53. -/
def thawing : State :=
  let s := reads frosting 3 53
  s.setFg { s.fg with
    state := .defrost
    origin := some .normal
    fraction := 0
    proportion := 0
    window := []
    defrostElapsed := some 600
    history := [600] }
theorem test_frostEvaluation_75 : (after .frostEvaluation thawing).fg.state = .recover ∧
    (after .frostEvaluation thawing).fg.fraction = 400 := by decide
theorem test_preheatWindowStart :
    (after .preheatWindowStart (fitted (ventilating.setFg { ventilating.fg with proportion := 400 }))).preheat =
      { windowRunning := true, onTime := 24, output := true } := by decide
theorem test_preheatOnTimeEnd :
    (after .preheatOnTimeEnd (ventilating.setPreheat ⟨true, 24, true⟩)).preheat.output = false := by decide
theorem test_damperTimerExpiry_fails :
    (after .damperTimerExpiry (running.setDamper (damperIn .opening 90 (some 90) (some 119) .opening))).damper.state =
      .fault := by decide
/-- The open switch of 4.13 at 128 s. -/
theorem test_endSwitchMade :
    (after (.endSwitchMade .opened true)
      (fitted (running.setDamper (damperIn .opening 88 (some 70) (some 68) .opening)))).damper.position = 90 := by decide
theorem test_clearLockoutBypass_without_a_damper :
    (after (.clearLockoutBypass .unit) running).lp.answer = some { outcome := .notApplicable, kindCode := 0x20 } := by
  decide

/-! ## Humidity (5.9, 5.10) -/

/-- The manager before E3 of 5.9. -/
def showering : State :=
  let s := reads (reads ready 2 212) 4 510
  s.setHm { s.hm with rise := List.replicate 28 420 ++ [450, 480] }
theorem test_humidityEvaluation_E3 : (after .humidityEvaluation showering).hm.dewPoint = some 114 ∧
    (after .humidityEvaluation showering).hm.view = .boost ∧
    (after .humidityEvaluation showering).hm.startMinimum = some 420 ∧
    (after .humidityEvaluation showering).da.plan.target = 170 := by decide +kernel
/-- The manager before E30 of 5.10. -/
def drying : State :=
  let s := reads (reads ready 2 200) 4 290
  s.setHm { s.hm with rise := List.replicate 29 290, dryCount := 29 }
theorem test_humidityEvaluation_E30 : (after .humidityEvaluation drying).hm.view = .away ∧
    (after .humidityEvaluation drying).da.plan.target = 70 := by decide +kernel

/-! ## Filters (6.9) -/

theorem test_filterAccumulation :
    (after .filterAccumulation (ventilating.setFm { ventilating.fm with
      extract := { ventilating.fm.extract with accumulator := 3599900 } })).fm.extract.volume = 1 := by decide
/-- H2 of 6.9: dp_norm 62, LOADING. -/
theorem test_filterAssessment_H2 :
    (after .filterAssessment (reads (withFilter ready .extract (gradedFilter .clean 0)) 6 40)).fm.extract.lastDpNorm =
        some 62 ∧
      (after .filterAssessment (reads (withFilter ready .extract (gradedFilter .clean 0)) 6 40)).fm.extract.state =
        .loading := by decide
/-- H9 of 6.9: the third loaded mark running, ceiling 204. -/
theorem test_filterAssessment_H9 :
    (after .filterAssessment (reads (withFilter ready .extract (gradedFilter .loading 2)) 6 56)).da.plan.ceiling =
      204 := by decide
theorem test_filterBegin : (after (.filterBegin .tool (some 0)) running).da.plan.reason = .filterChange := by decide
theorem test_filterBegin_owned :
    (after (.filterBegin .unit (some 0)) (withFilter running .supply (changingFilter .tool))).lp.answer =
      some { outcome := .owned, kindCode := 0x10 } := by decide
theorem test_filterDone :
    (after (.filterDone .tool (some 0)) (withFilter running .supply (changingFilter .tool))).fm.supply.state =
      .learning := by decide
theorem test_filterAbandon :
    (after (.filterAbandon .tool (some 0)) (withFilter running .supply (changingFilter .tool))).fm.supply.state =
      .clean := by decide
theorem test_changeDeadlineExpiry :
    (after (.changeDeadlineExpiry .supply) (withFilter running .supply (changingFilter .tool))).eu.isSet
      .changeAbandoned = true := by decide
/-- R125: after a renewal an expiry leaves the filter CHANGING with 900 s. -/
theorem test_changeDeadlineExpiry_after_a_renewal :
    (after (.changeDeadlineExpiry .supply)
      (after (.filterBegin .tool (some 0)) (withFilter running .supply (changingFilter .tool)))).fm.supply =
      { changingFilter .tool with deadline := some 900 } := by decide
theorem test_filterSaveStart :
    (after .filterSaveStart (running.setSs { running.ss with saveWaiting := true })).ss.saving.isSome = true := by decide
theorem test_filterSaveComplete :
    (after .filterSaveComplete (running.setSs { running.ss with
      saving := some (StoredFilter.never, StoredFilter.never) })).ss.saving = none := by decide

/-! ## Requests, the season (7.2, 7.5) -/

theorem test_unknownRequest_counts : (after (.unknownRequest .unit 0x55) running).eu.live[5] = 1 := by decide
theorem test_setSeason :
    (after (.setSeason .unit (some 1)) (running.setSeason { running.season with observing := false })).season.mode =
      .summer := by decide
theorem test_setSeason_while_observed :
    (after (.setSeason .unit (some 1)) (running.setSeason { running.season with observing := true })).season.mode =
      .winter := by decide
theorem test_seasonTimer :
    (after .seasonTimer (running.setSeason { running.season with
      observing := true
      heatCallAge := 172799 })).season.lastSetBy = .noCall := by decide

/-! ## The room link (8.8) -/

theorem test_pollRoundStart :
    (after .pollRoundStart (running.setRl { running.rl with feed := true })).rl.round = [0, 1, 2, 3, 13, 14] := by decide
theorem test_pollStart :
    (after .pollStart (running.setRl { running.rl with feed := true, round := [1] })).rl.callFrame.take 4 =
      [0xA9, 0x20, 0xC1, 0x0C] := by decide
theorem test_callSent :
    (after .callSent (running.setRl { running.rl with stage := .calling 1 })).rl.stage = .window 1 := by decide
theorem test_replyWindowEnd :
    ((after .replyWindowEnd (listening running 1 { slotIn .unknown with window := List.replicate 4 true })).slot 1).state =
      .lost := by decide
theorem test_badReplyEnd : (after .badReplyEnd (listening running 1 (slotIn .present))).eu.live[3] = 1 ∧
    (after .badReplyEnd (listening running 1 (slotIn .present))).eu.live[4] = 1 := by decide
theorem test_idleReply_finds :
    (after (.idleReply 0x02) (listening running 1 Slot.lost)).eu.isSet .stationFound = true := by decide
/-- The ASK of 8.8 and 12.2: BOOST, level 3, 1800 s, answered in slot 2. -/
theorem test_askReply :
    (after (.askReply 0x02 [0x02, 0x7E]) (listening running 1 (slotIn .present))).da.table.general =
        [{ entry (.station 1) .boost 170 (some 1800) with seq := 1 }] ∧
      ((after (.askReply 0x02 [0x02, 0x7E]) (listening running 1 (slotIn .present))).slot 1).lastOutcome =
        some { outcome := .done, kindCode := 0x02 } := by decide
theorem test_tellReply :
    ((after (.tellReply 0x03 198 540 0) (listening running 2 (slotIn .present))).hm.stations[2]).reports = [540] := by
  decide
/-- The report window of 5.9 at 185 s. -/
theorem test_tellReply_humid :
    ((after (.tellReply 0x04 0 710 0) (listening (running.withStation 3 ⟨[460, 690, 720, 735], false⟩) 3
      (slotIn .present))).hm.stations[3]).humid = true := by decide
theorem test_heatReply :
    (after (.heatReply 0x0E 0x01) (listening (running.setSeason { running.season with
      mode := .summer
      observing := true }) 13 (slotIn .present))).season.lastSetBy = .heatCall := by decide
theorem test_slotTimer :
    ((after .slotTimer (running.withSlot 1 { slotIn .missing with timeMissing := some 299 })).slot 1).state = .lost := by
  decide

/-! ## The local port (9.8, 12.4) -/

/-- Strap A at level 1: the port answers 0x2D. -/
theorem test_addressByte : (after (.addressByte 0x5A) (running.setStraps ⟨1, 0, 0⟩)).lp.acked = true ∧
    (after (.addressByte 0x58) (running.setStraps ⟨1, 0, 0⟩)).lp.acked = false := by decide
/-- The STOP of 9.8: UNIT BOOST 170 m³/h, 600 s, sequence number 62, result count 18. -/
def visiting : State :=
  let s := running.setDa { running.da with table := { running.da.table with seq := 61 } }
  s.setLp { s.lp with
    stage := .writing
    requestKind := 0x02
    params := #v[0x05, 0x03, 0x00, 0x00, 0x58, 0x02, 0x00, 0x00]
    pending := true
    resultCount := 17 }
theorem test_transactionEnd : (after .transactionEnd visiting).da.table.general =
      [{ entry .unit .boost 170 (some 600) with seq := 62 }] ∧
    (after .transactionEnd visiting).lp.resultCount = 18 := by decide
theorem test_offsetWrite_takes_six_bits :
    (after (.offsetWrite 0xDE) (atOffset running .awaitOffset 0)).lp.pointer = 0x1E := by decide
theorem test_registerWrite : (after (.registerWrite 0x21) (atOffset running .writing 0x1E)).lp.requestKind = 0x21 := by
  decide
theorem test_registerRead : (after .registerRead (atOffset running .reading 0x00)).lp.sent = 0x72 := by decide
theorem test_register_pointer_wraps : (after .registerRead (atOffset running .reading 0x3F)).lp.pointer = 0 := by decide
theorem test_statusPageSelectWrite :
    (after (.statusPageSelectWrite 4) (atOffset running .writing 0x03)).lp.pageSelect = 4 := by decide
/-- Page 4, byte 0: the low byte of the plan's target, 120. -/
theorem test_statusAreaRead :
    (after .statusAreaRead (atOffset (running.setLp { running.lp with pageSelect := 4 }) .reading 0x04)).lp.sent =
      0x78 := by decide
theorem test_digestMirrorRead :
    (after .digestMirrorRead (atOffset (running.setLp { running.lp with
      answer := some { outcome := .busy, kindCode := 0x31 } }) .reading 0x3C)).lp.sent = 0x31 := by decide
theorem test_eventWordRead :
    (after .eventWordRead (atOffset (running.raise .stationFound) .reading 0x18)).lp.sent = 0x02 ∧
      (after .eventWordRead (atOffset (running.raise .stationFound) .reading 0x18)).eu.flags.system = 0 := by decide
/-- The burst of 10.5: STATION_FOUND unmasked drives the pin; SUSPEND releases it. -/
theorem test_maskWrite :
    (after (.maskWrite 0xFD) (atOffset (running.raise .stationFound) .writing 0x1C)).eu.irq = true := by decide
theorem test_suspend :
    (after (.suspend 1) (atOffset (after (.maskWrite 0xFD) (atOffset (running.raise .stationFound) .writing 0x1C))
      .writing 0x1D)).eu.irq = false := by decide
theorem test_ackAll : (after (.ackAll 2) (atOffset (running.raise .humidBoost) .writing 0x1D)).eu.flags =
    EventBytes.zero := by decide
theorem test_go : (after (.go 0) (atOffset running .writing 0x27)).lp.pending = true := by decide
theorem test_tableSelectWrite : (after (.tableSelectWrite 3) (atOffset running .writing 0x2C)).lp.tableSelect = 3 := by
  decide
theorem test_tablePointerWrite :
    (after (.tablePointerWrite 0x01) (atOffset running .writing 0x2E)).lp.tablePointer = 0x0100 := by decide
/-- Read 1 of 9.8: place 3 is at byte 24, and its first byte is the source UNIT, code 2 (12.3). -/
theorem test_tableDataRead :
    (after .tableDataRead (atOffset ((withGeneral running (fullTable.take 3 ++ [entry .unit .base 140 none])).setLp
      { running.lp with tablePointer := 24 }) .reading 0x2F)).lp.sent = 0x02 := by decide
theorem test_runningResetRequest :
    (after (.runningResetRequest 0xA5) (atOffset running .writing 0x30)).lp.resetRequested = true ∧
      (after (.runningResetRequest 0xA4) (atOffset running .writing 0x30)).lp.resetRequested = false := by decide

/-! ## Counters and the settings store (10.6, 11.7) -/

/-- The wrap of 10.6: the copy stands, COUNTER_WRAPPED is raised. -/
theorem test_count_wraps :
    ((EventUnit.initial.count true .linkMisses).live[4] = 1) ∧
      (({ EventUnit.initial with live := Vector.replicate 8 0xFFFF } : EventUnit).count true .linkMisses).isSet
        .counterWrapped = true := by decide
theorem test_hourMark :
    (after .hourMark ((running.setSs { running.ss with
      working := { Settings.factory with counterSnapshot := true } }).count .defrosts)).eu.copies[0] = 1 := by decide
theorem test_clearCounters : (after (.clearCounters .unit) (running.count .defrosts)).eu.live[0] = 0 := by decide
/-- Qmax 150 of 11.7: the levels are carried down, the ceiling is 150. -/
theorem test_writeSetting_qmax :
    (after (.writeSetting .tool (some 4) (some 150)) running).settings.levels = #v[70, 90, 120, 150, 150] ∧
      (after (.writeSetting .tool (some 4) (some 150)) running).da.plan.ceiling = 150 := by decide +kernel
/-- Qmin 90 of 11.7 is clamped to 75. -/
theorem test_writeSetting_qmin :
    (after (.writeSetting .unit (some 3) (some 90)) (after (.writeSetting .tool (some 4) (some 150)) running)).lp.answer =
      some { outcome := .doneClamped, kindCode := 0x30 } := by decide
theorem test_storeSettings : (after (.storeSettings .tool) running).ss.store = .writing := by decide
theorem test_storeStart :
    (after .storeStart (running.setSs { running.ss with store := .accepted })).ss.store = .writing := by decide
theorem test_storeDone :
    (after .storeDone (running.setSs { running.ss with store := .writing })).ss.stored.valid = true := by decide
theorem test_storeFailed :
    (after .storeFailed (running.setSs { running.ss with store := .writing })).eu.isSet .storeFailed = true := by decide

/-! ## Witnesses: for each statement with hypotheses, states and operands that meet them, clause by clause -/

/-- Every kind can be asked for by the tool, which the permission table allows all sixteen. -/
theorem witness_CanAsk : ∀ k ∈ RequestKind.all, running.CanAsk .tool k := by
  unfold State.CanAsk; decide
/-- The unit processor too, but for INJECT. -/
theorem witness_CanAsk_unit : ∀ k ∈ RequestKind.all, k ≠ .inject → running.CanAsk .unit k := by
  unfold State.CanAsk; decide
theorem witness_Acts : ready.Acts ∧ ventilating.Acts := ⟨⟨by decide, rfl⟩, ⟨by decide, rfl⟩⟩

theorem witness_IdleStepMovesTheCountdownsAlone : State.reset.pending = [] ∧ State.reset.phase = .held ∧
    running.pending = [] ∧ running.phase ≠ .held := by decide

theorem witness_MasterReset : MasterCause (.power ⟨0, 1, 2⟩) ⟨0, 1, 2⟩ .power ∧
    MasterCause (.supplyDip ⟨3, 3, 3⟩) ⟨3, 3, 3⟩ .supplyDip ∧ MasterCause (.pinMaster ⟨0, 0, 0⟩) ⟨0, 0, 0⟩ .pinMaster :=
  ⟨.inl ⟨rfl, rfl⟩, .inr (.inl ⟨rfl, rfl⟩), .inr (.inr ⟨rfl, rfl⟩)⟩

/-- A transaction that has asked for a running reset. -/
def resetting : State := running.setLp { running.lp with stage := .writing, resetRequested := true }
theorem witness_RunningReset : resetting.phase = .running ∧ resetting.lp.stage ≠ .idle ∧
    resetting.lp.resetRequested = true ∧ State.reset.phase = .held ∧ running.phase ≠ .held := by decide

/-- A store and a save being written. -/
def storing : State := running.setSs { running.ss with store := .writing }
/-- A filter save being written. -/
def saving : State :=
  running.setSs { running.ss with saving := some (StoredFilter.written FilterCore.blank, StoredFilter.never) }
theorem witness_MasterResetCutsOffWhatIsBeingWritten : storing.ss.store = .writing ∧ running.ss.store ≠ .writing ∧
    running.ss.saving = none ∧ saving.ss.saving = some (StoredFilter.written FilterCore.blank, StoredFilter.never) :=
  ⟨rfl, by decide, rfl, rfl⟩

theorem witness_MasterResetEndBeginsTheLoad : State.reset.phase = .held := rfl

/-- A record written whole passes its check. -/
theorem written_passes (set : Settings) : (StoredSettings.written set).passes = true := by
  simp [StoredSettings.passes, StoredSettings.written]
/-- A filter record written whole passes its check. -/
theorem filter_written_passes (f : FilterCore) : (StoredFilter.written f).passes = true := by
  simp [StoredFilter.passes, StoredFilter.written]
/-- A stored record in the middle of a change. -/
def storedChange : StoredFilter := StoredFilter.written { FilterCore.blank with state := .changing, saved := some .clean }
theorem witness_LoadPutsTheStoredOrTheFactoryRecordInForce :
    loading.phase = .loading ∧ loading.ss.stored.passes = false ∧ StoredFilter.never.passes = false ∧
      (StoredSettings.written Settings.factory).passes = true ∧ storedChange.passes = true ∧
      storedChange.contents.state = .changing ∧ storedChange.contents.saved = some .clean ∧
      (StoredFilter.written FilterCore.blank).passes = true ∧ FilterCore.blank.state ≠ .changing ∧
      loading.damperFitted = false ∧ (fitted loading).damperFitted = true ∧ loading.damper.closedMade = false ∧
      loading.eu.Coherent :=
  ⟨rfl, by decide, by decide, written_passes _, filter_written_passes _, rfl, rfl, filter_written_passes _, by decide,
    by decide, by decide, rfl, by unfold EventUnit.Coherent; decide⟩

/-- The ends of a temperature's, the humidity's and a pressure's range, and the readings beside them (1.1). -/
theorem witness_SampleUpdatesOneChannel : running.phase ≠ .held ∧
    ((running.channel 0).injection = .none ∧ ¬((600 : Int) < -400 ∨ (600 : Int) < 600) ∧ (600 : Int) < 601 ∧
      ¬((-400 : Int) < -400 ∨ (600 : Int) < -400) ∧ (-401 : Int) < -400) ∧
    ¬((0 : Int) < 0 ∨ (1000 : Int) < 0) ∧ ¬((1000 : Int) < 0 ∨ (1000 : Int) < 1000) ∧ ¬((-20 : Int) < -20) ∧
    (-21 : Int) < -20 ∧ Channel.initial.state = .valid ∧ suspect.state = .suspect ∧
    running.settings.kFail ≤ marks (pushWindow 8 true suspect.window) ∧
    marks (pushWindow 8 false suspect.window) < running.settings.kFail ∧
    (pushWindow 8 false settled.window).length = 8 ∧ marks (pushWindow 8 false settled.window) = 0 ∧
    marks (pushWindow 8 true settled.window) ≠ 0 := by decide

theorem witness_InjectSetsTheModeOfOneChannel : (running.channel 7).injection = .none ∧ 8 ≤ (8 : Byte).toNat ∧
    3 ≤ (3 : Byte).toNat ∧ ∀ c : Byte, (none : Option Byte) ≠ some c :=
  ⟨rfl, by decide, by decide, fun _ h => by cases h⟩

theorem witness_CordDebounceAndShortPress : running.phase ≠ .held ∧
    ((withCordRecord running (releasing 2999)).mc.cord .kitchen = releasing 2999) ∧
    (releasing 2999).pressTime < 3000 ∧ 3000 ≤ (releasing 3000).pressTime ∧
    (releasing 2999).debouncing = true ∧ (releasing 2999).pinHigh = true ∧ (releasing 2999).pressed = true ∧
    (CordRecord.initial true).debouncing = false ∧ (CordRecord.initial true).armed = false ∧
    ({ releasing 0 with pinHigh := false, pressed := false } : CordRecord).armed = true ∧
    ({ releasing 0 with pinHigh := false, pressed := false, armed := false } : CordRecord).armed = false ∧
    ({ releasing 0 with pressed := false } : CordRecord).pinHigh = true ∧ running.da.table.slot (.cord .kitchen) = none ∧
    (running.da.table.withSlot (.cord .kitchen) (some (entry .tool .boost 170 none))).slot (.cord .kitchen) ≠ none := by
  decide

theorem witness_LongHoldPostsOnePurge : (releasing 2999).pressed = true ∧ (releasing 2999).holdTaken = false ∧
    (CordRecord.initial true).pressed = false ∧ ({ releasing 3000 with holdTaken := true } : CordRecord).holdTaken = true :=
  ⟨rfl, rfl, rfl, rfl⟩

theorem witness_FlowAsked : FlowAsked Settings.factory .boost (level 4) 200 false ∧
    FlowAsked Settings.factory .boost { bare with flow := some 240 } 240 false ∧
    FlowAsked Settings.factory .boost { bare with flow := some 241 } 240 true ∧
    FlowAsked Settings.factory .boost { bare with flow := some 59 } 60 true ∧
    FlowAsked Settings.factory .boost bare 170 false ∧ FlowAsked Settings.factory .shutdown (level 5) 0 false := by
  refine ⟨?_, ?_, ?_, ?_, ?_, ?_⟩ <;>
    simp [FlowAsked, level, bare, byteOf, Settings.factory, DemandKind.defaultLevel]
theorem witness_DurationAsked : DurationAsked .boost none none false ∧ DurationAsked .purge (some 0) (some 900) false ∧
    DurationAsked .boost (some 14400) (some 14400) false ∧ DurationAsked .boost (some 14401) (some 14400) true := by
  simp [DurationAsked]
theorem witness_AcceptedDemandTakesTheNewestPlace : running.da.table.general.length < 12 ∧
    (∃ e ∈ fullTable, e.pair = (.master .tool, .base)) ∧ fullTable.length = 12 ∧ (fullTable.take 11).length < 12 ∧
    5 ≤ (5 : Byte).toNat := by decide
theorem witness_FullTableRefusesAllButShutdown : 12 ≤ (withGeneral running fullTable).da.table.general.length ∧
    (∀ e ∈ fullTable, e.pair ≠ (.master (.station 2), .base)) ∧
    (∀ e ∈ fullTable, e.pair ≠ (.master .unit, .shutdown)) ∧
    fullTable = fullTable.take 2 ++ entry .tool .base 100 none :: fullTable.drop 3 ∧
    (∀ e ∈ fullTable.take 2, e.kind = .shutdown) ∧ (entry .tool .base 100 none).kind ≠ .shutdown := by decide
theorem witness_WithdrawRemovesTheSourcesOwnEntry : (∃ e ∈ fullTable, e.pair = (.master .tool, .quiet)) ∧
    (∀ e ∈ fullTable, e.pair ≠ (.master .tool, .shutdown)) ∧ ∀ kind : DemandKind, some (7 : Byte) ≠ some kind.code := by
  refine ⟨by decide, by decide, fun kind => by cases kind <;> decide⟩
theorem witness_ExpiryCountsEveryDurationDown :
    (∀ e, Entry.tick e = match e.remaining with
      | none => some e
      | some d => if d ≤ 1 then none else some { e with remaining := some (d - 1) }) ∧
    Entry.tick (entry .tool .boost 170 (some 1)) = none ∧ Entry.tick (entry .tool .boost 170 (some 2)) ≠ none :=
  ⟨fun _ => rfl, by decide, by decide⟩
theorem witness_ResolutionGivesThePlan : DemandTable.initial.Coherent ∧
    (∀ e, DemandTable.initial.humidity = some e → e.source = .humidity) ∧
    (∀ e ∈ DemandTable.initial.entries, e.kind ≠ .shutdown) ∧
    ∃ e ∈ (withGeneral running fullTable).da.table.entries, e.kind = .shutdown := by
  refine ⟨?_, by decide, by decide, by decide⟩
  simp [DemandTable.Coherent, DemandTable.initial]
theorem witness_OutcomeReachesItsSenderAlone : (running.slot 14).state ≠ .lost ∧
    ((running.withSlot 0 Slot.lost).slot 0).state = .lost ∧ ∃ n : Fin 4, Master.station 0 = .station n ∧ (0 : Nat) = n.val :=
  ⟨by decide, rfl, 0, rfl, rfl⟩
theorem witness_UnknownKindIsRefusedUnread : (∀ k : RequestKind, k.code ≠ 0x55) ∧ running.phase = .running ∧
    running.mayRequest .unit = true ∧ running.mayRequest (.station 3) = true := by
  refine ⟨fun k => by cases k <;> decide, rfl, rfl, rfl⟩
theorem witness_RefusedRequestOnlyCounts :
    (running.handle (Request.bare 0x55 .unit)).2 ∈
      [.refusedPermission, .refusedUnknown, .tableFull, .owned, .busy, .notApplicable] ∧
    (running.handle (Request.bare 0x02 .unit)).2 ∈ [.done, .doneClamped, .doneNothing] ∧
    requestOf (.storeSettings .tool) = some (Request.bare 0x31 .tool) ∧
    RequestKind.ofCode 0x21 = some .inject ∧ running.settings.allows .inject (classOf .unit) = false := by decide

theorem witness_FanTimersAndTachoPulses : running.phase ≠ .held ∧ (running.ae.fan .supply).tacho.latest = none ∧
    (ventilating.ae.fan .supply).tacho.latest = some 500000 ∧ (ventilating.ae.fan .supply).state ≠ .holdoff ∧
    ({ FanRecord.initial with state := .stalled, qc := 1 } : FanRecord).qc > 0 ∧
    ({ FanRecord.initial with state := .starting, retries := 1 } : FanRecord).retries < 2 ∧
    2 ≤ ({ FanRecord.initial with state := .starting, retries := 2 } : FanRecord).retries := by decide
theorem witness_ControlStepMeasuresBothFans : (ventilating.ae.fan .supply).tacho.periodCount ≠ 0 ∧
    (ventilating.ae.fan .supply).tacho.periodSum / (ventilating.ae.fan .supply).tacho.periodCount ≠ 0 ∧
    (ready.ae.fan .supply).tacho.periodCount = 0 ∧ (-1000000 : Int) + 2000000 ≤ 1000000 ∧
    (1000000 : Int) < -999999 + 2000000 ∧ ∀ at0 : Int, (ready.ae.fan .supply).tacho.latest = some at0 → False :=
  ⟨by decide, by decide, rfl, by decide, by decide, fun _ h => by cases h⟩
/-- Both fans running, at the plan of 120: commands 120 and 116 (3.11). -/
theorem witness_ControlStepCommandsAndRamps : ventilating.Acts ∧
    (∀ side : Side, (ventilating.ae.fan side).state = .running ∧ (ventilating.ae.fan side).tacho.silent = false) ∧
    ventilating.da.plan.target = 120 ∧ 120 * ventilating.settings.balance * ventilating.fg.fraction / 1000000 = 116 ∧
    ventilating.settings.supplyCurve.flows[0] = 40 ∧ 120 ≤ ventilating.ae.extract.qr ∧
    (ready.withFan .extract (fanAt 119 500)).ae.extract.qr < 120 ∧
    (withGeneral ventilating [entry .tool .shutdown 0 none]).da.plan.target = 0 :=
  ⟨⟨by decide, rfl⟩, fun side => by cases side <;> decide, by decide, by decide, by decide, by decide, by decide,
    by decide⟩
theorem witness_ControlStepCommands_without_a_pair :
    (let s := ventilating.withFan .supply { FanRecord.initial with state := .lockedOut }
     s.Acts ∧ (after .controlStep s).ae.supply.state = .lockedOut ∧
       (after .controlStep s).ae.extract.qc = min 120 s.settings.unbalancedCeiling) ∧
    (let s := ready.withFan .extract { FanRecord.initial with state := .lockedOut }
     s.Acts ∧ (after .controlStep s).ae.extract.state = .lockedOut ∧ (after .controlStep s).ae.extract.qc = 0) ∧
    (ready.Acts ∧ ready.ae.extract.state ≠ .running ∧ ready.ae.extract.state ≠ .starting) :=
  ⟨⟨⟨by decide, rfl⟩, by decide, by decide⟩, ⟨⟨by decide, rfl⟩, by decide, by decide⟩,
    ⟨⟨by decide, rfl⟩, by decide, by decide⟩⟩
theorem witness_ControlStepDrivesTheSpeedLoop : loopState.phase ≠ .held ∧ (loopState.ae.fan .extract).state = .running ∧
    ((after .controlStep loopState).ae.fan .extract).state = .running ∧ (loopState.channel 6).state ≠ .failed ∧
    (loopState.fm.filter .extract).dpClean = some 40 ∧ (loopState.fm.filter .supply).dpClean = none ∧
    ((failed loopState 6).channel 6).state = .failed ∧
    ((after .controlStep loopState).ae.fan .extract).duty = 514 := by decide
theorem witness_CurveInterpolatesBetweenItsPoints :
    (∀ i j : Fin 8, i < j → Settings.factory.extractCurve.flows[i] < Settings.factory.extractCurve.flows[j]) ∧
    40 ≤ Settings.factory.extractCurve.flows[0] ∧ Settings.factory.extractCurve.flows[0] < 41 ∧
    (Settings.factory.extractCurve.flows[7] < Settings.factory.extractCurve.flows[7] + 1) := by decide
theorem witness_CommandsStartAndStopTheFans : ready.mc.ready = true ∧ 0 < ready.da.plan.target ∧
    0 < ready.settings.unbalancedCeiling ∧ ready.ae.extract.state = .stopped ∧ running.mc.ready = false ∧
    ventilating.ae.extract.state = .running ∧
    (let s := ready.withFan .extract { fanAt 0 300 with state := .starting }
     s.ae.extract.state = .starting ∧ s.settings.provingSpeed ≤ (after .controlStep s).ae.extract.measured) ∧
    (let s := ready.withFan .extract { FanRecord.initial with state := .starting, duty := 300 }
     s.ae.extract.state = .starting ∧ (after .controlStep s).ae.extract.measured < s.settings.provingSpeed) ∧
    (let s := ventilating.withFan .supply { fanAt 0 300 with state := .starting }
     0 < (after .controlStep s).ae.supply.qc ∧ s.ae.supply.state = .starting ∧ s.ae.supply.qr = 0 ∧
       s.settings.provingSpeed ≤ (after .controlStep s).ae.supply.measured ∧
       (after .controlStep s).ae.supply.state = .running) ∧
    (let s := ventilating.withFan .supply { FanRecord.initial with state := .starting, duty := 300 }
     0 < (after .controlStep s).ae.supply.qc ∧ (after .controlStep s).ae.supply.measured < s.settings.provingSpeed) ∧
    (let s := ventilating.withFan .supply FanRecord.initial
     0 < (after .controlStep s).ae.supply.qc ∧ (after .controlStep s).ae.supply.state = .starting) ∧
    (after .controlStep ready).ae.supply.qc = 0 ∧ ready.ae.supply.state = .stopped := by decide
/-- A STARTING supply fan whose command is 0 while the plan is 120; and fans that take no start from a command. -/
theorem witness_CommandsOfOneFan :
    (let s := ready.withFan .supply { FanRecord.initial with state := .starting, duty := 300 }
     0 < s.da.plan.target ∧ (after .controlStep s).ae.supply.qc = 0 ∧ (after .controlStep s).ae.supply.state = .holdoff) ∧
    (∀ x ∈ [FanState.holdoff, .stalled, .lockedOut],
      let s := ready.withFan .extract { FanRecord.initial with state := x, wait := some 7 }
      s.phase ≠ .held ∧ (s.ae.fan .extract).qr = 0 ∧ (after .controlStep s).ae.extract.state = x ∧
        (after .controlStep s).ae.extract.wait = some 7) := by decide
/-- The extract fan of 3.13 at 102 s. -/
def silentFan (retries : Nat) : FanRecord :=
  { fanAt 120 150 with retries := retries, tacho := { latest := some (-1000000), periodSum := 0, periodCount := 0 } }
theorem witness_SilentRunningFanStalls : (ready.withFan .extract (silentFan 1)).phase ≠ .held ∧
    (silentFan 1).state = .running ∧ 150 ≤ (silentFan 1).duty ∧
    (∀ at0, (silentFan 1).tacho.latest = some at0 → at0 + 2000000 ≤ 1000000) ∧ (silentFan 1).retries < 2 ∧
    2 ≤ (silentFan 2).retries := by
  refine ⟨by decide, rfl, by decide, fun at0 h => ?_, by decide, by decide⟩
  have : at0 = -1000000 := by simpa [silentFan] using h.symm
  omega
theorem witness_ClearLockoutFreesAFanOrTheDamper : FanRecord.initial.state ≠ .lockedOut ∧
    ((ready.withFan .supply { FanRecord.initial with state := .lockedOut }).ae.fan .supply).state = .lockedOut ∧
    3 ≤ (3 : Byte).toNat ∧ running.damperFitted = false ∧ (fitted running).damperFitted = true ∧
    (fitted running).damper.state ≠ .fault ∧ (damperIn .fault 0 none none .closing).closedMade = false ∧
    ({ damperIn .fault 0 none none .off with closedMade := true } : Damper).closedMade = true := by decide

theorem witness_EvaluationSetsTheLimitAndPauses : running.mc.ready = false ∧ ready.Acts ∧ ready.hm.dewPoint = none ∧
    frosting.hm.dewPoint = some 144 ∧ (frosting.channel chRh).state ≠ .failed ∧ (frosting.channel chEta).state ≠ .failed ∧
    frosting.ae.extract.state = .running ∧ ready.ae.extract.state ≠ .running ∧ ready.fg.state ≠ .frostHold ∧
    ((failed ready chOda).channel chOda).state = .failed ∧
    ready.settings.frostEnable ≤ ((reads ready chOda 30).channel chOda).filtered ∧
    ((reads ready chOda 29).channel chOda).filtered < ready.settings.frostEnable :=
  ⟨rfl, ⟨by decide, rfl⟩, rfl, rfl, by decide, by decide, by decide, by decide, by decide, rfl, by decide, by decide⟩
/-- The guard in a state with an empty window, the extract fan running, at a T_ODA and a T_EHA. -/
def guarding (state : FrostState) (oda eha : Int) : State :=
  let s := reads (reads ventilating chEha eha) chOda oda
  s.setFg { s.fg with state := state }
/-- INACTIVE at a cold and at a warm T_ODA; WATCH with a clear window 10 above frost_enable and just below it. -/
theorem witness_EvaluationMovesBetweenInactiveAndWatch :
    (guarding .inactive 29 200).Acts ∧ (guarding .inactive 29 200).ae.extract.state = .running ∧
    ((guarding .inactive 29 200).channel chEha).state ≠ .failed ∧ ready.settings.frostEnable = 30 ∧
    (after .frostEvaluation (guarding .inactive 29 200)).fg.state = .watch ∧
    (after .frostEvaluation (guarding .inactive 30 200)).fg.state = .inactive ∧
    marks (pushWindow 6 false (guarding .watch 40 200).fg.window) = 0 ∧
    (after .frostEvaluation (guarding .watch 40 200)).fg.state = .inactive ∧
    (after .frostEvaluation (guarding .watch 39 200)).fg.state = .watch :=
  ⟨⟨by decide, rfl⟩, by decide, by decide, by decide, by decide, by decide, by decide, by decide, by decide⟩
/-- A clear window in PROTECT and in RECOVER, below the fraction 1000 and at it; and a window with one mark. -/
theorem witness_ClearWindowStepsBack :
    (guarding .protect (-60) 200).Acts ∧ (guarding .recover (-60) 200).Acts ∧
    (guarding .protect (-60) 200).ae.extract.state = .running ∧
    marks (pushWindow 6 false (guarding .protect (-60) 200).fg.window) = 0 ∧
    marks (pushWindow 6 true (guarding .protect (-60) 0).fg.window) = 1 ∧ 1 < running.settings.kFrost ∧
    (after .frostEvaluation (guarding .protect (-60) 200)).fg.state = .watch ∧
    (after .frostEvaluation (guarding .protect (-60) 0)).fg.state = .protect ∧
    (let s := guarding .protect (-60) 200
     (after .frostEvaluation (s.setFg { s.fg with proportion := 400 })).fg.proportion = 200) ∧
    (let s := guarding .recover (-60) 200
     (after .frostEvaluation (s.setFg { s.fg with fraction := 400 })).fg.state = .recover) :=
  ⟨⟨by decide, rfl⟩, ⟨by decide, rfl⟩, by decide, by decide, by decide, by decide, by decide, by decide, by decide,
    by decide⟩
theorem witness_ColdWindowEscalates : frosting.Acts ∧ frosting.ae.extract.state = .running ∧
    frosting.fg.state ∈ [.watch, .protect, .recover] ∧ (frosting.channel chEha).state ≠ .failed ∧
    (frosting.channel chEha).filtered < frosting.settings.frostBaseLimit + frosting.frostInputs.adder ∧
    frosting.settings.kFrost ≤ marks (pushWindow 6 true frosting.fg.window) ∧ frosting.preheaterFitted = false ∧
    frosting.fg.fraction ≤ frosting.settings.minFraction ∧ frosting.settings.minFraction < 401 ∧
    ((frosting.fg.history.map fun a => a + 10).filter fun a => decide (a < 3600)).length < 3 ∧
    3 ≤ ([3580, 1800, 700].map fun a => a + 10 : List Nat).length ∧ (fitted frosting).preheaterFitted = true ∧
    (fitted (frosting.setFg { frosting.fg with proportion := 800 })).fg.proportion < 1000 :=
  ⟨⟨by decide, rfl⟩, by decide, by decide, by decide, by decide, by decide, by decide, by decide, by decide, by decide,
    by decide, by decide, by decide⟩
theorem witness_DefrostsAndHoldsEnd : thawing.Acts ∧ thawing.ae.extract.state = .running ∧
    thawing.fg.state = .defrost ∧ thawing.fg.origin = some .normal ∧ thawing.fg.defrostElapsed = some 600 ∧
    3 * thawing.settings.defrostTime ≤ 1790 + 10 ∧ 600 + 10 < 3 * thawing.settings.defrostTime ∧
    thawing.settings.defrostTime ≤ 590 + 10 ∧ 580 + 10 < thawing.settings.defrostTime ∧
    (thawing.channel chEha).state ≠ .failed ∧ ((failed thawing chEha).channel chEha).state = .failed ∧
    (after .frostEvaluation thawing).fg.limit + thawing.settings.exitMargin ≤ (thawing.channel chEha).filtered ∧
    14400 ≤ 14390 + 10 ∧ 3600 ≤ 3590 + 10 ∧ 3580 + 10 < 3600 :=
  ⟨⟨by decide, rfl⟩, by decide, rfl, rfl, rfl, by decide, by decide, by decide, by decide, by decide, rfl, by decide,
    by decide, by decide, by decide⟩
/-- A frost hold with the extract fan running, entered at a T_ODA. -/
def holding (elapsed : Nat) (entryOda : Option Int) (oda : Int) : State :=
  let s := guarding .frostHold oda 200
  s.setFg { s.fg with holdElapsed := some elapsed, holdEntryOda := entryOda }
/-- The guard in FALLBACK, T_EHA failed. -/
def fallingBack (oda : Int) (cycle : Option Nat) : State :=
  let s := failed (guarding .fallback oda 200) chEha
  s.setFg { s.fg with fallbackCycle := cycle }
/-- A defrost of FALLBACK. -/
def fallbackDefrost (elapsed : Nat) : State :=
  let s := failed (guarding .defrost (-150) 200) chEha
  s.setFg { s.fg with origin := some .fallback, defrostElapsed := some elapsed, fraction := 0, fallbackCycle := some 0 }
theorem witness_HoldsGoOn : (holding 3590 (some (-60)) (-41)).Acts ∧
    (after .frostEvaluation (holding 3590 (some (-60)) (-40))).fg.state = .recover ∧
    (after .frostEvaluation (holding 3590 (some (-60)) (-41))).fg.state = .frostHold ∧
    (after .frostEvaluation (holding 3580 (some (-60)) 0)).fg.state = .frostHold ∧
    (after .frostEvaluation (holding 14380 none (-60))).fg.state = .frostHold ∧
    (after .frostEvaluation (holding 14390 none (-60))).fg.state = .recover ∧
    (let s := ready.setFg (holding 14390 none 0).fg
     s.Acts ∧ s.ae.extract.state ≠ .running ∧ s.fg.state = .frostHold ∧ s.fg.holdElapsed = some 14390 ∧
       (after .frostEvaluation s).fg.paused = true) :=
  ⟨⟨by decide, rfl⟩, by decide, by decide, by decide, by decide, by decide,
    ⟨⟨by decide, rfl⟩, by decide, rfl, rfl, by decide⟩⟩
theorem witness_FallbackEntersDefrostsAndLeaves : (fallingBack (-60) none).Acts ∧
    (fallingBack (-60) none).ae.extract.state = .running ∧ ((fallingBack (-60) none).channel chEha).state = .failed ∧
    (let s := failed (guarding .watch (-60) 200) chEha
     s.Acts ∧ (after .frostEvaluation s).fg.state = .fallback ∧ (after .frostEvaluation s).fg.fraction = 600) ∧
    (after .frostEvaluation (fallingBack (-100) (some 500))).fg.fallbackCycle = none ∧
    (after .frostEvaluation (fallingBack (-101) none)).fg.fallbackCycle = some 0 ∧
    (after .frostEvaluation (fallingBack (-101) (some 3580))).fg.fallbackCycle = some 3590 ∧
    (after .frostEvaluation (fallingBack (-101) (some 3590))).fg.origin = some .fallback ∧
    (after .frostEvaluation (fallingBack 40 none)).fg.state = .inactive ∧
    (after .frostEvaluation (guarding .fallback 39 200)).fg.state = .watch ∧
    (fallbackDefrost 580).Acts ∧ (after .frostEvaluation (fallbackDefrost 580)).fg.defrostElapsed = some 590 ∧
    (after .frostEvaluation (fallbackDefrost 590)).fg.state = .fallback :=
  ⟨⟨by decide, rfl⟩, by decide, by decide, ⟨⟨by decide, rfl⟩, by decide, by decide⟩, by decide, by decide, by decide,
    by decide, by decide, by decide, ⟨by decide, rfl⟩, by decide, by decide⟩
theorem witness_PreheaterRunsInWindows : (fitted ventilating).ae.supply.state = .running ∧
    (fitted ventilating).preheaterFitted = true ∧ ready.ae.supply.state ≠ .running ∧ ready.preheaterFitted = false ∧
    (after .controlStep ventilating).ae.supply.state = .running ∧ (after .controlStep ready).ae.supply.state ≠ .running ∧
    (ventilating.setPreheat ⟨true, 59, true⟩).preheat.onTime < 60 ∧ 60 ≤ (⟨true, 60, true⟩ : Preheat).onTime := by decide
/-- A damper opening, at its estimate. -/
def openingAt (position elapsed : Nat) : Damper := damperIn .opening position (some 90) (some elapsed) .opening
/-- The summer evening of 4.13 at 0 s, the extract fan running. -/
def summer : State :=
  let s := fitted (reads (reads (reads (ready.withFan .extract (fanAt 120 500)) chEta 245) chOda 150) chEha 200)
  s.setSeason { s.season with mode := .summer }
theorem witness_DamperTravelsAndFails : (openingAt 89 118).elapsed = some 118 ∧ 118 + 1 < 90 + 30 ∧ 90 + 30 ≤ 119 + 1 ∧
    running.damper.state ≠ .opening ∧ running.damper.state ≠ .closing ∧ (openingAt 89 118).state ≠ .fault ∧ summer.Acts ∧ summer.damperFitted = true ∧
    (after .frostEvaluation summer).fg.wantedOpen = true ∧ summer.fg.state = .inactive ∧
    (after .frostEvaluation summer).fg.state = .inactive ∧ summer.damper.openMade = false ∧
    summer.damper.state = .closed ∧ (after .frostEvaluation summer).damper.state = .opening ∧
    (after .frostEvaluation (reads summer chOda 235)).fg.wantedOpen = false ∧
    (after .frostEvaluation (reads summer chOda (-60))).fg.state ≠ .inactive :=
  ⟨rfl, by decide, by decide, by decide, by decide, by decide, ⟨by decide, rfl⟩, by decide, by decide, by decide,
    by decide, by decide, by decide, by decide, by decide, by decide⟩

/-- A summer within the bands (comfort 220, T_ETA 225, T_ODA 150): the indication keeps what it was; a travel whose
target switch is made completes at once; without a damper nothing moves. -/
theorem witness_WantedOpenKeepsItsValue : (reads summer chEta 215).Acts ∧ (reads summer chEta 215).damperFitted = true ∧
    (∀ before : Bool,
      (after .frostEvaluation ((reads summer chEta 215).setFg
        { (reads summer chEta 215).fg with wantedOpen := before })).fg.wantedOpen = before) ∧
    (after .frostEvaluation (summer.setDamper { summer.damper with openMade := true })).damper.state = .opened ∧
    (let s := (reads summer chOda (-60)).setDamper { openingAt 30 30 with closedMade := true }
     (after .frostEvaluation s).fg.wantedOpen = false ∧ (after .frostEvaluation s).damper.state = .closed) ∧
    ready.Acts ∧ ready.damperFitted = false :=
  ⟨⟨by decide, rfl⟩, by decide, by decide, by decide, ⟨by decide, by decide⟩, ⟨by decide, rfl⟩, by decide⟩

theorem witness_HumidBoostStartsAndEnds : running.mc.ready = false ∧ showering.Acts ∧
    showering.channelFailed chRh = false ∧ showering.filtered chRh = 510 ∧ showering.hm.view ≠ .boost ∧
    (420 : Int) ∈ pushWindow 30 (510 : Int) showering.hm.rise ∧ (showering.settings.riseThreshold : Int) ≤ 510 - 430 ∧
    (drying.filtered chRh) < (drying.settings.highLimit : Int) ∧ (failed showering chRh).channelFailed chRh = true ∧
    (showering.withStation 0 ⟨[], true⟩).hm.stations[0].humid = true ∧ 580 < 590 ∧
    (458 : Int) < 420 + (showering.settings.riseThreshold / 2 : Nat) ∧
    (458 : Int) < (showering.settings.highLimit : Int) - 50 :=
  ⟨rfl, ⟨by decide, rfl⟩, by decide, by decide, by decide, by decide, by decide, by decide, by decide, rfl, by decide,
    by decide, by decide⟩
theorem witness_DryProtectionPostsAndWithdraws : drying.Acts ∧ drying.hm.view = .none ∧
    drying.filtered chRh < (drying.settings.lowLimit : Int) ∧ min 30 (drying.hm.dryCount + 1) = 30 ∧
    drying.season.mode = .winter ∧ (300 : Int) + 50 ≤ 350 ∧ (349 : Int) < (drying.settings.lowLimit : Int) + 50 ∧
    SlotNames .away (some { source := .humidity, kind := .away, flow := 70, remaining := none, seq := 1 }) :=
  ⟨⟨by decide, rfl⟩, by decide, by decide, by decide, by decide, by decide, by decide, _, rfl, rfl, rfl, rfl⟩
/-- The manager in a boost that ends at this evaluation, dry for 29 evaluations. -/
def boostEnding : State :=
  drying.setHm { drying.hm with view := .boost, boostElapsed := some 590, startMinimum := some 290 }
theorem witness_DryProtection_after_a_boost : boostEnding.Acts ∧ boostEnding.hm.view = .boost ∧
    (after .humidityEvaluation boostEnding).hm.view = .away ∧
    SlotNames .boost (some { source := .humidity, kind := .boost, flow := 170, remaining := none, seq := 1 }) :=
  ⟨⟨by decide, rfl⟩, rfl, by decide +kernel, _, rfl, rfl, rfl, rfl⟩

theorem witness_AccumulationCountsVolumeAndTime : ventilating.phase = .running ∧ ventilating.ae.supply.qr = 116 ∧
    ready.ae.supply.qr = 0 ∧ 3599883 + 116 < 3600000 ∧ 3600000 ≤ 3599884 + 116 ∧ 3598 + 1 ≠ 3600 ∧
    3599 + 1 = 3600 := by decide
theorem witness_AssessmentJudgesBothFilters : ready.phase = .running ∧ ready.mc.ready = true ∧
    (gradedFilter .clean 0).state ≠ .changing ∧ ready.settings.assessMinFlow ≤ (gradedFilter .clean 0).steadyFlow ∧
    (gradedFilter .clean 0).steadyCount = 60 ∧ (ready.channel 6).state = .valid ∧
    (gradedFilter .clean 0).dpClean = some 40 ∧ 40 * ready.settings.loadedPct / 100 = 80 ∧
    40 * ready.settings.blockedPct / 100 = 120 ∧ 40 * (100 + ready.settings.loadedPct) / 200 = 60 ∧
    ready.settings.absentThreshold = 5 ∧ ready.ss.store = .idle ∧ ready.ss.saving = none ∧ storing.ss.store ≠ .idle := by
  decide
theorem witness_ChangeProtocol : (changingFilter .tool).state = .changing ∧ (changingFilter .tool).owner = some .tool ∧
    (changingFilter .unit).owner ≠ some .tool ∧ (changingFilter .tool).saved = some .clean ∧
    cleanFilter.state ≠ (changingFilter .tool).state ∧ 2 ≤ (2 : Byte).toNat ∧
    (withFilter running .supply (changingFilter .tool)).phase ≠ .held ∧ (changingFilter .tool).deadline = some 1 ∧
    ({ changingFilter .tool with deadline := some 2 } : FilterRecord).deadline = some 2 ∧
    FilterState.clean ≠ .changing := by decide
theorem witness_SeasonFollowsTheMasterOrTheTimer : running.season.mode = .winter ∧ 172798 + 1 < 172800 ∧
    172799 + 1 = 172800 ∧ (running.setSeason { running.season with observing := false }).season.observing = false ∧
    (running.setSeason { running.season with observing := true }).season.observing = true ∧
    2 ≤ (2 : Byte).toNat := by decide

/-- The link with a round of two addresses left: one LOST and not due, one PRESENT. -/
def polling : State :=
  let s := ((running.withSlot 0 Slot.lost).withSlot 1 (slotIn .present))
  s.setRl { s.rl with feed := true, roundCounter := 1, round := [0, 1] }
theorem witness_PollRoundsCallTheDueAddresses : polling.phase = .running ∧ polling.rl.feed = true ∧
    polling.rl.stage = .idle ∧ polling.rl.round = [0] ++ 1 :: [] ∧ polling.due 0 = false ∧ polling.due 1 = true ∧
    (∀ i ∈ (running.setRl { running.rl with feed := true }).rl.round, running.due i = false) ∧
    running.rl.feed = false ∧ (running.setRl { running.rl with stage := .calling 14 }).rl.stage = .calling 14 ∧
    ∀ i : Fin 15, running.rl.stage ≠ .calling i := by decide
/-- No filter is under change where a window opens on the part running. -/
theorem witness_ChangesCoherent (x : Slot) : (listening running 1 x).ChangesCoherent := by
  have fm : (listening running 1 x).fm = State.reset.fm := rfl
  have ss : (listening running 1 x).ss = State.reset.ss := rfl
  rw [State.ChangesCoherent, fm, ss]
  simp [FilterRecord.Coherent, State.reset, Filters.initial, FilterRecord.loaded, FilterCore.blank,
    SettingsStore.initial, StoredFilter.never]
/-- The same slot's window open with its address taken off the poll list. -/
def leaving (x : Slot) : State :=
  let s := listening running 1 x
  s.setRl { s.rl with lossDue := true }
theorem witness_PollsWithALossDue : (leaving (slotIn .present)).Listening 1 ∧
    (leaving (slotIn .present)).ChangesCoherent ∧ (leaving (slotIn .present)).rl.lossDue = true ∧
    ((leaving (slotIn .present)).slot 1).state = .present ∧ ((leaving Slot.lost).slot 1).state = .lost ∧
    slotMaster 1 = some (.station 1) ∧ (0x02 : Byte).toNat % 16 = 1 + 1 :=
  ⟨⟨rfl, rfl⟩, witness_ChangesCoherent (slotIn .present), rfl, by decide, by decide, by decide, by decide⟩
theorem witness_SilentPartnersGoMissingAndAreLost : (listening running 1 (slotIn .present)).Listening 1 ∧
    (listening running 1 (slotIn .present)).rl.lossDue = false ∧
    pushWindow 5 true (List.replicate 4 true) = [true, true, true, true, true] ∧
    pushWindow 5 true [true, true, true] ≠ [true, true, true, true, true] ∧
    3 ≤ marks (pushWindow 5 true [true, false, true]) ∧ marks (pushWindow 5 true [true, false, false]) < 3 ∧
    (0x13 : Byte).toNat % 16 ≠ 1 + 1 ∧ (12 : Nat) < (List.replicate 13 (0 : Byte)).length ∧
    (∀ i : Fin 15, running.rl.stage ≠ .window i) ∧
    ({ slotIn .missing with timeMissing := some 298 } : Slot).timeMissing = some 298 ∧ 298 + 1 < 300 ∧ 300 ≤ 299 + 1 :=
  ⟨⟨rfl, rfl⟩, rfl, by decide, by decide, by decide, by decide, by decide, by decide, by decide, rfl, by decide, by decide⟩
theorem witness_GoodRepliesTakePresenceThenContent : (listening running 13 Slot.lost).Listening 13 ∧
    (listening running 13 Slot.lost).rl.lossDue = false ∧ (0x0E : Byte).toNat % 16 = 13 + 1 ∧
    13 + 1 = running.settings.heatAddress ∧ 1 ≤ ({ slotIn .missing with goodRun := 1 } : Slot).goodRun ∧
    (slotIn .missing).goodRun = 0 ∧ marks (pushWindow 5 false (slotIn .present).window) < 3 ∧
    1000 < (1001 : Word16).toNat ∧ (1000 : Word16).toNat ≤ 1000 ∧ running.season.observing = true :=
  ⟨⟨rfl, rfl⟩, rfl, by decide, by decide, by decide, by decide, by decide, by decide, by decide, by decide⟩
theorem witness_AsksBecomeRequests : (listening running 1 (slotIn .present)).Listening 1 ∧
    (0x02 : Byte).toNat % 16 = 1 + 1 ∧ 1 ≤ ([0x02, 0x7E] : List Byte).length ∧
    ([0x02, 0x7E] : List Byte).length ≤ 12 ∧ (4 : Nat) ≤ (13 : Fin 15).val ∧ (13 : Fin 15).val < 14 ∧
    (after (.askReply 0x02 [0x02, 0x7E]) (listening running 1 (slotIn .present))).rl.lossDue = false :=
  ⟨⟨rfl, rfl⟩, by decide, by decide, by decide, by decide, by decide, by decide⟩

/-- The parameter bytes cut off within a word: the word is absent, the byte before it is read. -/
theorem test_request_cut_off : (Request.ofParams .tool 0x21 [0x03, 0x05]).channel = some 5 ∧
    (Request.ofParams .tool 0x21 [0x03, 0x05]).mode = none ∧
    (Request.ofParams .tool 0x30 [0x03, 0x04, 0x00, 0x96]).settingId = some 4 ∧
    (Request.ofParams .tool 0x30 [0x03, 0x04, 0x00, 0x96]).value = none := by decide
/-- The functions that the premises of the parameters' layout ask for. -/
theorem witness_ParametersOfA_request (params : List Byte) : ∃ (has : Nat → Bool) (one : Nat → Nat → Option Byte)
    (two : Nat → Nat → Option Word16),
    (∀ n, has n = true ↔ ∃ b, params[0]? = some b ∧ b.getLsbD n = true) ∧
    (∀ n p, one n p = if has n then params[p]? else none) ∧
    (∀ n p w, two n p = some w ↔
      has n = true ∧ ∃ lo hi, params[p]? = some lo ∧ params[p + 1]? = some hi ∧ w = hi ++ lo) := by
  refine ⟨fun n => (params[0]?.map fun b => b.getLsbD n).getD false, fun n p =>
    if (params[0]?.map fun b => b.getLsbD n).getD false then params[p]? else none, fun n p =>
    if (params[0]?.map fun b => b.getLsbD n).getD false then
      params[p]?.bind fun lo => params[p + 1]?.map fun hi => hi ++ lo else none, ?_, ?_, ?_⟩
  · intro n; cases params[0]? <;> simp
  · intro n p; rfl
  · intro n p w; beta_reduce; cases params[0]? <;> cases params[p]? <;> cases params[p + 1]? <;> simp [@eq_comm _ w]

theorem witness_PortAddressingAndTheEndOfATransaction : running.portAnswers = true ∧
    (running.setResetPin true).portAnswers = false ∧ (0x58 : Byte).toNat = 2 * (0x2C + running.straps.a.val) ∧
    (0x59 : Byte).toNat = 2 * (0x2C + running.straps.a.val) + 1 ∧ (0x5A : Byte).toNat / 2 ≠ 0x2C + running.straps.a.val ∧
    running.lp.stage = .idle ∧ visiting.lp.stage ≠ .idle ∧ visiting.lp.pending = true ∧
    visiting.lp.resetRequested = false ∧ (atOffset running .awaitOffset 0).lp.stage = .awaitOffset ∧
    resetting.lp.resetRequested = true ∧ (atOffset running .writing 0).lp.pending = false := by decide
theorem witness_PortWritesReachTheirRegisters : (atOffset running .writing 0x1E).phase = .running ∧
    (atOffset running .writing 0x1E).lp.stage = .writing ∧
    ∀ p : Fin 64, (atOffset running .writing p.val).lp.pointer.toNat = p.val := by decide
theorem witness_PortReadsSendTheirRegisters : (atOffset running .reading 0x2F).phase = .running ∧
    (atOffset running .reading 0x2F).lp.stage = .reading ∧
    (∀ p : Fin 64, (atOffset running .reading p.val).lp.pointer.toNat = p.val) ∧
    Table.ofSelect running.lp.tableSelect = some .demand ∧ 14 < Table.demand.count ∧ 7 < Table.demand.size ∧
    119 = 14 * Table.demand.size + 7 ∧ Table.demand.count * Table.demand.size ≤ 120 ∧ Table.ofSelect 9 = none ∧
    running.fg.history.length ≤ 4 ∧ (running.channel 7).history.length ≤ 4 ∧
    settingTable[0]? = some (1, .kFail) := by decide
/-- The bytes of 12.4 and 12.5, counted out by hand: page 1 of a fan at 500 ‰ and 120 m³/h, the DEMAND entry of 9.8, and
the plan of 120 at the head of the digest. -/
theorem test_bytes_of_the_formats :
    (ventilating.statusPage 2).take 9 = [0x03, 0xF4, 0x01, 0x00, 0x00, 0x00, 0x00, 0x78, 0x00] ∧
    (withGeneral running [entry .unit .boost 170 (some 600)]).tableEntry .demand 0 =
      [0x02, 0x02, 0xAA, 0x00, 0x58, 0x02, 0x00, 0x00] ∧
    running.digestCommon.take 7 = [0x78, 0x00, 0x00, 0x00, 0x00, 0x00, 0x08] := by decide
theorem witness_EventWordsMasksAndThePin : running.eu.Coherent ∧
    (atOffset running .reading 0x18).lp.pointer.toNat = 0x15 + 3 ∧
    (atOffset running .writing 0x19).lp.pointer.toNat = 0x19 + 0 ∧
    (atOffset running .writing 0x1D).lp.pointer.toNat = 0x1D ∧ (2 : Byte).getLsbD 1 = true := by
  unfold EventUnit.Coherent; decide
theorem witness_CountersCountCopyAndClear : running.phase ≠ .held ∧ running.settings.counterSnapshot = false ∧
    (running.setSs { running.ss with
      working := { Settings.factory with counterSnapshot := true } }).settings.counterSnapshot = true ∧
    (∀ n : Fin 8, running.eu.live[n] = 0 ∧ running.eu.copies[n] = 0) ∧ (running.count .defrosts).eu.live[0] ≠ 0 := by
  decide

/-- The factory record is within every range and every limit. -/
theorem factory_legal : Settings.factory.Legal := by
  refine ⟨fun id => ?_, by decide⟩
  unfold Settings.Admits
  cases id with
  | level i => revert i; decide
  | curveFlow side i => cases side <;> revert i <;> decide
  | curveSpeed side i => cases side <;> revert i <;> decide
  | permission k c => cases k <;> cases c <;> decide
  | _ => decide
theorem witness_WriteSettingClampsAndWrites : running.settings.Legal ∧ running.ss.store = .idle ∧
    storing.ss.store ≠ .idle ∧ SettingId.ofId (3 : Word16).toNat = some .qmin ∧
    SettingId.ofId (0x2C : Word16).toNat = some .pollList ∧ SettingId.ofId (0x2D : Word16).toNat = none ∧
    (max (20 : Int) (min 120 (max 20 (min 200 121)))) = 120 :=
  ⟨factory_legal, rfl, by decide, by decide, by decide, by decide, by decide⟩
/-- A write of the tool. -/
def wrote (id value : Word16) (s : State) : State := after (.writeSetting .tool (some id) (some value)) s
/-- One write for each setting that reaches an owner, and one that reaches none; each changes the record. -/
theorem witness_WrittenSettingsReachTheirOwners : running.CanAsk .tool .writeSetting ∧ running.ss.store = .idle ∧
    (∀ p ∈ ([(0x04, 150, .qmax), (0x1B, 500, .minFraction), (0x1F, 60, .bypassTravel), (0x13, 200, .qref),
        (0x29, 0, .seasonObserve), (0x2A, 13, .heatAddress), (0x2B, 1, .counterSnapshot), (0x2C, 0xC01C, .pollList),
        (0x01, 5, .kFail)] : List (Word16 × Word16 × SettingId)),
      SettingId.ofId p.1.toNat = some p.2.2 ∧ (wrote p.1 p.2.1 running).settings.get p.2.2 = p.2.1.toInt) ∧
    (wrote 0x2B 0 (wrote 0x2B 1 running)).settings.counterSnapshot = false ∧
    (wrote 0x2A 13 running).season.heatCallAge = 0 ∧ running.settings.listed 1 = true ∧
    (wrote 0x2C 0xC01C running).settings.listed 1 = false ∧ running.rl.stage.slot = none ∧
    (running.slot 0).state ≠ .lost ∧ running.PlanCurrent :=
  ⟨⟨rfl, rfl, rfl⟩, rfl, by decide, by decide, by decide, by decide, by decide, rfl, by decide,
    fun _ => ⟨rfl, rfl, rfl⟩⟩
/-- STATION1 owns a filter change and an entry, and its address leaves the list: at once, or due where its own poll is in
progress. -/
def owning : State :=
  (withFilter (withGeneral (running.withSlot 0 (slotIn .present)) [entry (.station 0) .boost 170 none,
    entry .tool .base 140 none]) .supply (changingFilter (.station 0)))
theorem witness_WrittenPollList : (owning.CanAsk .tool .writeSetting ∧ owning.ChangesCoherent) ∧
    slotMaster 0 = some (.station 0) ∧ (wrote 0x2C 0xC01C owning).slot 0 = Slot.lost ∧
    (wrote 0x2C 0xC01C owning).fm.supply.owner = none ∧ (wrote 0x2C 0xC01C owning).eu.isSet .stationLost = true ∧
    (wrote 0x2C 0xC01C owning).da.table.general = [entry .tool .base 140 none] ∧
    (wrote 0x2C 0xC01C (listening running 0 (slotIn .present))).rl.lossDue = true ∧
    (wrote 0x2C 0xC01E (wrote 0x2C 0xC01C (listening running 0 (slotIn .present)))).rl.lossDue = true := by
  refine ⟨⟨⟨rfl, rfl, rfl⟩, ?_⟩, by decide, by decide, by decide, by decide, by decide, by decide, by decide⟩
  have fm : owning.fm = State.reset.fm.withFilter .supply (changingFilter (.station 0)) := rfl
  have ss : owning.ss = State.reset.ss := rfl
  rw [State.ChangesCoherent, fm, ss]
  simp [FilterRecord.Coherent, State.reset, Filters.initial, Filters.withFilter, changingFilter,
    FilterRecord.loaded, FilterCore.blank, SettingsStore.initial, StoredFilter.never]
theorem witness_StoresAndSavesTakeTurns : running.ss.store = .idle ∧ storing.ss.store = .writing ∧
    saving.ss.saving ≠ none ∧ (running.setSs { running.ss with store := .accepted }).ss.store = .accepted ∧
    (running.setSs { running.ss with saveWaiting := true }).ss.saveWaiting = true ∧
    ∀ f, (StoredFilter.written f).passes = true ∧ (StoredFilter.written f).contents = f :=
  ⟨rfl, rfl, by decide, rfl, rfl, fun f => ⟨filter_written_passes f, rfl⟩⟩
theorem witness_RepliesAreReadBackFromTheirFrames : (Instr.heatReply 0x0E 1).wf = true ∧
    encodeReply (.heatReply 0x0E 1) = some (frameOf 0x0E 0x40 [1]) ∧ (0 : Byte) ≠ crc8 ([0x02, 0x10, 0x00] ++ []) :=
  ⟨rfl, rfl, by decide +kernel⟩

/-- The premises of the invariants, at the state after reset, whose step answers a next state. -/
theorem witness_Steps : State.reset.eu.Coherent ∧ State.reset.FansCoherent ∧ State.reset.RecordLegal ∧
    State.reset.FrostCoherent ∧ State.reset.HeaterSafe ∧ State.reset.TableCoherent ∧ State.reset.PlanCurrent ∧
    State.reset.ChangesCoherent ∧ State.reset.PortSilent ∧ step State.reset = .next State.reset := by
  refine ⟨?_, ?_, ⟨factory_legal, factory_legal⟩, ?_, ?_, ?_, ?_, ?_, ?_, rfl⟩
  · unfold EventUnit.Coherent; decide
  · unfold State.FansCoherent FanRecord.Coherent; decide
  · simp [State.FrostCoherent, FrostRecord.Coherent, FrostRecord.FractionFits, State.reset, FrostRecord.initial]
  · intro h; exact absurd h (by decide)
  · simp [State.TableCoherent, DemandTable.Coherent, SlotNames, State.reset, Arbiter.initial, DemandTable.initial,
      Humidity.initial]
  · intro h; exact absurd h (by decide)
  · simp [State.ChangesCoherent, FilterRecord.Coherent, State.reset, Filters.initial, FilterRecord.loaded, FilterCore.blank,
      SettingsStore.initial, StoredFilter.never]
  · simp [State.PortSilent, State.reset, LocalPort.initial, State.standAlone]
/-- The remaining premises. -/
theorem witness_Steps_damper_and_slots : State.reset.DamperSafe ∧ State.reset.LostHoldNothing := by
  refine ⟨?_, fun i h => ?_⟩
  · simp [State.DamperSafe, Damper.Coherent, State.reset, Damper.initial, Damper.travelling, FrostRecord.initial]
  · exact absurd h (by revert i; decide)

end Sys2Proof.Machine.Tests
end

/-! The resolution of the demand table into the flow plan (2.8, R35 to R39). -/

namespace Sys2Proof.Machine

/-! ## The flows of a kind -/

theorem Entry.hasPair_iff {e : Entry} {src : Source} {kind : DemandKind} :
    e.hasPair src kind = true ↔ e.pair = (src, kind) := by
  simp [Entry.hasPair, Entry.pair]

theorem mem_flowsOf {l : List Entry} {kind : DemandKind} {v : Nat} :
    v ∈ flowsOf l kind ↔ ∃ e ∈ l, e.kind = kind ∧ e.flow = v := by
  simp [flowsOf, and_assoc]

theorem flowsOf_eq_nil_iff {l : List Entry} {kind : DemandKind} :
    flowsOf l kind = [] ↔ ∀ e ∈ l, e.kind ≠ kind := by
  simp [flowsOf]

theorem least_eq_min? (l : List Nat) : least l = l.min? := by
  cases l with
  | nil => rfl
  | cons x l => exact List.min?_cons'.symm

theorem greatest_eq_max? (l : List Nat) : greatest l = l.max?.getD 0 := by
  cases l with
  | nil => rfl
  | cons x l => rw [List.max?_cons']; simp [greatest]

/-- Some entry of a kind that is present carries its least flow. -/
theorem exists_entry_of_least {l : List Entry} {kind : DemandKind} {v : Nat} (h : least (flowsOf l kind) = some v) :
    ∃ e ∈ l, e.kind = kind ∧ (∀ x ∈ l, x.kind = kind → e.flow ≤ x.flow) ∧ e.flow = v := by
  rw [least_eq_min?, List.min?_eq_some_iff] at h
  obtain ⟨hmem, hle⟩ := h
  obtain ⟨e, he, hkind, rfl⟩ := mem_flowsOf.1 hmem
  exact ⟨e, he, hkind, fun x hx hk => hle _ (mem_flowsOf.2 ⟨x, hx, hk, rfl⟩), rfl⟩

/-- Some entry of a kind that is present carries its greatest flow. -/
theorem exists_entry_of_greatest {l : List Entry} {kind : DemandKind} (h : flowsOf l kind ≠ []) :
    ∃ e ∈ l, e.kind = kind ∧ (∀ x ∈ l, x.kind = kind → x.flow ≤ e.flow) ∧ e.flow = greatest (flowsOf l kind) := by
  obtain ⟨v, hv⟩ := Option.ne_none_iff_exists'.1 (mt List.max?_eq_none_iff.1 h)
  have hgreatest : greatest (flowsOf l kind) = v := by rw [greatest_eq_max?, hv, Option.getD_some]
  obtain ⟨hmem, hle⟩ := List.max?_eq_some_iff.1 hv
  obtain ⟨e, he, hkind, rfl⟩ := mem_flowsOf.1 hmem
  exact ⟨e, he, hkind, fun x hx hk => hle _ (mem_flowsOf.2 ⟨x, hx, hk, rfl⟩), hgreatest.symm⟩

/-! ## The modifying kinds (R36, R37) -/

theorem Running.lower_some_value (r : Running) (v : Nat) (reason : Reason) :
    (r.lower (some v) reason).value = min r.value v := by
  unfold Running.lower; dsimp only; split
  · next h => exact (Nat.min_eq_right h.le).symm
  · next h => exact (Nat.min_eq_left (Nat.le_of_not_lt h)).symm

theorem Running.lower_some_reason (r : Running) (v : Nat) (reason : Reason) :
    (r.lower (some v) reason).reason = if v < r.value then reason else r.reason := by
  unfold Running.lower; dsimp only; split <;> rfl

theorem Running.lift_value (r : Running) (v : Nat) (reason : Reason) :
    (r.lift v reason).value = max r.value v := by
  unfold Running.lift; split
  · next h => exact (Nat.max_eq_right h.le).symm
  · next h => exact (Nat.max_eq_left (Nat.le_of_not_lt h)).symm

theorem Running.lift_reason (r : Running) (v : Nat) (reason : Reason) :
    (r.lift v reason).reason = if r.value < v then reason else r.reason := by
  unfold Running.lift; split <;> rfl

/-- A kind that is absent has no least flow and lowers nothing; a kind that is present lowers to its least flow. -/
theorem Running.lowers_least (l : List Entry) (kind : DemandKind) (r : Running) (reason : Reason) :
    Lowers l kind r.value r.reason reason (r.lower (least (flowsOf l kind)) reason).value
      (r.lower (least (flowsOf l kind)) reason).reason := by
  cases h : least (flowsOf l kind) with
  | none =>
    rw [least_eq_min?, List.min?_eq_none_iff, flowsOf_eq_nil_iff] at h
    exact .inl ⟨h, rfl, rfl⟩
  | some v =>
    obtain ⟨e, he, hkind, hleast, rfl⟩ := exists_entry_of_least h
    exact .inr ⟨e, he, hkind, hleast, r.lower_some_value _ _, r.lower_some_reason _ _⟩

/-- A kind that is absent has the greatest flow 0 and raises nothing; a kind that is present raises to its greatest
flow. -/
theorem Running.raises_greatest (l : List Entry) (kind : DemandKind) (r : Running) (reason : Reason) :
    Raises l kind r.value r.reason reason (r.lift (greatest (flowsOf l kind)) reason).value
      (r.lift (greatest (flowsOf l kind)) reason).reason := by
  by_cases h : flowsOf l kind = []
  · have hlift : r.lift (greatest (flowsOf l kind)) reason = r := by simp [h, greatest, Running.lift]
    exact .inl ⟨flowsOf_eq_nil_iff.1 h, by rw [hlift], by rw [hlift]⟩
  · obtain ⟨e, he, hkind, hgreatest, hflow⟩ := exists_entry_of_greatest h
    rw [← hflow]
    exact .inr ⟨e, he, hkind, hgreatest, r.lift_value _ _, r.lift_reason _ _⟩

/-- The four modifying kinds in their order, each on the running value that the kind before it leaves. -/
theorem resolveKinds_steps (l : List Entry) (r : Running) :
    ∃ (v1 v2 v3 : Nat) (r1 r2 r3 : Reason),
      Lowers l .away r.value r.reason .away v1 r1 ∧ Raises l .boost v1 r1 .boost v2 r2 ∧
      Lowers l .quiet v2 r2 .quiet v3 r3 ∧
      Raises l .purge v3 r3 .purge (resolveKinds l r).value (resolveKinds l r).reason :=
  ⟨_, _, _, _, _, _, r.lowers_least l .away .away, Running.raises_greatest l .boost _ .boost,
    Running.lowers_least l .quiet _ .quiet, Running.raises_greatest l .purge _ .purge⟩

/-! ## The base (R36) -/

theorem Master.mem_precedence (m : Master) : m ∈ Master.precedence := by
  cases m with
  | tool => decide
  | unit => decide
  | station n => revert n; decide

/-- The source that gives the base has a BASE entry, and no source before it in the precedence has one. -/
theorem baseEntry_eq_some {l : List Entry} {m : Master} {e : Entry} (h : baseEntry l = some (m, e)) :
    ∃ before after, Master.precedence = before ++ m :: after ∧
      (∀ b ∈ before, ∀ x ∈ l, x.pair ≠ (.master b, .base)) ∧ e ∈ l ∧ e.pair = (.master m, .base) := by
  obtain ⟨before, n, after, hsplit, hfind, hbefore⟩ := List.findSome?_eq_some_iff.1 h
  obtain ⟨x, hx, hpair⟩ := Option.map_eq_some_iff.1 hfind
  obtain ⟨rfl, rfl⟩ := Prod.mk.inj hpair
  have hholds : x.hasPair (.master n) .base = true :=
    List.find?_some (p := fun e : Entry => e.hasPair (.master n) .base) hx
  refine ⟨before, after, hsplit, fun b hb y hy hbase => ?_, List.mem_of_find?_eq_some hx, Entry.hasPair_iff.1 hholds⟩
  exact List.find?_eq_none.1 (Option.map_eq_none_iff.1 (hbefore b hb)) y hy (Entry.hasPair_iff.2 hbase)

/-- Without a base entry no source has a BASE entry: every source stands in the precedence. -/
theorem baseEntry_eq_none {l : List Entry} (h : baseEntry l = none) (m : Master) :
    ∀ x ∈ l, x.pair ≠ (.master m, .base) := by
  intro x hx hbase
  have hfind := Option.map_eq_none_iff.1 (List.findSome?_eq_none_iff.1 h m (Master.mem_precedence m))
  exact List.find?_eq_none.1 hfind x hx (Entry.hasPair_iff.2 hbase)

/-- The base is the flow of the source first in the precedence that has a BASE entry, or the default base. -/
theorem resolveBase_cases (set : Settings) (l : List Entry) :
    (∃ m e before after, Master.precedence = before ++ m :: after ∧
      (∀ b ∈ before, ∀ x ∈ l, x.pair ≠ (.master b, .base)) ∧ e ∈ l ∧ e.pair = (.master m, .base) ∧
      (resolveBase set l).1.value = e.flow ∧ (resolveBase set l).1.reason = .base ∧ (resolveBase set l).2 = some m) ∨
    ((∀ m, ∀ x ∈ l, x.pair ≠ (.master m, .base)) ∧
      (resolveBase set l).1.value = set.levels[set.defaultBaseLevel] ∧ (resolveBase set l).1.reason = .default ∧
      (resolveBase set l).2 = none) := by
  unfold resolveBase
  cases h : baseEntry l with
  | none => exact .inr ⟨baseEntry_eq_none h, rfl, rfl, rfl⟩
  | some p =>
    obtain ⟨m, e⟩ := p
    obtain ⟨before, after, hsplit, hbefore, he, hpair⟩ := baseEntry_eq_some h
    exact .inl ⟨m, e, before, after, hsplit, hbefore, he, hpair, rfl, rfl, rfl⟩

/-! ## The plan (R35, R38) -/

theorem resolve_changing (set : Settings) (t : DemandTable) (ceiling : Nat) :
    resolve set t true ceiling =
      { target := 0, reason := .filterChange, baseSource := none, ceiling := ceiling } := rfl

theorem resolve_shutdown {t : DemandTable} (h : ∃ e ∈ t.entries, e.kind = .shutdown) (set : Settings) (ceiling : Nat) :
    resolve set t false ceiling =
      { target := 0, reason := .shutdown, baseSource := none, ceiling := ceiling } := by
  have hany : t.entries.any (fun e => e.kind == .shutdown) = true := by simpa using h
  simp [resolve, hany]

/-- Without a stop the plan is the base with the modifying kinds, brought between Qmin and the ceiling. -/
theorem resolve_of_no_stop {t : DemandTable} (h : ∀ e ∈ t.entries, e.kind ≠ .shutdown) (set : Settings)
    (ceiling : Nat) :
    resolve set t false ceiling =
      (if ceiling < (resolveKinds t.entries (resolveBase set t.entries).1).value then
        { target := ceiling, reason := .ceiling, baseSource := (resolveBase set t.entries).2, ceiling := ceiling }
      else
        { target := max set.qmin (resolveKinds t.entries (resolveBase set t.entries).1).value
          reason := (resolveKinds t.entries (resolveBase set t.entries).1).reason
          baseSource := (resolveBase set t.entries).2
          ceiling := ceiling }) := by
  have hany : t.entries.any (fun e => e.kind == .shutdown) = false := by simpa using h
  simp only [resolve, hany, resolveClamp, Bool.false_eq_true, if_false]
  split <;> rfl

/-- Settles O18: the base, the modifying kinds in turn, then the clamp. Neither the coherence of the table nor the
source in the HUMIDITY slot is needed. -/
theorem resolutionGivesThePlan : Obligations.ResolutionGivesThePlan := by
  refine ⟨resolve_changing, fun set t ceiling h => resolve_shutdown h set ceiling,
    fun set t ceiling _ _ hstop => ?_, fun _ _ => rfl⟩
  obtain ⟨v1, v2, v3, r1, r2, r3, haway, hboost, hquiet, hpurge⟩ :=
    resolveKinds_steps t.entries (resolveBase set t.entries).1
  exact ⟨_, v1, v2, v3, _, _, r1, r2, r3, _, _, resolveBase_cases set t.entries, haway, hboost, hquiet, hpurge,
    resolve_of_no_stop hstop set ceiling⟩

end Sys2Proof.Machine

/-! The frost guard in the states that judge cold marks (R69 to R76, R78, R79). -/

namespace Sys2Proof.Machine

/-! ## What an evaluation raises and counts (R69, R76) -/

/-- The event unit after the flags of a rule's outcome, in order, with one defrost counted where one starts. -/
def Guarded.events (g : Guarded) (e : EventUnit) (snapshot : Bool) : EventUnit :=
  if g.flags.contains .defrostStarted then (g.flags.foldl EventUnit.raise e).count snapshot .defrosts
  else g.flags.foldl EventUnit.raise e

@[simp] theorem quietly_record (r : FrostRecord) : (quietly r).record = r := rfl
@[simp] theorem quietly_events (r : FrostRecord) (e : EventUnit) (snapshot : Bool) :
    (quietly r).events e snapshot = e := rfl

/-- A flag that starts no defrost is raised before the rest. -/
theorem Guarded.events_cons {f : Flag} (hf : f ≠ .defrostStarted) (r : FrostRecord) (l : List Flag) (e : EventUnit)
    (snapshot : Bool) : Guarded.events ⟨r, f :: l⟩ e snapshot = Guarded.events ⟨r, l⟩ (e.raise f) snapshot := by
  simp [Guarded.events, hf.symm]

@[simp] theorem Guarded.events_defrostStarted (r : FrostRecord) (e : EventUnit) (snapshot : Bool) :
    Guarded.events ⟨r, [.defrostStarted]⟩ e snapshot = (e.raise .defrostStarted).count snapshot .defrosts := rfl
@[simp] theorem Guarded.events_frostHoldEntered (r : FrostRecord) (e : EventUnit) (snapshot : Bool) :
    Guarded.events ⟨r, [.frostHoldEntered]⟩ e snapshot = e.raise .frostHoldEntered := rfl

theorem State.raiseAll_settings (s : State) (l : List Flag) : (s.raiseAll l).settings = s.settings := by
  induction l generalizing s with
  | nil => rfl
  | cons f l ih => exact ih (s.raise f)

theorem State.raiseAll_eu (s : State) (l : List Flag) : (s.raiseAll l).eu = l.foldl EventUnit.raise s.eu := by
  induction l generalizing s with
  | nil => rfl
  | cons f l ih => exact ih (s.raise f)

/-! ## The evaluation at the state (R68, R69) -/

theorem exec_frostEvaluation_of_acts {s : State} (h : s.Acts) : exec .frostEvaluation s = .next s.evaluateFrost := by
  obtain ⟨hphase, hready⟩ := h
  change execFrostEvaluation s = _
  simp [execFrostEvaluation, State.unlessHeld_of_ne hphase, hready]

@[simp] theorem State.frostInputs_set (s : State) : s.frostInputs.set = s.settings := rfl
@[simp] theorem State.frostInputs_oda (s : State) : s.frostInputs.oda = s.channel chOda := rfl

@[simp] theorem Channel.isFailed_iff (c : Channel) : c.isFailed = true ↔ c.state = .failed := by simp [Channel.isFailed]

theorem State.evaluateFrost_fg (s : State) :
    s.evaluateFrost.fg =
      { (s.frostInputs.evaluate s.fg).record with
        wantedOpen := s.wantedOpen (s.frostInputs.evaluate s.fg).record.state } := rfl

theorem State.evaluateFrost_eu (s : State) :
    s.evaluateFrost.eu = (s.frostInputs.evaluate s.fg).events s.eu s.settings.counterSnapshot := by
  change (State.countDefrost (s.raiseAll _) _).eu = _
  unfold State.countDefrost Guarded.events
  split
  · rw [State.count_eu, s.raiseAll_settings, s.raiseAll_eu]
  · exact s.raiseAll_eu _

/-! ## The record that a rule judges (stages 1 to 4) -/

theorem FrostState.judgesMarks_iff {x : FrostState} : x.judgesMarks = true ↔ x ∈ [.watch, .protect, .recover] := by
  cases x <;> decide

/-- The record aged by 10 s, not paused, with T_lim and the window with its new mark. -/
def FrostRecord.judged (r : FrostRecord) (limit : Int) (window : List Bool) : FrostRecord :=
  { r.age with limit := limit, window := window, paused := false }

@[simp] theorem FrostRecord.judged_state (r : FrostRecord) (limit) (window) : (r.judged limit window).state = r.state :=
  rfl
@[simp] theorem FrostRecord.judged_fraction (r : FrostRecord) (limit) (window) :
    (r.judged limit window).fraction = r.fraction := rfl
@[simp] theorem FrostRecord.judged_proportion (r : FrostRecord) (limit) (window) :
    (r.judged limit window).proportion = r.proportion := rfl
@[simp] theorem FrostRecord.judged_limit (r : FrostRecord) (limit) (window) : (r.judged limit window).limit = limit :=
  rfl
@[simp] theorem FrostRecord.judged_window (r : FrostRecord) (limit) (window) :
    (r.judged limit window).window = window := rfl
@[simp] theorem FrostRecord.judged_coreRef (r : FrostRecord) (limit) (window) :
    (r.judged limit window).coreRef = r.coreRef := rfl
@[simp] theorem FrostRecord.judged_history (r : FrostRecord) (limit) (window) :
    (r.judged limit window).history = (r.history.map fun a => a + 10).filter fun a => decide (a < 3600) := rfl

/-- The record in PROTECT. -/
def FrostRecord.protecting (r : FrostRecord) : FrostRecord := { r with state := .protect }

@[simp] theorem FrostRecord.protecting_state (r : FrostRecord) : r.protecting.state = .protect := rfl
@[simp] theorem FrostRecord.protecting_fraction (r : FrostRecord) : r.protecting.fraction = r.fraction := rfl
@[simp] theorem FrostRecord.protecting_proportion (r : FrostRecord) : r.protecting.proportion = r.proportion := rfl
@[simp] theorem FrostRecord.protecting_limit (r : FrostRecord) : r.protecting.limit = r.limit := rfl
@[simp] theorem FrostRecord.protecting_window (r : FrostRecord) : r.protecting.window = r.window := rfl
@[simp] theorem FrostRecord.protecting_coreRef (r : FrostRecord) : r.protecting.coreRef = r.coreRef := rfl
@[simp] theorem FrostRecord.protecting_history (r : FrostRecord) : r.protecting.history = r.history := rfl

theorem FrostRecord.protecting_of_protect {r : FrostRecord} (h : r.state = .protect) : r.protecting = r := by
  cases r; cases h; rfl

/-- The cold mark is R71's: T_EHA below the limit, or DP_CORE above one and a half times the reference. -/
theorem FrostInputs.coldMark_iff (i : FrostInputs) (r : FrostRecord) :
    i.coldMark r = true ↔ i.eha.filtered < r.limit ∨
      ∃ c, r.coreRef = some c ∧ i.dpCore.state ≠ .failed ∧ i.extractQr ≤ c.flow ∧
        (c.pressure * 3).tdiv 2 < i.dpCore.filtered := by
  unfold FrostInputs.coldMark
  cases r.coreRef with
  | none => simp
  | some c => simp [Channel.isFailed, and_assoc]

/-- With extract flow and T_EHA not FAILED, the rule of a state that judges marks decides on the judged record. -/
theorem State.evaluate_eq_rule_judged {s : State} {limit : Int} {cold : Bool}
    (hrunning : s.ae.extract.state = .running) (hjudges : s.fg.state.judgesMarks = true)
    (heha : (s.channel chEha).state ≠ .failed) (hlimit : limit = s.settings.frostBaseLimit + s.frostInputs.adder)
    (hcold : cold = true ↔ (s.channel chEha).filtered < limit ∨
      ∃ r, s.fg.coreRef = some r ∧ (s.channel chDpCore).state ≠ .failed ∧ s.ae.extract.qr ≤ r.flow ∧
        (r.pressure * 3).tdiv 2 < (s.channel chDpCore).filtered) :
    s.frostInputs.evaluate s.fg = s.frostInputs.rule (s.fg.judged limit (pushWindow 6 cold s.fg.window)) := by
  subst hlimit
  have hflow : s.frostInputs.extractRunning = true := by simp [State.frostInputs, hrunning]
  have hreads : s.frostInputs.eha.isFailed = false := by simpa [State.frostInputs, Channel.isFailed] using heha
  have hmark : s.frostInputs.coldMark { s.frostInputs.withLimit s.fg.age with paused := false } = cold :=
    Bool.eq_iff_iff.2 ((FrostInputs.coldMark_iff _ _).trans hcold.symm)
  have hstate : (s.frostInputs.withLimit s.fg.age).state.judgesMarks = true := hjudges
  simp only [FrostInputs.evaluate, FrostInputs.stages, hflow, hstate, hreads, hmark, Bool.not_true, Bool.false_and,
    Bool.false_eq_true, if_false, if_true]
  rfl

/-! ## Escalation (R74, R76, R79) -/

namespace FrostInputs

section
variable (i : FrostInputs) (r : FrostRecord)

theorem meets_iff : i.meets r = true ↔ i.set.kFrost ≤ marks r.window := by simp [meets]

@[simp] theorem escalate_limit : (i.escalate r).record.limit = r.limit := by
  unfold escalate defrostDue; split_ifs <;> rfl

@[simp] theorem escalate_coreRef : (i.escalate r).record.coreRef = r.coreRef := by
  unfold escalate defrostDue; split_ifs <;> rfl

variable {i r}

theorem escalate_of_heat (h : i.preheater = true ∧ r.proportion < 1000) :
    i.escalate r = quietly { r with proportion := r.proportion + 200 } := by simp [escalate, h]

/-- No more heat can be asked for: no pre-heater, or its proportion is at the top. -/
theorem heat_spent (h : i.preheater = false ∨ 1000 ≤ r.proportion) :
    ¬(i.preheater && decide (r.proportion < 1000)) = true := by
  obtain h | h := h
  · simp [h]
  · simp [Nat.not_lt.2 h]

theorem escalate_of_fraction (h : i.preheater = false ∨ 1000 ≤ r.proportion)
    (hfraction : i.set.minFraction < r.fraction) :
    i.escalate r = quietly { r with fraction := max i.set.minFraction (r.fraction - i.set.frostStep) } :=
  (if_neg (heat_spent h)).trans (if_pos hfraction)

theorem escalate_of_due (h : i.preheater = false ∨ 1000 ≤ r.proportion) (hfraction : r.fraction ≤ i.set.minFraction) :
    i.escalate r = i.defrostDue r :=
  (if_neg (heat_spent h)).trans (if_neg (Nat.not_lt.2 hfraction))

theorem defrostDue_of_lt (h : r.history.length < 3) : i.defrostDue r = ⟨enterDefrost .normal r, [.defrostStarted]⟩ :=
  if_neg (Nat.not_le.2 h)

theorem defrostDue_of_le (h : 3 ≤ r.history.length) : i.defrostDue r = ⟨i.enterHold r, [.frostHoldEntered]⟩ := if_pos h

@[simp] theorem defrostDue_fraction : (i.defrostDue r).record.fraction = 0 := by unfold defrostDue; split <;> rfl

@[simp] theorem defrostDue_proportion : (i.defrostDue r).record.proportion = 0 := by unfold defrostDue; split <;> rfl

@[simp] theorem defrostDue_window : (i.defrostDue r).record.window = [] := by unfold defrostDue; split <;> rfl

/-- A window that meets k_frost: one escalation step in PROTECT, entered with PROTECT_ENTERED from WATCH or RECOVER. -/
theorem rule_of_meets (hjudges : r.state.judgesMarks = true) (h : i.set.kFrost ≤ marks r.window) (e : EventUnit)
    (snapshot : Bool) :
    (i.rule r).record = (i.escalate r.protecting).record ∧
    (i.rule r).events e snapshot =
      (i.escalate r.protecting).events (if r.state = .protect then e else e.raise .protectEntered) snapshot := by
  have hmeets := (i.meets_iff r).2 h
  cases hstate : r.state with
  | watch | recover =>
    have hrule : i.rule r = i.enterProtect r := by simp [rule, hstate, ruleWatch, ruleRecover, hmeets]
    rw [hrule]
    exact ⟨rfl, Guarded.events_cons (by decide) _ _ _ _⟩
  | protect =>
    have hrule : i.rule r = i.escalate r.protecting := by
      simp [rule, hstate, ruleProtect, hmeets, FrostRecord.protecting_of_protect hstate]
    rw [hrule]
    exact ⟨rfl, rfl⟩
  | inactive | defrost | frostHold | fallback => rw [hstate] at hjudges; contradiction

/-! ## The step back (R75, R78) -/

variable (i r)

/-- The record one step back: the fraction below 1000 or in RECOVER, else the proportion. -/
def steppedBack : FrostRecord :=
  if r.fraction < 1000 ∨ r.state = .recover then { r with fraction := i.raised r }
  else { r with proportion := r.proportion - 200 }

@[simp] theorem steppedBack_state : (i.steppedBack r).state = r.state := by unfold steppedBack; split <;> rfl

@[simp] theorem steppedBack_limit : (i.steppedBack r).limit = r.limit := by unfold steppedBack; split <;> rfl

@[simp] theorem steppedBack_window : (i.steppedBack r).window = r.window := by unfold steppedBack; split <;> rfl

@[simp] theorem steppedBack_coreRef : (i.steppedBack r).coreRef = r.coreRef := by unfold steppedBack; split <;> rfl

theorem steppedBack_fraction :
    (i.steppedBack r).fraction =
      if r.fraction < 1000 ∨ r.state = .recover then min 1000 (r.fraction + i.set.frostStep) else r.fraction := by
  unfold steppedBack; split <;> rfl

theorem steppedBack_proportion :
    (i.steppedBack r).proportion =
      if r.fraction < 1000 ∨ r.state = .recover then r.proportion else r.proportion - 200 := by
  unfold steppedBack; split <;> rfl

variable {i r}

/-- A window that neither meets k_frost nor is clear keeps the record. -/
theorem rule_of_neither (hstate : r.state ∈ [.protect, .recover]) (hmeets : marks r.window < i.set.kFrost)
    (hclear : marks r.window ≠ 0) : i.rule r = quietly r := by
  have hmeets : i.meets r = false := by simpa [meets] using hmeets
  have hclear : isClear r.window = false := by simpa [isClear] using hclear
  obtain hstate | hstate : r.state = .protect ∨ r.state = .recover := by simpa using hstate
  · simp [rule, hstate, ruleProtect, hmeets, hclear]
  · simp [rule, hstate, ruleRecover, hmeets, hclear]

/-- A clear window steps back once, and leads to WATCH at the fraction 1000, in PROTECT with the proportion 0. -/
theorem rule_of_clear (hstate : r.state ∈ [.protect, .recover]) (hmeets : marks r.window < i.set.kFrost)
    (hclear : marks r.window = 0) :
    i.rule r =
      quietly
        (if (i.steppedBack r).fraction = 1000 ∧ ((i.steppedBack r).proportion = 0 ∨ r.state = .recover) then
          i.enterWatch (i.steppedBack r)
        else i.steppedBack r) := by
  have hmeets : i.meets r = false := by simpa [meets] using hmeets
  have hclear : isClear r.window = true := by simpa [isClear] using hclear
  obtain hstate | hstate : r.state = .protect ∨ r.state = .recover := by simpa using hstate
  · simp [rule, hstate, ruleProtect, hmeets, hclear, stepBack, steppedBack]
  · simp [rule, hstate, ruleRecover, hmeets, hclear, steppedBack]

variable (i r)

@[simp] theorem enterWatch_state : (i.enterWatch r).state = .watch := rfl
@[simp] theorem enterWatch_fraction : (i.enterWatch r).fraction = 1000 := rfl
@[simp] theorem enterWatch_proportion : (i.enterWatch r).proportion = 0 := rfl
theorem enterWatch_coreRef : (i.enterWatch r).coreRef = i.reference r := rfl

variable {i r}

/-- What an entry to WATCH records (R72) with extract flow. -/
theorem reference_of_running (h : i.extractRunning = true) :
    i.reference r =
      if i.set.qmin ≤ i.extractQr ∧ i.dpCore.state = .valid ∧ 5 ≤ i.dpCore.filtered then
        some { pressure := i.dpCore.filtered, flow := i.extractQr }
      else r.coreRef := by
  simp [reference, h, and_assoc]

end

end FrostInputs

/-! ## The two windows at the state -/

/-- A rule that raises no flag leaves the event unit. -/
theorem State.evaluateFrost_of_quietly {s : State} {r : FrostRecord} (h : s.frostInputs.evaluate s.fg = quietly r) :
    s.evaluateFrost.fg = { r with wantedOpen := s.wantedOpen r.state } ∧ s.evaluateFrost.eu = s.eu := by
  constructor
  · rw [State.evaluateFrost_fg, h, quietly_record]
  · rw [State.evaluateFrost_eu, h, quietly_events]

/-- A cold window takes one escalation step of the judged record, in PROTECT. -/
theorem State.evaluateFrost_of_meets {s : State} {limit : Int} {window : List Bool}
    (hevaluate : s.frostInputs.evaluate s.fg = s.frostInputs.rule (s.fg.judged limit window))
    (hjudges : s.fg.state.judgesMarks = true) (hmeets : s.settings.kFrost ≤ marks window) :
    ∃ g, g = s.frostInputs.escalate (s.fg.judged limit window).protecting ∧
      s.evaluateFrost.fg = { g.record with wantedOpen := s.wantedOpen g.record.state } ∧
      s.evaluateFrost.eu =
        g.events (if s.fg.state = .protect then s.eu else s.eu.raise .protectEntered) s.settings.counterSnapshot := by
  obtain ⟨hrecord, hevents⟩ := FrostInputs.rule_of_meets (i := s.frostInputs) (r := s.fg.judged limit window) hjudges
    hmeets s.eu s.settings.counterSnapshot
  refine ⟨_, rfl, ?_, ?_⟩
  · rw [State.evaluateFrost_fg, hevaluate, hrecord]
  · rw [State.evaluateFrost_eu, hevaluate, hevents, FrostRecord.judged_state]

/-- A clear window steps the judged record back, without a flag. -/
theorem State.evaluateFrost_of_clear {s : State} {limit : Int} {window : List Bool}
    (hevaluate : s.frostInputs.evaluate s.fg = s.frostInputs.rule (s.fg.judged limit window))
    (hstate : s.fg.state ∈ [.protect, .recover]) (hmeets : marks window < s.settings.kFrost)
    (hclear : marks window = 0) :
    ∃ b r, b = s.frostInputs.steppedBack (s.fg.judged limit window) ∧
      r = (if b.fraction = 1000 ∧ (b.proportion = 0 ∨ s.fg.state = .recover) then s.frostInputs.enterWatch b else b) ∧
      s.evaluateFrost.fg = { r with wantedOpen := s.wantedOpen r.state } ∧ s.evaluateFrost.eu = s.eu :=
  ⟨_, _, rfl, rfl, State.evaluateFrost_of_quietly (hevaluate.trans (FrostInputs.rule_of_clear hstate hmeets hclear))⟩

/-- Settles O31: the judged record goes through one escalation step or one step back. -/
theorem coldWindowEscalates : Obligations.ColdWindowEscalates := by
  constructor
  · intro s limit cold window history entered hacts hrunning hstate heha hlimit hcold hwindow hmeets hhistory hentered
    have hjudges := FrostState.judgesMarks_iff.2 hstate
    have hevaluate := State.evaluate_eq_rule_judged hrunning hjudges heha hlimit hcold
    rw [← hwindow] at hevaluate
    obtain ⟨g, hg, hfg, heu⟩ := State.evaluateFrost_of_meets hevaluate hjudges hmeets
    rw [← hentered] at heu
    refine ⟨s.evaluateFrost, exec_frostEvaluation_of_acts hacts, by simp [hfg, hg], by simp [hfg, hg],
      fun hheat => ?_, fun hnoheat => ⟨fun hfraction => ?_, fun hfraction => ?_⟩⟩
    · rw [FrostInputs.escalate_of_heat hheat] at hg
      simp [hfg, heu, hg, hhistory]
    · rw [FrostInputs.escalate_of_fraction hnoheat hfraction] at hg
      simp [hfg, heu, hg, hhistory]
    · subst hhistory
      rw [FrostInputs.escalate_of_due hnoheat hfraction] at hg
      refine ⟨by simp [hfg, hg], by simp [hfg, hg], by simp [hfg, hg], fun hstarts => ?_, fun hstarts => ?_⟩
      · rw [FrostInputs.defrostDue_of_lt hstarts] at hg
        simp [hfg, heu, hg, enterDefrost, pushWindow_of_lt (Nat.lt_succ_of_lt hstarts)]
      · rw [FrostInputs.defrostDue_of_le hstarts] at hg
        simp [hfg, heu, hg, FrostInputs.enterHold]
  · intro s limit cold window reference fraction proportion hacts hrunning hstate heha hlimit hcold hwindow hmeets
      hreference hfraction hproportion
    have hjudges := FrostState.judgesMarks_iff.2 (List.mem_cons_of_mem _ hstate)
    have hevaluate := State.evaluate_eq_rule_judged hrunning hjudges heha hlimit hcold
    rw [← hwindow] at hevaluate
    by_cases hclear : marks window = 0
    · obtain ⟨b, r, hb, hr, hfg, heu⟩ := State.evaluateFrost_of_clear hevaluate hstate hmeets hclear
      have hkept : r.limit = b.limit ∧ r.window = b.window := by rw [hr]; split <;> exact ⟨rfl, rfl⟩
      have hf : b.fraction = fraction := by rw [hb, FrostInputs.steppedBack_fraction, hfraction]; rfl
      have hp : b.proportion = proportion := by rw [hb, FrostInputs.steppedBack_proportion, hproportion]; rfl
      have href : s.frostInputs.reference b = reference := by
        rw [FrostInputs.reference_of_running (by simp [State.frostInputs, hrunning]), hb,
          FrostInputs.steppedBack_coreRef, hreference]
        rfl
      rw [hf, hp] at hr
      refine ⟨s.evaluateFrost, exec_frostEvaluation_of_acts hacts, by simp [hfg, hkept, hb], by simp [hfg, hkept, hb],
        heu, fun h => absurd hclear h, fun _ => ⟨fun hend => ?_, fun hon => ?_⟩⟩
      · rw [if_pos hend] at hr
        simp [hfg, hr, FrostInputs.enterWatch_coreRef, href]
      · rw [if_neg hon] at hr
        rw [← hf, ← hp]
        simp [hfg, hr, hb]
    · obtain ⟨hfg, heu⟩ := State.evaluateFrost_of_quietly
        (hevaluate.trans (FrostInputs.rule_of_neither hstate hmeets hclear))
      exact ⟨s.evaluateFrost, exec_frostEvaluation_of_acts hacts, by simp [hfg], by simp [hfg], heu,
        fun _ => by simp [hfg], fun h => absurd h hclear⟩

end Sys2Proof.Machine

/-! Dry protection in the humidity evaluation (R106 to R108), after the stages before it (R100 to R104). -/

namespace Sys2Proof.Machine

/-! ## A removal from the HUMIDITY slot (R26) -/

/-- A removal moves the demand arbiter alone. -/
theorem State.removeKind_eq_setDa (s : State) (src : Source) (kind : DemandKind) :
    s.removeKind src kind = s.setDa (s.removeKind src kind).da := by
  unfold State.removeKind; split
  · split <;> rfl
  · rfl

@[simp] theorem State.removeKind_hm (s : State) (src : Source) (kind : DemandKind) :
    (s.removeKind src kind).hm = s.hm := by
  rw [State.removeKind_eq_setDa]; rfl

@[simp] theorem State.removeKind_eu (s : State) (src : Source) (kind : DemandKind) :
    (s.removeKind src kind).eu = s.eu := by
  rw [State.removeKind_eq_setDa]; rfl

/-- Whatever the HUMIDITY slot holds, its removal touches no other part of the table. -/
theorem State.removeKind_humidity_table (s : State) (kind : DemandKind) :
    ∃ e, (s.removeKind .humidity kind).da.table = { s.da.table with humidity := e } := by
  unfold State.removeKind; split
  · split
    · exact ⟨none, rfl⟩
    · exact ⟨s.da.table.humidity, rfl⟩
  · exact ⟨s.da.table.humidity, rfl⟩

/-- An entry of the kind named leaves the HUMIDITY slot. -/
theorem State.removeKind_humidity_table_of_held {s : State} {e : Entry} {kind : DemandKind}
    (he : s.da.table.humidity = some e) (hkind : e.kind = kind) :
    (s.removeKind .humidity kind).da.table = { s.da.table with humidity := none } := by
  simp [State.removeKind, DemandTable.slot, he, hkind, State.withTable_da, DemandTable.withSlot]

/-! ## The stages before dry protection (R100 to R104) -/

/-- The state that the humid boost is judged on: the dew point and the rise window stand. -/
def State.sensed (s : State) : State := s.publishDewPoint.fillRise

/-- The state that dry protection is judged on. -/
def State.beforeDry (s : State) : State := s.sensed.stageBoost

theorem State.evaluateHumidity_eq (s : State) : s.evaluateHumidity = s.beforeDry.stageDry := rfl

theorem exec_humidityEvaluation_of_acts {s : State} (h : s.Acts) :
    exec .humidityEvaluation s = .next s.evaluateHumidity := by
  obtain ⟨hphase, hready⟩ := h
  change execHumidityEvaluation s = _
  simp [execHumidityEvaluation, State.unlessHeld_of_ne hphase, hready]

theorem State.sensed_eq (s : State) :
    ∃ dewPoint rise, s.sensed = s.setHm { s.hm with dewPoint := dewPoint, rise := rise } := by
  unfold State.sensed State.publishDewPoint; split <;> exact ⟨_, _, rfl⟩

/-- All that stage 3 can do (R102 to R104). -/
theorem State.stageBoost_cases (s : State) :
    (s.hm.view ≠ .boost ∧ (s.stageBoost = s.startBoost ∨ s.stageBoost = s)) ∨
    (s.hm.view = .boost ∧ (s.stageBoost = s.setHm s.advanceBoost ∨ s.stageBoost = s.endBoost s.advanceBoost)) := by
  unfold State.stageBoost
  cases hview : s.hm.view with
  | boost =>
    refine .inr ⟨rfl, ?_⟩
    dsimp only; split
    · exact .inr rfl
    · exact .inl rfl
  | none | away =>
    refine .inl ⟨nofun, ?_⟩
    dsimp only; split
    · exact .inl rfl
    · exact .inr rfl

theorem State.endBoost_hm (s : State) (hm : Humidity) :
    (s.endBoost hm).hm = { hm with view := .none, boostElapsed := none, startMinimum := none } := by
  simp [State.endBoost]

theorem State.endBoost_eu (s : State) (hm : Humidity) : (s.endBoost hm).eu = s.eu.raise .humidBoost := by
  simp [State.endBoost, State.raise_eu]

/-- The boost's entry leaves the HUMIDITY slot, where the slot view names it. -/
theorem State.endBoost_table (s : State) (hm : Humidity) :
    ∃ e, (s.endBoost hm).da.table = { s.da.table with humidity := e } ∧
      (SlotNames .boost s.da.table.humidity → e = none) := by
  obtain ⟨e, he⟩ := State.removeKind_humidity_table (s.setHm _) .boost
  refine ⟨e, he, fun hslot => ?_⟩
  obtain ⟨x, hx, -, hkind, -⟩ := hslot
  exact congrArg DemandTable.humidity (he.symm.trans (State.removeKind_humidity_table_of_held hx hkind))

/-- Stage 3 moves the humidity manager, the demand arbiter and the event unit, and leaves the dry count. -/
theorem State.stageBoost_frame (s : State) :
    ∃ hm da eu, s.stageBoost = { s with hm := hm, da := da, eu := eu } ∧ hm.dryCount = s.hm.dryCount := by
  obtain ⟨-, h | h⟩ | ⟨-, h | h⟩ := s.stageBoost_cases <;> rw [h]
  · exact ⟨_, _, _, rfl, rfl⟩
  · exact ⟨_, _, _, rfl, rfl⟩
  · exact ⟨_, _, _, rfl, rfl⟩
  · refine ⟨{ s.advanceBoost with view := .none, boostElapsed := none, startMinimum := none },
      (s.endBoost s.advanceBoost).da, s.eu.raise .humidBoost, ?_, rfl⟩
    rw [State.endBoost, State.removeKind_eq_setDa]; rfl

/-- What dry protection reads stands as it stood before the evaluation. -/
theorem State.beforeDry_frame (s : State) :
    ∃ hm da eu, s.beforeDry = { s with hm := hm, da := da, eu := eu } ∧ hm.dryCount = s.hm.dryCount := by
  obtain ⟨dewPoint, rise, hsensed⟩ := s.sensed_eq
  obtain ⟨hm, da, eu, hboost, hcount⟩ := s.sensed.stageBoost_frame
  rw [hsensed] at hboost hcount
  exact ⟨hm, da, eu, by rw [State.beforeDry, hsensed, hboost]; rfl, hcount⟩

theorem State.beforeDry_settings (s : State) : s.beforeDry.settings = s.settings := by
  obtain ⟨hm, da, eu, h, -⟩ := s.beforeDry_frame
  rw [h]; rfl

theorem State.beforeDry_nextDryCount (s : State) : s.beforeDry.nextDryCount = s.nextDryCount := by
  obtain ⟨hm, da, eu, h, hcount⟩ := s.beforeDry_frame
  rw [h, State.nextDryCount, State.nextDryCount, hcount]; rfl

theorem State.beforeDry_dryEnds (s : State) : s.beforeDry.dryEnds = s.dryEnds := by
  obtain ⟨hm, da, eu, h, -⟩ := s.beforeDry_frame
  rw [h]; rfl

/-- A boost stands before dry protection, or none stood and nothing moved in the slot, or one has just ended. -/
theorem State.beforeDry_cases (s : State) :
    s.beforeDry.hm.view = .boost ∨
    (s.hm.view ≠ .boost ∧ s.beforeDry.hm.view = s.hm.view ∧ s.beforeDry.da = s.da ∧ s.beforeDry.eu = s.eu) ∨
    (s.hm.view = .boost ∧ s.beforeDry.hm.view = .none ∧ s.beforeDry.hm.boostElapsed = none ∧
      s.beforeDry.hm.startMinimum = none ∧ s.beforeDry.eu = s.eu.raise .humidBoost ∧
      ∃ e, s.beforeDry.da.table = { s.da.table with humidity := e } ∧
        (SlotNames s.hm.view s.da.table.humidity → e = none)) := by
  obtain ⟨dewPoint, rise, hsensed⟩ := s.sensed_eq
  have hview : s.sensed.hm.view = s.hm.view := by rw [hsensed]; rfl
  have hda : s.sensed.da = s.da := by rw [hsensed]; rfl
  have heu : s.sensed.eu = s.eu := by rw [hsensed]; rfl
  unfold State.beforeDry
  obtain ⟨hnone, h | h⟩ | ⟨hboost, h | h⟩ := s.sensed.stageBoost_cases <;> rw [h]
  · exact .inl rfl
  · exact .inr (.inl ⟨hview ▸ hnone, hview, hda, heu⟩)
  · exact .inl hboost
  · obtain ⟨e, htable, hempty⟩ := s.sensed.endBoost_table s.sensed.advanceBoost
    rw [← hview, ← hda, ← heu, hboost, State.endBoost_hm, State.endBoost_eu]
    exact .inr (.inr ⟨rfl, rfl, rfl, rfl, rfl, e, htable, hempty⟩)

/-! ## The dry stage (R106 to R108) -/

theorem State.nextDryCount_eq (s : State) :
    s.nextDryCount =
      if s.channelFailed chRh = true ∨ s.season.mode = .summer then 0
      else if s.filtered chRh < (s.settings.lowLimit : Int) then min 30 (s.hm.dryCount + 1) else 0 := by
  simp [State.nextDryCount]

theorem State.dryEnds_iff (s : State) :
    s.dryEnds = true ↔
      s.channelFailed chRh = true ∨ s.season.mode = .summer ∨
        (s.settings.lowLimit : Int) + 50 ≤ s.filtered chRh := by
  simp [State.dryEnds, or_assoc]

/-- A count above 0 is reached in winter alone, with RH_ETA read. -/
theorem State.winter_of_nextDryCount_ne_zero {s : State} (h : s.nextDryCount ≠ 0) :
    s.season.mode = .winter ∧ s.channelFailed chRh = false := by
  rw [State.nextDryCount_eq] at h
  split at h
  · contradiction
  · next hcounts =>
    obtain ⟨hread, hseason⟩ := not_or.1 hcounts
    refine ⟨?_, by simpa using hread⟩
    cases hmode : s.season.mode with
    | winter => rfl
    | summer => exact absurd hmode hseason

/-- The dry count of this evaluation stands (R106). -/
def State.counted (s : State) : State := s.setHm { s.hm with dryCount := s.nextDryCount }

/-- Dry protection posts its AWAY (R107). -/
def State.protectDry (s : State) : State :=
  ((s.post .humidity .away 0 none).setHm { s.hm with view := .away }).raise .dryProtect

/-- Dry protection withdraws its AWAY (R108). -/
def State.releaseDry (s : State) : State :=
  (s.setHm { s.hm with view := .none, dryCount := 0 }).removeKind .humidity .away

theorem State.stageDry_of_boost {s : State} (h : s.hm.view = .boost) : s.stageDry = s.counted := by
  simp [State.stageDry, State.counted, h]

theorem State.stageDry_of_none {s : State} (h : s.hm.view = .none) :
    s.stageDry = if s.nextDryCount = 30 then s.counted.protectDry else s.counted := by
  by_cases hcount : s.nextDryCount = 30
  · have hcounts : s.season.mode = .winter ∧ s.channelFailed chRh = false :=
      State.winter_of_nextDryCount_ne_zero (by omega)
    have hguard : s.counted.hm.dryCount = 30 ∧ s.counted.season.mode = .winter ∧
        s.counted.channelFailed chRh = false := ⟨hcount, hcounts⟩
    rw [if_pos hcount]
    simp only [State.stageDry, State.setHm_hm, h]
    exact if_pos hguard
  · simp [State.stageDry, State.counted, h, hcount]

theorem State.stageDry_of_away {s : State} (h : s.hm.view = .away) :
    s.stageDry = if s.dryEnds = true then s.counted.releaseDry else s.counted := by
  simp only [State.stageDry, State.counted, State.releaseDry, State.setHm_hm, h]
  rfl

/-- The AWAY at level 0 takes the place of whatever the HUMIDITY slot holds. -/
theorem State.protectDry_table (s : State) {t : DemandTable} {e : Option Entry}
    (h : s.da.table = { t with humidity := e }) :
    s.protectDry.da.table = t.post .humidity .away (s.settings.levelFlow 0) none := by
  change s.da.table.post .humidity .away (s.settings.levelFlow 0) none = _
  rw [h]; rfl

theorem State.releaseDry_hm (s : State) : s.releaseDry.hm = { s.hm with view := .none, dryCount := 0 } := by
  simp [State.releaseDry]

theorem State.releaseDry_eu (s : State) : s.releaseDry.eu = s.eu := by simp [State.releaseDry]

theorem State.releaseDry_table {s : State} (h : SlotNames .away s.da.table.humidity) :
    s.releaseDry.da.table = { s.da.table with humidity := none } := by
  obtain ⟨e, he, -, hkind, -⟩ := h
  exact State.removeKind_humidity_table_of_held (s := s.setHm _) he hkind

/-- With nothing posted before it, dry protection counts, and posts its AWAY with its flag at 30 (R106, R107). -/
theorem State.stageDry_none_posts {s : State} {t : DemandTable} {e : Option Entry} (h : s.hm.view = .none)
    (htable : s.da.table = { t with humidity := e }) :
    s.stageDry.hm.dryCount = s.nextDryCount ∧ s.stageDry.hm.boostElapsed = s.hm.boostElapsed ∧
      s.stageDry.hm.startMinimum = s.hm.startMinimum ∧
      (s.nextDryCount = 30 →
        s.stageDry.hm.view = .away ∧ s.stageDry.eu = s.eu.raise .dryProtect ∧
        s.stageDry.da.table = t.post .humidity .away (s.settings.levelFlow 0) none) ∧
      (s.nextDryCount < 30 → s.stageDry.hm.view = .none ∧ s.stageDry.da = s.da ∧ s.stageDry.eu = s.eu) := by
  rw [State.stageDry_of_none h]
  split
  · next hcount =>
    exact ⟨rfl, rfl, rfl, fun _ => ⟨rfl, rfl, s.counted.protectDry_table htable⟩, fun hlt => absurd hcount hlt.ne⟩
  · next hcount => exact ⟨rfl, rfl, rfl, fun h => absurd h hcount, fun _ => ⟨h, rfl, rfl⟩⟩

/-- An AWAY of dry protection is withdrawn at R108's conditions, without a flag, and stands otherwise. -/
theorem State.stageDry_away_withdraws {s : State} (h : s.hm.view = .away) :
    s.stageDry.eu = s.eu ∧
      (s.dryEnds = true →
        s.stageDry.hm.view = .none ∧ s.stageDry.hm.dryCount = 0 ∧
        (SlotNames .away s.da.table.humidity → s.stageDry.da.table = { s.da.table with humidity := none })) ∧
      (s.dryEnds = false →
        s.stageDry.hm.view = .away ∧ s.stageDry.hm.dryCount = s.nextDryCount ∧ s.stageDry.da = s.da) := by
  rw [State.stageDry_of_away h]
  split
  · next hends =>
    rw [State.releaseDry_hm, State.releaseDry_eu]
    exact ⟨rfl, fun _ => ⟨rfl, rfl, State.releaseDry_table⟩, fun hstays => by simp [hends] at hstays⟩
  · next hends => exact ⟨rfl, fun h => absurd h hends, fun _ => ⟨h, rfl, rfl⟩⟩

/-- A boost that stands after the dry stage stood before it: the stage only counts. -/
theorem State.stageDry_boost_stands {s : State} (h : s.stageDry.hm.view = .boost) :
    s.hm.view = .boost ∧ s.stageDry.hm.dryCount = s.nextDryCount := by
  cases hview : s.hm.view with
  | boost => exact ⟨rfl, by rw [State.stageDry_of_boost hview]; rfl⟩
  | none =>
    rw [State.stageDry_of_none hview] at h
    split at h
    · nomatch (h : SlotView.away = .boost)
    · exact absurd (hview.symm.trans h) nofun
  | away =>
    rw [State.stageDry_of_away hview] at h
    split at h
    · rw [State.releaseDry_hm] at h; nomatch (h : SlotView.none = .boost)
    · exact absurd (hview.symm.trans h) nofun

/-- Settles O36: what stands in the slot before the dry stage decides what that stage does, and its inputs are those of
the state before the evaluation. -/
theorem dryProtectionPostsAndWithdraws : Obligations.DryProtectionPostsAndWithdraws := by
  intro s rh count hacts hrh hcount
  rw [hrh, ← State.nextDryCount_eq, ← State.beforeDry_nextDryCount] at hcount
  subst hrh hcount
  refine ⟨s.evaluateHumidity, exec_humidityEvaluation_of_acts hacts, ?_⟩
  rw [State.evaluateHumidity_eq]
  refine ⟨fun h => (State.stageDry_boost_stands h).2, ?_⟩
  obtain hboost | ⟨hview, hkept, hda, heu⟩ | ⟨hview, hnone, helapsed, hstart, heu, e, htable, hempty⟩ :=
    s.beforeDry_cases
  case inl =>
    have hstands : s.beforeDry.stageDry.hm.view = .boost := by rw [State.stageDry_of_boost hboost]; exact hboost
    exact ⟨fun _ h => absurd hstands h, fun _ h => absurd hstands h, fun _ h => absurd hstands h⟩
  case inr.inl =>
    refine ⟨fun hnone _ => ?_, fun h => absurd h hview, fun haway _ => ?_⟩
    · obtain ⟨hcounted, -, -, hposts, hrests⟩ :=
        State.stageDry_none_posts (hkept.trans hnone) (congrArg Arbiter.table hda)
      rw [heu, State.beforeDry_settings] at hposts
      rw [hda, heu] at hrests
      exact ⟨hcounted, hposts, hrests⟩
    · obtain ⟨hquiet, hends, hstays⟩ := State.stageDry_away_withdraws (hkept.trans haway)
      rw [State.beforeDry_dryEnds, hda] at hends hstays
      rw [haway]
      refine ⟨hquiet.trans heu, fun h => hends (s.dryEnds_iff.2 h), fun hread hwinter hdry => hstays ?_⟩
      refine Bool.eq_false_iff.2 fun h => ?_
      simp [State.dryEnds_iff, hread, hwinter, hdry.not_ge] at h
  case inr.inr =>
    obtain ⟨hcounted, hkeepsElapsed, hkeepsStart, hposts, hrests⟩ := State.stageDry_none_posts hnone htable
    rw [heu, State.beforeDry_settings] at hposts
    refine ⟨fun h => absurd (hview.symm.trans h) nofun, fun _ _ => ?_, fun h => absurd (hview.symm.trans h) nofun⟩
    refine ⟨hcounted, hkeepsElapsed.trans helapsed, hkeepsStart.trans hstart, hposts, fun hlt => ?_⟩
    obtain ⟨hstill, harbiter, hevents⟩ := hrests hlt
    refine ⟨hstill, hevents.trans heu, fun hslot => ?_⟩
    rw [harbiter, htable, hempty hslot]

end Sys2Proof.Machine

/-! # What a command can do

Every command is a run of moves of single blocks. `State.Move` says once what those moves are; an invariant is kept by
every step as soon as every move keeps it. -/

namespace Sys2Proof.Machine

/-! ## Moves of one block -/

/-- What the event unit can do outside a master reset (10.1 to 10.4). -/
inductive EventUnit.Move (e : EventUnit) : EventUnit → Prop
  | raise (f : Flag) : e.Move (e.raise f)
  | count (snapshot : Bool) (c : Counter) : e.Move (e.count snapshot c)
  | clearWord (w : EventWord) : e.Move (e.clearWord w)
  | writeMask (w : EventWord) (b : Byte) : e.Move (e.writeMask w b)
  | control (b : Byte) : e.Move (e.control b)
  | runningReset : e.Move e.runningReset
  | copyAll : e.Move e.copyAll
  | clearCounters : e.Move e.clearCounters

/-- What a fan does between control steps (R50, R51, R53, R54, R56). -/
inductive FanRecord.Move (f : FanRecord) : FanRecord → Prop
  | holdoffEnds (h : f.state = .holdoff) : f.Move { f with state := .stopped, wait := none }
  | startFails (holdoff : Nat) (h : f.state = .starting) : f.Move (f.enterStalled holdoff)
  | startsAgain (h : f.state = .stalled) : f.Move f.enterStarting
  | staysOff (h : f.state = .stalled) : f.Move { f with state := .stopped, wait := none }
  | lockoutCleared (holdoff : Nat) (h : f.state = .lockedOut) :
      f.Move { f.enterHoldoff holdoff with retries := 0, runningTime := 0 }

/-- What the damper does between frost evaluations (R90, R92, R94, R95). -/
inductive Damper.Move (d : Damper) (travel : Nat) : Damper → Prop
  | tick (h : d.travelling = true) : d.Move travel (d.tick travel)
  | retravel : d.Move travel (d.retravel travel)
  | switched (sw : DamperEnd) (made fitted : Bool) : d.Move travel (d.switched sw made travel fitted)
  | faultCleared (h : d.state = .fault) : d.Move travel ({ d with position := travel }.begin .closed travel)

/-- The records of one filter agree in what the change protocol and the ceiling read: only the deadline may count
down. -/
def FilterRecord.SameChange (f g : FilterRecord) : Prop :=
  g.state = f.state ∧ g.saved = f.saved ∧ g.owner = f.owner ∧ g.deadline.isSome = f.deadline.isSome

/-- What the settings store does beside its working record (R128, R184, R189). -/
inductive SettingsStore.Move (ss : SettingsStore) : SettingsStore → Prop
  | saveWaits : ss.Move { ss with saveWaiting := true }
  | saveEnds (r : StoredFilter × StoredFilter) (h : ss.saving = some r) :
      ss.Move { ss with storedSupply := r.1, storedExtract := r.2, saving := none }
  | stage (x : StoreStage) : ss.Move { ss with store := x }
  | stored : ss.Move { ss with stored := .written ss.working, store := .idle }
  | failed : ss.Move { ss with stored := { ss.stored with valid := false }, store := .idle }
  | cause (x : ResetCause) : ss.Move { ss with cause := x }

/-! ## Moves of the state -/

/-- A master source can be heard: a partner's slot is not LOST, and the unit processor's requests do not reach a
stand-alone part, unless a `stray` transaction stands in one. -/
def State.Heard (s : State) (stray : Prop) (src : Master) : Prop :=
  match masterSlot src with
  | none => s.standAlone = true → stray
  | some i => (s.slot i).state ≠ .lost

/-- The settings that the ceiling and the plan are formed from (R32, R33). -/
def SettingId.planned : SettingId → Bool
  | .qmin | .qmax | .level _ | .defaultBaseLevel | .derateLoaded | .derateBlocked => true
  | _ => false

/-- The state that one move leaves. `stray` allows for a transaction in a stand-alone part, which no run reaches. -/
inductive State.Move (stray : Prop) (s : State) : State → Prop
  | pinReleased : s.Move stray (s.setResetPin false)
  | pinAsserted (h : s.phase = .held ∨ s.lp.stage = .idle) : s.Move stray (s.setResetPin true)
  | masterReset (cause : ResetCause) (straps : Straps) (pin : Bool) : s.Move stray (s.masterReset cause straps pin)
  | leaveHold (h : s.phase = .held) : s.Move stray (s.setPhase .loading)
  | load (h : s.phase = .loading) :
      s.Move stray (((s.loaded.reportLoad s.ss.stored.passes).recomputeCeiling).setPhase .running)
  | measurement (mc : Measurement) : s.Move stray (s.setMc mc)
  | events (e : EventUnit) (h : s.eu.Move e) : s.Move stray (s.setEu e)
  | demand (src : Master) (kind : DemandKind) (rest : List Entry) (flow : Nat) (remaining : Option Nat)
      (place : s.da.table.place (.master src) kind = .placed rest ∨
        s.da.table.place (.master src) kind = .evicting rest)
      (duration : ∀ d, remaining = some d → 1 ≤ d ∧ d ≤ 14400) (heard : s.Heard stray src) :
      s.Move stray (s.withTable (s.da.table.append rest (.master src) kind flow remaining))
  | shrink (l : List Entry) (h : l.Sublist s.da.table.general) :
      s.Move stray (s.withTable { s.da.table with general := l })
  | cordPosts (c : Cord) (kind : DemandKind) (flow : Nat) (remaining : Option Nat)
      (h : kind = .boost ∨ kind = .purge) :
      s.Move stray (s.withTable (s.da.table.post (.cord c) kind flow remaining))
  | cordEmpties (c : Cord) : s.Move stray (s.withTable (s.da.table.withSlot (.cord c) none))
  | expireKeeping (h : s.da.table.expire.entries.length = s.da.table.entries.length) :
      s.Move stray (s.setDa { s.da with table := s.da.table.expire })
  | expire : s.Move stray (s.withTable s.da.table.expire)
  | tacho (side : Side) (x : Tacho) :
      s.Move stray (s.setAe (s.ae.withFan side { s.ae.fan side with tacho := x }))
  | waits : s.Move stray
      (s.setAe { s.ae with supply := s.ae.supply.secondPasses, extract := s.ae.extract.secondPasses })
  | controlStep : s.Move stray s.controlStep
  | fan (side : Side) (f : FanRecord) (h : (s.ae.fan side).Move f) : s.Move stray (s.withFan side f)
  | frost (r : FrostRecord) (hr : r = (s.frostInputs.evaluate s.fg).record) :
      s.Move stray (((s.setFg { r with wantedOpen := s.wantedOpen r.state }).setDamper (s.damperAfter r.state)).setPreheat
        (s.preheat.published r.proportion))
  | window (h : s.ae.supply.state = .running ∧ s.preheaterFitted = true) :
      s.Move stray (s.setPreheat (Preheat.startWindow s.fg.proportion))
  | heaterOff : s.Move stray (s.setPreheat { s.preheat with output := false })
  | damper (d : Damper) (h : s.damper.Move s.settings.bypassTravel d) : s.Move stray (s.setDamper d)
  | climate (x : Humidity) (view : x.view = s.hm.view)
      (boost : x.boostElapsed.isSome = s.hm.boostElapsed.isSome ∨ x.view = .boost ∧ x.boostElapsed.isSome = true)
      (rise : s.hm.rise.length ≤ 30 → x.rise.length ≤ 30) (dry : s.hm.dryCount ≤ 30 → x.dryCount ≤ 30)
      (stations : x.stations = s.hm.stations) : s.Move stray (s.setHm x)
  | boostStarts : s.Move stray ((s.post .humidity .boost 3 none).setHm
      { s.hm with
        view := .boost
        boostElapsed := some 0
        startMinimum := if s.channelFailed chRh then none else windowMinimum s.hm.rise })
  | boostEnds (h : s.hm.view = .boost) :
      s.Move stray ((s.setHm { s.advanceBoost with view := .none, boostElapsed := none, startMinimum := none }).removeKind
        .humidity .boost)
  | dryStarts (h : s.hm.view = .none) : s.Move stray ((s.post .humidity .away 0 none).setHm { s.hm with view := .away })
  | dryEnds (h : s.hm.view = .away) :
      s.Move stray ((s.setHm { s.hm with view := .none, dryCount := 0 }).removeKind .humidity .away)
  | station (n : Fin 4) (a : Acceptance) (h : (s.slot ⟨n.val, by omega⟩).state ≠ .lost) : s.Move stray (s.withStation n a)
  | assessed (side : Side) (set : Settings) (ready : Bool) (pressure : Channel) :
      s.Move stray (s.handOn side ((s.fm.filter side).assess set ready pressure))
  | changeBegins (side : Side) (src : Master) (h : (s.fm.filter side).state ≠ .changing) (heard : s.Heard stray src) :
      s.Move stray (s.handOn side ((s.fm.filter side).beginChange src))
  | changeRenewed (side : Side) (h : (s.fm.filter side).state = .changing) :
      s.Move stray (s.setFm (s.fm.withFilter side { s.fm.filter side with deadline := some 900 }))
  | changeAbandoned (side : Side) (h : (s.fm.filter side).state = .changing) :
      s.Move stray (s.handOn side (s.fm.filter side).abandon)
  | changeDone (side : Side) (h : (s.fm.filter side).state = .changing) :
      s.Move stray (s.handOn side (s.fm.filter side).completeChange)
  | unitChangesEnd : s.Move stray s.abandonUnitChanges
  | filters (fm : Filters) (h : ∀ side, (s.fm.filter side).SameChange (fm.filter side)) : s.Move stray (s.setFm fm)
  | saveBegins : s.Move stray s.beginSave
  | store (ss : SettingsStore) (h : s.ss.Move ss) : s.Move stray (s.setSs ss)
  | record (k : SettingId) (v : Int) (h : k.planned = false) (hm : k ≠ .minFraction) :
      s.Move stray (s.withWorking (s.settings.write k (s.settings.clampValue k v)))
  | planRecord (k : SettingId) (v : Int) (h : k.planned = true) :
      s.Move stray (s.withWorking (s.settings.write k (s.settings.clampValue k v))).recomputeCeiling
  | fractionRecord (set : Settings) (v : Int)
      (h : set = s.settings.write .minFraction (s.settings.clampValue .minFraction v)) :
      s.Move stray ((s.withWorking set).setFg (s.fg.raiseFraction set.minFraction))
  | season (x : SeasonRecord) : s.Move stray (s.setSeason x)
  | link (rl : RoomLink) (h : rl.slots = s.rl.slots) : s.Move stray (s.setRl rl)
  | slot (i : Fin 15) (x : Slot) (h : x.state = .lost → (s.slot i).state = .lost ∧ (s.slot i = Slot.lost → x = Slot.lost)) :
      s.Move stray (s.withSlot i x)
  | lost (i : Fin 15) : s.Move stray (s.enterLost i)
  | port (lp : LocalPort) (h : lp.stage ≠ .idle → s.lp.stage ≠ .idle ∨ s.portAnswers = true) : s.Move stray (s.setLp lp)

/-- A run of moves. -/
abbrev State.Moves (stray : Prop) : State → State → Prop := Relation.ReflTransGen fun s t => s.Move stray t

end Sys2Proof.Machine

namespace Sys2Proof.Machine

section
variable {stray : Prop}

/-! ## Shared operations as runs of moves -/

theorem State.Moves.of_move {s t : State} (h : s.Move stray t) : s.Moves stray t := .single h

theorem State.raise_moves (s : State) (f : Flag) : s.Moves stray (s.raise f) := .single (.events _ (.raise f))

theorem State.count_moves (s : State) (c : Counter) : s.Moves stray (s.count c) := .single (.events _ (.count _ c))

theorem State.raiseAll_moves (s : State) (l : List Flag) : s.Moves stray (s.raiseAll l) := by
  induction l generalizing s with
  | nil => exact .refl
  | cons f l ih => exact (s.raise_moves f).trans (ih _)

/-- A run that a condition may leave out. -/
theorem State.Moves.ite {s t : State} (c : Prop) [Decidable c] (h : c → s.Moves stray t) :
    s.Moves stray (if c then t else s) := by
  split
  · exact h ‹_›
  · exact .refl

theorem State.unlessHeld_moves {s : State} {f : State → State} (h : s.phase ≠ .held → s.Moves stray (f s)) :
    s.Moves stray (s.unlessHeld f) := by
  unfold State.unlessHeld
  split
  · exact .refl
  · exact h ‹_›

theorem State.whenRunning_moves {s : State} {f : State → State} (h : s.phase = .running → s.Moves stray (f s)) :
    s.Moves stray (s.whenRunning f) := by
  unfold State.whenRunning
  split
  · exact h ‹_›
  · exact .refl

/-- A port record of the same stage stands for it. -/
theorem State.setLp_moves {s : State} {lp : LocalPort} (h : lp.stage = s.lp.stage) : s.Moves stray (s.setLp lp) :=
  .single (.port lp fun hne => .inl (h ▸ hne))

theorem State.setRl_moves {s : State} {rl : RoomLink} (h : rl.slots = s.rl.slots) : s.Moves stray (s.setRl rl) :=
  .single (.link rl h)

theorem State.withSlot_moves (s : State) (i : Fin 15) {x : Slot} (h : x.state ≠ .lost) :
    s.Moves stray (s.withSlot i x) :=
  .single (.slot i x fun hl => absurd hl h)

theorem State.removeMaster_moves (s : State) (m : Master) : s.Moves stray (s.removeMaster m) :=
  .single (.shrink _ List.filter_sublist)

theorem State.judgeObservation_moves (s : State) : s.Moves stray s.judgeObservation := .single (.season _)

theorem State.changeSeason_moves (s : State) (mode : SeasonMode) (setBy : LastSetBy) :
    s.Moves stray (s.changeSeason mode setBy) := .trans (.single (.season _)) (State.raise_moves _ _)

theorem State.saveDue_moves (s : State) : s.Moves stray s.saveDue := by
  unfold State.saveDue
  split
  · exact .single .saveBegins
  · exact .single (.store _ .saveWaits)

theorem State.abandonChange_moves (s : State) (side : Side) : s.Moves stray (s.abandonChange side) :=
  .ite _ fun h => .trans (.single (.changeAbandoned side h)) (State.raise_moves _ _)

/-- A stalled fan is a fan that failed its start, with its flags and its counter (R53). -/
theorem State.stallFan_moves {s : State} {side : Side} (h : (s.ae.fan side).state = .starting) :
    s.Moves stray (s.stallFan side) := by
  have hfan : s.Moves stray (s.withFan side ((s.ae.fan side).enterStalled s.settings.holdoffTime)) :=
    .single (.fan side _ (.startFails _ h))
  have hcount := (hfan.trans (State.raise_moves _ (stallFlag side))).trans (State.count_moves _ (stallCounter side))
  unfold State.stallFan
  dsimp only
  split
  · exact hcount.trans (State.raise_moves _ _)
  · exact hcount

/-! ## Slots -/

theorem State.leaveList_moves (s : State) (i : Fin 15) : s.Moves stray (s.leaveList i) := by
  have hlost : s.Moves stray (s.enterLost i) := .single (.lost i)
  unfold State.leaveList
  split
  · exact .refl
  · exact hlost
  · exact hlost.trans (State.raise_moves _ _)
  · exact hlost.trans (State.raise_moves _ _)

theorem State.slotMiss_moves (s : State) (i : Fin 15) : s.Moves stray (s.slotMiss i) := by
  unfold State.slotMiss
  dsimp only
  split
  case h_1 h =>
    split
    · exact .single (.lost i)
    · exact s.withSlot_moves i fun hl => nomatch hl.symm.trans h
  case h_2 h =>
    refine (s.count_moves .linkMisses).trans (State.withSlot_moves _ i ?_)
    unfold Slot.judgePresent
    split <;> simp [Slot.enterMissing, Slot.note, h]
  case h_3 h => exact (s.count_moves .linkMisses).trans (State.withSlot_moves _ i fun hl => nomatch hl.symm.trans h)
  case h_4 => exact .refl

/-- A good reply leaves its slot in another state than LOST (R159, R160, R163). -/
theorem State.slotGood_not_lost (s : State) (i : Fin 15) : ((s.slotGood i).slot i).state ≠ .lost := by
  unfold State.slotGood
  dsimp only
  split
  case h_1 => simp [Slot.enterPresent]
  case h_2 h =>
    rw [State.slot_withSlot_self]
    unfold Slot.judgePresent
    split <;> simp [Slot.enterMissing, Slot.note, h]
  case h_3 h =>
    rw [State.slot_withSlot_self]
    unfold Slot.goodInMissing
    split <;> simp [Slot.enterPresent, Slot.note, h]
  case h_4 =>
    have hslot : ∀ t : State, (t.reportFound i).slot i = t.slot i := fun t => by
      unfold State.reportFound; split <;> rfl
    rw [hslot]
    show (((s.withSlot i _).slot i).state ≠ .lost)
    simp [Slot.enterPresent]

theorem State.slotGood_moves (s : State) (i : Fin 15) : s.Moves stray (s.slotGood i) := by
  have hgood := s.slotGood_not_lost i
  unfold State.slotGood at hgood ⊢
  dsimp only at hgood ⊢
  split
  case h_4 =>
    have hpresent : s.Moves stray (s.withSlot i (s.slot i).enterPresent) := s.withSlot_moves i nofun
    exact (hpresent.trans (State.raise_moves _ _)).trans (State.Moves.ite _ fun _ => State.judgeObservation_moves _)
  all_goals
    simp only [State.slot_withSlot_self, *] at hgood
    exact State.withSlot_moves _ i hgood

theorem State.slotTick_moves (s : State) (i : Fin 15) : s.Moves stray (s.slotTick i) := by
  unfold State.slotTick
  dsimp only
  split
  case h_1 h =>
    split
    · exact .trans (.single (.lost i)) (State.raise_moves _ _)
    · exact s.withSlot_moves i fun hl => nomatch hl.symm.trans h
  case h_2 => exact .refl

/-- An operation done for each address is a run if one of it is. -/
theorem State.foldl_moves {α : Type} {f : State → α → State} (h : ∀ (s : State) x, s.Moves stray (f s x)) (l : List α) (s : State) :
    s.Moves stray (l.foldl f s) := by
  induction l generalizing s with
  | nil => exact .refl
  | cons x l ih => exact (h s x).trans (ih _)

theorem State.listChanged_moves (before : BitVec 16) (s : State) (i : Fin 15) :
    s.Moves stray (State.listChanged before s i) := by
  refine .ite _ fun _ => ?_
  split
  · exact State.setRl_moves rfl
  · exact s.leaveList_moves i

theorem State.endPoll_moves (s : State) (i : Fin 15) : s.Moves stray (s.endPoll i) := by
  have hidle : s.Moves stray (s.setRl { s.rl with stage := .idle, lossDue := false }) := State.setRl_moves rfl
  unfold State.endPoll
  dsimp only
  split
  · exact hidle.trans (State.leaveList_moves _ i)
  · exact hidle

theorem State.missedPoll_moves (s : State) (i : Fin 15) : s.Moves stray (s.missedPoll i) :=
  (s.slotMiss_moves i).trans (State.endPoll_moves _ i)

theorem State.badPoll_moves (s : State) (i : Fin 15) : s.Moves stray (s.badPoll i) :=
  (s.count_moves _).trans (State.missedPoll_moves _ i)

/-! ## Requests -/

theorem demandDuration_bounds (kind : DemandKind) (duration : Option Word16) (d : Nat)
    (h : (demandDuration kind duration).value = some d) : 1 ≤ d ∧ d ≤ 14400 := by
  unfold demandDuration at h
  split at h
  case h_3 n hn _ =>
    have : n ≠ 0 := fun h0 => by simp_all
    split at h <;> simp only [Option.some.injEq] at h <;> omega
  all_goals
    dsimp only at h
    split at h <;> simp at h; omega

theorem State.demand_moves {s : State} {src : Master} (h : s.Heard stray src) (kind : DemandKind) (p : DemandParams) :
    s.Moves stray (s.demand src kind p).1 := by
  unfold State.demand
  split
  · exact .refl
  dsimp only
  split
  · exact .refl
  · rename_i hplace
    exact .single (.demand src kind _ _ _ (.inl hplace) (demandDuration_bounds _ _) h)
  · rename_i hplace
    exact (s.raise_moves _).tail (.demand (s := s.raise _) src kind _ _ _ (.inr hplace) (demandDuration_bounds _ _) h)

theorem State.withdraw_moves (s : State) (src : Master) (code : Byte) : s.Moves stray (s.withdraw src code).1 := by
  unfold State.withdraw
  split
  · exact .refl
  split
  · exact .single (.shrink _ List.filter_sublist)
  · exact .refl

theorem State.filterBegin_moves {s : State} {src : Master} (h : s.Heard stray src) (code : Byte) :
    s.Moves stray (s.filterBegin src code).1 := by
  unfold State.filterBegin
  split
  · exact .refl
  dsimp only
  split
  · exact .single (.changeBegins _ src ‹_› h)
  split
  · exact .single (.changeRenewed _ (not_not.1 ‹_›))
  · exact .refl

theorem State.filterAbandon_moves (s : State) (src : Master) (code : Byte) :
    s.Moves stray (s.filterAbandon src code).1 := by
  unfold State.filterAbandon
  split
  · exact .refl
  dsimp only
  split
  · exact .refl
  split
  · exact .refl
  · exact .single (.changeAbandoned _ (not_not.1 ‹_›))

theorem State.filterDone_moves (s : State) (src : Master) (code : Byte) : s.Moves stray (s.filterDone src code).1 := by
  unfold State.filterDone
  split
  · exact .refl
  dsimp only
  split
  · exact .refl
  split
  · exact .refl
  · exact (State.Moves.of_move (.changeDone _ (not_not.1 ‹_›))).trans ((State.count_moves _ _).trans (State.saveDue_moves _))

theorem State.requestSeason_moves (s : State) (src : Master) (code : Byte) :
    s.Moves stray (s.requestSeason src code).1 := by
  unfold State.requestSeason
  split
  · exact .refl
  split
  · exact .refl
  split
  · exact .refl
  · exact s.changeSeason_moves _ _

theorem State.clearLockoutFan_moves (s : State) (side : Side) : s.Moves stray (s.clearLockoutFan side).1 := by
  unfold State.clearLockoutFan
  dsimp only
  split
  · exact .single (.fan side _ (.lockoutCleared _ ‹_›))
  · exact .refl

theorem State.clearLockoutBypass_moves (s : State) : s.Moves stray s.clearLockoutBypass.1 := by
  unfold State.clearLockoutBypass
  split
  · exact .refl
  split
  · exact .single (.damper _ (.faultCleared ‹_›))
  · exact .refl

theorem State.clearLockout_moves (s : State) (target : Byte) : s.Moves stray (s.clearLockout target).1 := by
  unfold State.clearLockout
  split
  · exact s.clearLockoutFan_moves _
  split
  · exact s.clearLockoutFan_moves _
  split
  · exact s.clearLockoutBypass_moves
  · exact .refl

theorem State.inject_moves (s : State) (channel mode : Byte) : s.Moves stray (s.inject channel mode).1 := by
  unfold State.inject
  split
  · split
    · exact .refl
    · dsimp only
      split
      · exact .refl
      · exact .single (.measurement _)
  · exact .refl

theorem State.heatAddressChanged_moves (s : State) : s.Moves stray s.heatAddressChanged := by
  unfold State.heatAddressChanged
  dsimp only
  split
  · exact s.judgeObservation_moves.tail (.season _)
  · exact s.judgeObservation_moves

/-- A setting written with its owner's reaction (R187). -/
theorem State.writeRecord_moves (s : State) (k : SettingId) (v : Int) :
    s.Moves stray ((s.withWorking (s.settings.write k (s.settings.clampValue k v))).react s.settings k) := by
  by_cases hplanned : k.planned = true
  · cases k <;> first | exact State.Moves.of_move (.planRecord _ v rfl) | exact absurd hplanned nofun
  have hrecord : k ≠ .minFraction →
      s.Moves stray (s.withWorking (s.settings.write k (s.settings.clampValue k v))) := fun hm =>
    .single (.record k v (Bool.eq_false_iff.2 hplanned) hm)
  cases k
  case minFraction => exact .single (.fractionRecord _ v rfl)
  case bypassTravel => exact (hrecord nofun).tail (.damper _ .retravel)
  case qref => exact (hrecord nofun).tail (.filters _ fun side => by cases side <;> exact ⟨rfl, rfl, rfl, rfl⟩)
  case seasonObserve => exact (hrecord nofun).trans (State.judgeObservation_moves _)
  case heatAddress => exact (hrecord nofun).trans (State.heatAddressChanged_moves _)
  case counterSnapshot =>
    refine (hrecord nofun).trans ?_
    unfold State.react
    dsimp only
    split
    · exact .refl
    · exact .single (.events _ .copyAll)
  case pollList => exact (hrecord nofun).trans (State.foldl_moves (State.listChanged_moves _) _ _)
  all_goals first | exact hrecord nofun | exact absurd rfl hplanned

theorem State.writeSetting_moves (s : State) (id value : Word16) : s.Moves stray (s.writeSetting id value).1 := by
  unfold State.writeSetting
  split
  · exact .refl
  split
  · exact .refl
  dsimp only
  split
  · exact .refl
  · exact s.writeRecord_moves _ _

theorem State.storeSettings_moves (s : State) : s.Moves stray s.storeSettings.1 := by
  unfold State.storeSettings
  split
  · exact .refl
  · exact .single (.store _ (.stage _))

theorem State.need_moves {α : Type} {s : State} {o : Option α} {f : α → State × RequestOutcome}
    (h : ∀ x, s.Moves stray (f x).1) : s.Moves stray (need s o f).1 := by
  cases o
  · exact .refl
  · exact h _

theorem State.route_moves {s : State} {r : Request} (h : s.Heard stray r.source) (k : RequestKind) :
    s.Moves stray (s.route r k).1 := by
  cases k
  case withdraw => exact State.need_moves fun _ => s.withdraw_moves _ _
  case filterBegin => exact State.need_moves fun _ => State.filterBegin_moves h _
  case filterDone => exact State.need_moves fun _ => s.filterDone_moves _ _
  case filterAbandon => exact State.need_moves fun _ => s.filterAbandon_moves _ _
  case setSeason => exact State.need_moves fun _ => s.requestSeason_moves _ _
  case clearLockout => exact State.need_moves fun _ => s.clearLockout_moves _
  case inject => exact State.need_moves fun _ => State.need_moves fun _ => s.inject_moves _ _
  case writeSetting => exact State.need_moves fun _ => State.need_moves fun _ => s.writeSetting_moves _ _
  case storeSettings => exact s.storeSettings_moves
  case clearCounters => exact .single (.events _ .clearCounters)
  all_goals exact State.demand_moves h _ _

theorem State.handle_moves {s : State} {r : Request} (h : s.Heard stray r.source) : s.Moves stray (s.handle r).1 := by
  have hanswer : s.Moves stray (s.answer r).1 := by
    unfold State.answer
    split
    · exact .refl
    split
    · exact State.route_moves h _
    · exact .refl
  unfold State.handle
  dsimp only
  split
  · exact hanswer.trans (State.count_moves _ _)
  · exact hanswer

theorem State.deliver_moves (s : State) (src : Master) (a : Answer) : s.Moves stray (s.deliver src a) := by
  unfold State.deliver
  split
  · exact State.setLp_moves rfl
  split
  · exact .refl
  · exact State.withSlot_moves _ _ ‹_›

theorem State.submit_moves {s : State} {r : Request} (h : s.Heard stray r.source) : s.Moves stray (s.submit r) :=
  (State.handle_moves h).trans (State.deliver_moves _ _ _)

theorem State.request_moves (s : State) (r : Request) : s.Moves stray (s.request r) := by
  refine State.whenRunning_moves fun _ => .ite _ fun hmay => State.submit_moves ?_
  revert hmay
  unfold State.mayRequest State.Heard
  cases masterSlot r.source <;> simp +contextual

/-! ## Replies -/

theorem masterSlot_of_slotMaster {i : Fin 15} {m : Master} (h : slotMaster i = some m) : masterSlot m = some i := by
  unfold slotMaster at h
  split at h
  · cases h; rfl
  split at h
  · cases h; exact congrArg some (Fin.ext (by omega))
  · cases h

theorem State.reply_moves {s : State} {address : Byte} {fits : Bool} {content : State → Fin 15 → State}
    (h : ∀ (t : State) i, (t.slot i).state ≠ .lost → t.Moves stray (content t i)) : s.Moves stray (s.reply address fits content) := by
  refine State.whenRunning_moves fun _ => ?_
  split
  · split
    · exact ((s.slotGood_moves _).trans (h _ _ (s.slotGood_not_lost _))).trans (State.endPoll_moves _ _)
    · exact s.badPoll_moves _
  · exact .refl

theorem State.askContent_moves (payload : List Byte) (s : State) (i : Fin 15) (h : (s.slot i).state ≠ .lost) :
    s.Moves stray (s.askContent payload i) := by
  unfold State.askContent
  split
  · exact .refl
  · rename_i m hm
    have hsource : (Request.ofAsk m payload).source = m := by
      have hparams : ∀ code l, (Request.ofParams m code l).source = m := fun code l => by
        unfold Request.ofParams; dsimp only; split <;> rfl
      unfold Request.ofAsk
      split
      · rfl
      · split
        · rfl
        · exact hparams _ _
      · exact hparams _ _
    refine State.submit_moves ?_
    rw [hsource]
    simpa [State.Heard, masterSlot_of_slotMaster hm] using h

theorem State.tellContent_moves (temperature humidity : Word16) (flags : Byte) (s : State) (i : Fin 15)
    (h : (s.slot i).state ≠ .lost) : s.Moves stray (s.tellContent temperature humidity flags i) := by
  unfold State.tellContent
  split
  · have htell : s.Moves stray (s.withSlot i { s.slot i with tell := some (tellOf temperature humidity flags) }) :=
      s.withSlot_moves i h
    refine htell.tail (.station _ _ ?_)
    rw [State.slot_withSlot_self]
    exact h
  · exact .refl

theorem State.heatContent_moves (call : Byte) (s : State) (i : Fin 15) : s.Moves stray (s.heatContent call i) := by
  refine .ite _ fun _ => .ite _ fun _ => ?_
  have hage : s.Moves stray (s.setSeason { s.season with heatCallAge := 0 }) := .single (.season _)
  split
  · exact hage.trans (State.changeSeason_moves _ _ _)
  · exact hage

/-! ## Blocks -/

theorem State.assessSide_moves (s : State) (side : Side) : s.Moves stray (s.assessSide side) := by
  have hassessed : s.Moves stray (s.handOn side ((s.fm.filter side).assess s.settings s.mc.ready
      (s.channel (filterChannel side)))) := .single (.assessed side _ _ _)
  unfold State.assessSide
  dsimp only
  split
  · exact hassessed.trans (State.raise_moves _ _)
  · exact hassessed

theorem State.reportSample_moves (s : State) (e : SampleEvent) : s.Moves stray (s.reportSample e) := by
  cases e
  · exact .refl
  · exact (s.raise_moves _).trans (State.count_moves _ _)
  · exact s.raise_moves _

theorem State.withCord_moves (s : State) (c : Cord) (r : CordRecord) : s.Moves stray (s.withCord c r) :=
  .single (.measurement _)

theorem State.shortPress_moves (s : State) (c : Cord) : s.Moves stray (s.shortPress c) := by
  unfold State.shortPress
  split
  · exact .single (.cordPosts c _ _ _ (.inl rfl))
  · exact .single (.cordEmpties c)

theorem State.debounceExpired_moves (s : State) (c : Cord) : s.Moves stray (s.debounceExpired c) := by
  unfold State.debounceExpired
  dsimp only
  split
  · exact .refl
  split
  · split
    · split
      · exact (s.withCord_moves c _).trans (State.shortPress_moves _ c)
      · exact s.withCord_moves c _
    · exact s.withCord_moves c _
  split
  · exact s.withCord_moves c _
  · exact s.withCord_moves c _

theorem State.longHold_moves (s : State) (c : Cord) : s.Moves stray (s.longHold c) :=
  .ite _ fun _ => (s.withCord_moves c _).tail (.cordPosts c _ _ _ (.inr rfl))

theorem State.raiseAll_eq_setEu (s : State) (l : List Flag) : s.raiseAll l = s.setEu (l.foldl EventUnit.raise s.eu) := by
  induction l generalizing s with
  | nil => rfl
  | cons f l ih => exact ih _

/-- The flags and the count of an evaluation are moves of the event unit, and the rest of it reads none of them. -/
theorem State.evaluateFrost_moves (s : State) : s.Moves stray s.evaluateFrost := by
  have hevents : ∃ e, (s.raiseAll (s.frostInputs.evaluate s.fg).flags).countDefrost (s.frostInputs.evaluate s.fg).flags =
      s.setEu e := by
    rw [State.raiseAll_eq_setEu]
    unfold State.countDefrost
    split
    · exact ⟨_, rfl⟩
    · exact ⟨_, rfl⟩
  have hmoves : s.Moves stray ((s.raiseAll (s.frostInputs.evaluate s.fg).flags).countDefrost
      (s.frostInputs.evaluate s.fg).flags) :=
    (s.raiseAll_moves _).trans (State.Moves.ite _ fun _ => State.count_moves _ _)
  unfold State.evaluateFrost
  dsimp only
  obtain ⟨e, he⟩ := hevents
  rw [he] at hmoves ⊢
  exact hmoves.tail (.frost _ rfl)

theorem State.evaluateHumidity_moves (s : State) : s.Moves stray s.evaluateHumidity := by
  have hsensed : s.Moves stray s.publishDewPoint.fillRise := by
    have hdew : s.Moves stray s.publishDewPoint := by
      unfold State.publishDewPoint
      split
      · exact .refl
      · exact .single (.climate _ rfl (.inl rfl) id id rfl)
    refine hdew.tail (.climate _ rfl (.inl rfl) (fun _ => ?_) id rfl)
    dsimp only
    split
    · simp
    · exact length_pushWindow_le _ _ _
  have hboost : ∀ t : State, t.Moves stray t.stageBoost := fun t => by
    unfold State.stageBoost
    split
    · dsimp only
      split
      · exact (State.Moves.of_move (.boostEnds ‹_›)).trans (State.raise_moves _ _)
      · exact .single (.climate _ rfl (.inr ⟨‹_›, rfl⟩) id id rfl)
    · exact .ite _ fun _ => (State.Moves.of_move .boostStarts).trans (State.raise_moves _ _)
  have hdry : ∀ t : State, t.Moves stray t.stageDry := fun t => by
    have hcount : t.Moves stray (t.setHm { t.hm with dryCount := t.nextDryCount }) := by
      refine .single (.climate _ rfl (.inl rfl) id (fun _ => ?_) rfl)
      show t.nextDryCount ≤ 30
      unfold State.nextDryCount
      split
      · omega
      · split <;> omega
    unfold State.stageDry
    dsimp only
    split
    · split
      · exact (hcount.tail (.dryStarts ‹_›)).trans (State.raise_moves _ _)
      · exact hcount
    · split
      · exact hcount.tail (.dryEnds ‹_›)
      · exact hcount
    · exact hcount
  exact (hsensed.trans (hboost _)).trans (hdry _)

theorem State.secondPasses_moves (s : State) : s.Moves stray s.secondPasses := by
  refine State.unlessHeld_moves fun _ => ?_
  refine ((State.Moves.of_move .waits).tail (.filters _ fun side => ?_)).tail (.measurement _)
  cases side <;> exact ⟨rfl, rfl, rfl, by simp [Filters.filter, FilterRecord.secondPasses, countDown]⟩

theorem State.runningReset_moves (s : State) (cause : ResetCause) : s.Moves stray (s.runningReset cause) := by
  have hport : s.Moves stray (s.setLp LocalPort.initial) := .single (.port _ fun h => absurd rfl h)
  refine Relation.ReflTransGen.trans ?_ (State.removeMaster_moves _ _)
  exact ((hport.tail (.events _ .runningReset)).tail (.store _ (.cause cause))).tail .unitChangesEnd

theorem State.endStore_moves {s : State} {stored : StoredSettings} (f : Flag)
    (h : s.ss.Move { s.ss with stored := stored, store := .idle }) : s.Moves stray (s.endStore stored f) :=
  ((State.Moves.of_move (.store _ h)).trans (State.raise_moves _ f)).trans (State.saveDue_moves _)

/-- The end of a transaction takes a request of the unit processor, which a stand-alone part hears only where a stray
transaction stands (R131, R170). -/
theorem State.endTransaction_moves {s : State} (h : s.standAlone = true → s.lp.stage ≠ .idle → stray) :
    s.Moves stray s.endTransaction := by
  have hidle : s.Moves stray (s.setLp { s.lp with stage := .idle }) := .single (.port _ fun h => absurd rfl h)
  unfold State.endTransaction
  dsimp only
  split
  · exact .refl
  split
  · exact hidle.trans (State.runningReset_moves _ _)
  split
  · refine hidle.trans (State.submit_moves ?_)
    have hsource : s.lp.request.source = .unit := by
      unfold LocalPort.request Request.ofParams; dsimp only; split <;> rfl
    rw [hsource]
    exact fun hs => h hs ‹_›
  · exact hidle

theorem State.writing_moves {s : State} {f : Register → State → State}
    (h : s.lp.stage = .writing → s.Moves stray (f s.lp.register s)) : s.Moves stray (s.writing f) :=
  State.whenRunning_moves fun _ => .ite _ h

theorem State.reading_moves {s : State} {f : Register → State → State}
    (h : s.Moves stray (f s.lp.register s)) : s.Moves stray (s.reading f) :=
  State.whenRunning_moves fun _ => .ite _ fun _ => h

theorem State.controlIrq_moves (s : State) (b : Byte) : s.Moves stray (s.controlIrq b) :=
  State.writing_moves fun _ => .ite _ fun _ => (State.Moves.of_move (.events _ (.control b))).trans (State.setLp_moves rfl)

theorem State.readTable_moves (s : State) : s.Moves stray s.readTable := by
  unfold State.readTable
  dsimp only
  split
  · exact State.setLp_moves rfl
  · split <;> exact State.setLp_moves rfl

/-! ## The commands -/

/-- A transaction stands with a port in stand-alone strapping: no run reaches such a state. -/
def State.StrayTransaction (s : State) : Prop := s.standAlone = true ∧ s.lp.stage ≠ .idle

/-- What every command can do (`State.Move`). -/
theorem exec_moves {c : Instr} {s t : State} (h : exec c s = .next t) : s.Moves s.StrayTransaction t := by
  have hdone : ∀ {u : State}, exec c s = done u → u = t := fun hu => done_eq_next.1 (hu.symm.trans h)
  cases c
  case power => exact hdone rfl ▸ .single (.masterReset _ _ _)
  case supplyDip => exact hdone rfl ▸ .single (.masterReset _ _ _)
  case pinMaster => exact hdone rfl ▸ .single (.masterReset _ _ _)
  case pinRunning =>
    rw [← hdone rfl]
    split
    · exact .single (.pinAsserted (.inl ‹_›))
    · exact (s.runningReset_moves _).tail (.pinAsserted (.inr rfl))
  case masterResetEnd =>
    rw [← hdone rfl]
    split
    · have hphase : s.Moves s.StrayTransaction ((s.setPhase .loading).setResetPin s.pinAfterReset) := by
        unfold State.pinAfterReset
        split
        · exact (State.Moves.of_move (.leaveHold ‹_›)).tail .pinReleased
        · exact .single (.leaveHold ‹_›)
      exact hphase.tail (.measurement _)
    · exact .refl
  case settingsLoadComplete =>
    rw [← hdone rfl]
    split
    · exact .single (.load ‹_›)
    · exact .refl
  case channelSample =>
    exact hdone rfl ▸ State.unlessHeld_moves fun _ =>
      (State.Moves.of_move (.measurement _)).trans (State.reportSample_moves _ _)
  case pullcordPinChange =>
    rw [← hdone rfl]
    split <;> exact s.withCord_moves _ _
  case debounceExpiry => exact hdone rfl ▸ State.unlessHeld_moves fun _ => s.debounceExpired_moves _
  case longHold => exact hdone rfl ▸ State.unlessHeld_moves fun _ => s.longHold_moves _
  case demandExpiry =>
    rw [← hdone rfl]
    refine State.unlessHeld_moves fun _ => ?_
    split
    · exact .single (.expireKeeping ‹_›)
    · exact .single .expire
  case tachoPulse => exact hdone rfl ▸ State.unlessHeld_moves fun _ => .single (.tacho _ _)
  case controlStep => exact hdone rfl ▸ State.unlessHeld_moves fun _ => .single .controlStep
  case holdoffExpiry =>
    exact hdone rfl ▸ State.unlessHeld_moves fun _ => .ite _ fun h => .single (.fan _ _ (.holdoffEnds h))
  case startTimeExpiry =>
    exact hdone rfl ▸ State.unlessHeld_moves fun _ => .ite _ fun h => State.stallFan_moves h
  case retryWaitExpiry =>
    rw [← hdone rfl]
    refine State.unlessHeld_moves fun _ => .ite _ fun h => ?_
    split
    · exact .single (.fan _ _ (.startsAgain h))
    · exact .single (.fan _ _ (.staysOff h))
  case frostEvaluation => exact hdone rfl ▸ State.unlessHeld_moves fun _ => .ite _ fun _ => s.evaluateFrost_moves
  case preheatWindowStart =>
    exact hdone rfl ▸ State.unlessHeld_moves fun _ => .ite _ fun h => .single (.window (by simpa using h))
  case preheatOnTimeEnd => exact hdone rfl ▸ State.unlessHeld_moves fun _ => .ite _ fun _ => .single .heaterOff
  case damperTimerExpiry =>
    rw [← hdone rfl]
    refine State.unlessHeld_moves fun _ => .ite _ fun h => ?_
    dsimp only
    split
    · exact (State.Moves.of_move (.damper _ (.tick h))).trans (State.raise_moves _ _)
    · exact .single (.damper _ (.tick h))
  case endSwitchMade => exact hdone rfl ▸ .single (.damper _ (.switched _ _ _))
  case humidityEvaluation =>
    exact hdone rfl ▸ State.unlessHeld_moves fun _ => .ite _ fun _ => s.evaluateHumidity_moves
  case filterAccumulation =>
    exact hdone rfl ▸ State.whenRunning_moves fun _ =>
      .single (.filters _ fun side => by cases side <;> exact ⟨rfl, rfl, rfl, rfl⟩)
  case filterAssessment =>
    rw [← hdone rfl]
    refine State.whenRunning_moves fun _ => .trans (.trans (s.assessSide_moves _) (State.assessSide_moves _ _)) (State.saveDue_moves _)
  case changeDeadlineExpiry =>
    rw [← hdone rfl]
    refine State.unlessHeld_moves fun _ => ?_
    split
    · exact .refl
    · exact s.abandonChange_moves _
  case filterSaveStart => exact hdone rfl ▸ State.unlessHeld_moves fun _ => .ite _ fun _ => .single .saveBegins
  case filterSaveComplete =>
    rw [← hdone rfl]
    refine State.unlessHeld_moves fun _ => ?_
    split
    · exact .refl
    · exact .single (.store _ (.saveEnds _ ‹_›))
  case seasonTimer =>
    rw [← hdone rfl]
    refine State.unlessHeld_moves fun _ => .ite _ fun _ => ?_
    have hage : ∀ x, s.Moves s.StrayTransaction (s.setSeason x) := fun x => .single (.season x)
    dsimp only
    split
    · exact (hage _).trans (State.changeSeason_moves _ _ _)
    · exact hage _
  case pollRoundStart => exact hdone rfl ▸ State.whenRunning_moves fun _ => .ite _ fun _ => State.setRl_moves rfl
  case pollStart =>
    rw [← hdone rfl]
    refine State.whenRunning_moves fun _ => .ite _ fun _ => ?_
    split
    · exact .refl
    · exact State.setRl_moves rfl
  case callSent =>
    rw [← hdone rfl]
    refine State.whenRunning_moves fun _ => ?_
    split
    · rename_i i _
      have hdelivered : s.Moves s.StrayTransaction (s.withSlot i { s.slot i with lastOutcome := none }) :=
        .single (.slot i _ fun hl => ⟨hl, fun hlost => by rw [hlost]; rfl⟩)
      exact hdelivered.trans (State.setRl_moves rfl)
    · exact .refl
  case replyWindowEnd =>
    rw [← hdone rfl]
    refine State.whenRunning_moves fun _ => ?_
    split
    · exact s.missedPoll_moves _
    · exact .refl
  case badReplyEnd =>
    rw [← hdone rfl]
    refine State.whenRunning_moves fun _ => ?_
    split
    · exact s.badPoll_moves _
    · exact .refl
  case idleReply => exact hdone rfl ▸ State.reply_moves fun _ _ _ => .refl
  case askReply => exact hdone rfl ▸ State.reply_moves (State.askContent_moves _)
  case tellReply => exact hdone rfl ▸ State.reply_moves (State.tellContent_moves _ _ _)
  case heatReply => exact hdone rfl ▸ State.reply_moves fun t i _ => t.heatContent_moves _ i
  case slotTimer => exact hdone rfl ▸ State.unlessHeld_moves fun _ => State.foldl_moves State.slotTick_moves _ _
  case addressByte =>
    rw [← hdone rfl]
    refine State.unlessHeld_moves fun _ => ?_
    split
    · rename_i ha
      exact .single (.port _ fun _ => .inr (Bool.and_eq_true_iff.1 ha).1)
    · exact (State.endTransaction_moves fun hs hi => ⟨hs, hi⟩).trans (State.setLp_moves rfl)
  case transactionEnd =>
    exact hdone rfl ▸ State.whenRunning_moves fun _ => State.endTransaction_moves fun hs hi => ⟨hs, hi⟩
  case offsetWrite =>
    refine hdone rfl ▸ State.whenRunning_moves fun _ => .ite _ fun ho => .single (.port _ fun _ => .inl ?_)
    simp [ho]
  case registerWrite =>
    rw [← hdone rfl]
    refine State.writing_moves fun _ => ?_
    split <;> first | exact .refl | exact State.setLp_moves rfl
  case statusPageSelectWrite => exact hdone rfl ▸ State.writing_moves fun _ => .ite _ fun _ => State.setLp_moves rfl
  case statusAreaRead =>
    rw [← hdone rfl]
    refine State.reading_moves ?_
    split
    · exact State.setLp_moves rfl
    · exact .refl
  case digestMirrorRead =>
    rw [← hdone rfl]
    refine State.reading_moves ?_
    split
    · exact State.setLp_moves rfl
    · exact .refl
  case eventWordRead =>
    rw [← hdone rfl]
    refine State.reading_moves ?_
    split
    · exact (State.Moves.of_move (.events _ (.clearWord _))).trans (State.setLp_moves rfl)
    · exact .refl
  case maskWrite =>
    rw [← hdone rfl]
    refine State.writing_moves fun _ => ?_
    split
    · exact (State.Moves.of_move (.events _ (.writeMask _ _))).trans (State.setLp_moves rfl)
    · exact .refl
  case suspend => exact hdone rfl ▸ s.controlIrq_moves _
  case ackAll => exact hdone rfl ▸ s.controlIrq_moves _
  case go => exact hdone rfl ▸ State.writing_moves fun _ => .ite _ fun _ => State.setLp_moves rfl
  case tableSelectWrite => exact hdone rfl ▸ State.writing_moves fun _ => .ite _ fun _ => State.setLp_moves rfl
  case tablePointerWrite =>
    rw [← hdone rfl]
    refine State.writing_moves fun _ => ?_
    split <;> first | exact .refl | exact State.setLp_moves rfl
  case tableDataRead => exact hdone rfl ▸ State.reading_moves (.ite _ fun _ => s.readTable_moves)
  case runningResetRequest => exact hdone rfl ▸ State.writing_moves fun _ => .ite _ fun _ => State.setLp_moves rfl
  case hourMark => exact hdone rfl ▸ State.unlessHeld_moves fun _ => .ite _ fun _ => .single (.events _ .copyAll)
  case storeStart => exact hdone rfl ▸ State.unlessHeld_moves fun _ => .ite _ fun _ => .single (.store _ (.stage _))
  case storeDone =>
    exact hdone rfl ▸ State.unlessHeld_moves fun _ => .ite _ fun _ => State.endStore_moves _ .stored
  case storeFailed =>
    exact hdone rfl ▸ State.unlessHeld_moves fun _ => .ite _ fun _ => State.endStore_moves _ .failed
  case resetRelease => exact hdone rfl ▸ .single .pinReleased
  case registerRead =>
    rw [← hdone rfl]
    refine State.reading_moves ?_
    split
    · exact State.setLp_moves rfl
    · exact .refl
  all_goals exact hdone rfl ▸ s.request_moves _

end

/-- A step is a run of moves, from the state with the queue's rest (`State.Move`). -/
theorem step_moves {s t : State} (h : step s = .next t) : ∃ l, (s.setPending l).Moves s.StrayTransaction t := by
  unfold step at h
  split at h
  · exact ⟨s.pending, done_eq_next.1 h ▸ s.secondPasses_moves⟩
  · rename_i rest _
    exact ⟨rest, exec_moves (s := s.setPending rest) h⟩

/-- What every move keeps, every step keeps. -/
theorem step_keeps {P : State → Prop} {s t : State} (pending : ∀ l, P s → P (s.setPending l))
    (move : ∀ {u v : State}, u.Move s.StrayTransaction v → P u → P v) (hs : P s) (h : step s = .next t) : P t := by
  obtain ⟨l, hmoves⟩ := step_moves h
  clear h
  induction hmoves with
  | refl => exact pending l hs
  | tail _ hmove ih => exact move hmove ih

end Sys2Proof.Machine

namespace Sys2Proof.Machine

/-! ## The event unit keeps its pin -/

/-- The place of a flag's bit in its word. -/
def Flag.place (f : Flag) : Nat := f.mask.toNat.log2

theorem Flag.mask_eq_twoPow (f : Flag) : f.mask = BitVec.twoPow 8 f.place := by cases f <;> decide

theorem Flag.place_lt (f : Flag) : f.place < 8 := by cases f <;> decide

/-- A byte meets a flag's place exactly when it has the bit there. -/
theorem Flag.and_mask_ne_zero (f : Flag) (b : Byte) : (b &&& f.mask != 0) = b.getLsbD f.place := by
  have hone : BitVec.twoPow 8 f.place ≠ 0#8 := f.mask_eq_twoPow ▸ f.mask_ne_zero
  rw [f.mask_eq_twoPow, BitVec.and_twoPow]
  cases b.getLsbD f.place <;> simp [hone]

theorem EventUnit.isSet_eq (e : EventUnit) (f : Flag) : e.isSet f = (e.flags.get f.word).getLsbD f.place :=
  f.and_mask_ne_zero _

theorem EventUnit.unmasked_eq (e : EventUnit) (f : Flag) : e.unmasked f = !(e.masks.get f.word).getLsbD f.place := by
  rw [← f.and_mask_ne_zero, EventUnit.unmasked, bne, Bool.not_not]

/-- The places of a word that carry no flag (10.1). -/
def EventWord.unused : EventWord → Byte
  | .fan => 0xE0
  | .core => 0x80
  | .service => 0
  | .system => 0

/-- Every place of a word carries a flag or is unused. -/
theorem EventWord.flag_at (w : EventWord) (i : Fin 8) :
    (∃ f ∈ Flag.all, f.word = w ∧ f.place = i.val) ∨ w.unused.getLsbD i = true := by
  revert i
  cases w <;> decide

/-- The positions without a flag read 0 (R175). -/
def EventBytes.Clean (e : EventBytes) : Prop := ∀ w, e.get w &&& w.unused = 0

theorem EventBytes.clean_zero : EventBytes.zero.Clean := fun w => by cases w <;> decide

theorem EventBytes.clean_iff (e : EventBytes) : e.Clean ↔ e.fan &&& 0xE0 = 0 ∧ e.core &&& 0x80 = 0 := by
  constructor
  · exact fun h => ⟨h .fan, h .core⟩
  · rintro ⟨hfan, hcore⟩ w
    cases w
    · exact hfan
    · exact hcore
    · exact BitVec.and_zero
    · exact BitVec.and_zero

theorem EventBytes.Clean.put {e : EventBytes} (h : e.Clean) {w : EventWord} {b : Byte} (hb : b &&& w.unused = 0) :
    (e.put w b).Clean := by
  intro v
  by_cases hv : v = w
  · rw [hv, EventBytes.get_put_self]
    exact hb
  · rw [EventBytes.get_put_ne _ hv]
    exact h v

theorem EventUnit.wordDrives_iff (e : EventUnit) (w : EventWord) :
    e.wordDrives w = true ↔ ∃ i : Fin 8, (e.flags.get w).getLsbD i = true ∧ (e.masks.get w).getLsbD i = false := by
  have hzero : ∀ b : Byte, b = 0 ↔ ∀ i : Fin 8, b.getLsbD i = false := fun b =>
    ⟨fun h i => by simp [h], fun h => BitVec.eq_of_getLsbD_eq fun i hi => by simpa using h ⟨i, hi⟩⟩
  rw [EventUnit.wordDrives, bne_iff_ne, ne_eq, hzero]
  simp

/-- With the unused places clear, the condition of R178 is that some flag drives the pin. -/
theorem EventUnit.condition_eq_drives {e : EventUnit} (h : e.flags.Clean) : e.condition = e.drives := by
  have hword : (∃ w, e.wordDrives w = true) ↔ ∃ f ∈ Flag.all, (e.isSet f && e.unmasked f) = true := by
    simp only [EventUnit.isSet_eq, EventUnit.unmasked_eq, EventUnit.wordDrives_iff, Bool.and_eq_true, Bool.not_eq_true']
    constructor
    · rintro ⟨w, i, hset, hmask⟩
      rcases w.flag_at i with ⟨f, hf, rfl, hplace⟩ | hunused
      · exact ⟨f, hf, hplace ▸ hset, hplace ▸ hmask⟩
      · have hand := congrArg (fun b => b.getLsbD i) (h w)
        simp only [BitVec.getLsbD_and, hset, hunused, Bool.and_self] at hand
        simp at hand
    · rintro ⟨f, -, hset, hmask⟩
      exact ⟨f.word, ⟨f.place, f.place_lt⟩, hset, hmask⟩
  have hany : (e.wordDrives .fan || e.wordDrives .core || e.wordDrives .service || e.wordDrives .system) = true ↔
      ∃ w, e.wordDrives w = true := by
    simp only [Bool.or_eq_true]
    constructor
    · rintro (((h | h) | h) | h) <;> exact ⟨_, h⟩
    · rintro ⟨w, h⟩
      cases w <;> simp [h]
  rw [EventUnit.condition, EventUnit.drives]
  congr 1
  rw [Bool.eq_iff_iff, List.any_eq_true, hany, hword]

/-- A unit whose pin has just been driven is coherent if its unused places are clear. -/
theorem EventUnit.settle_coherent {e : EventUnit} (h : e.flags.Clean) : e.settle.Coherent :=
  ⟨e.condition_eq_drives h, (e.flags.clean_iff).1 h⟩

theorem EventUnit.Coherent.clean {e : EventUnit} (h : e.Coherent) : e.flags.Clean := (e.flags.clean_iff).2 h.2

theorem EventUnit.raise_coherent {e : EventUnit} (h : e.flags.Clean) (f : Flag) : (e.raise f).Coherent := by
  refine EventUnit.settle_coherent (h.put ?_)
  have hmask : f.mask &&& f.word.unused = 0 := by cases f <;> rfl
  rw [BitVec.and_comm, BitVec.and_or_distrib_left, BitVec.and_comm _ f.mask, hmask, BitVec.and_comm, h f.word]
  rfl

/-- Every move of the event unit keeps the pin to its condition (R175, R178). -/
theorem EventUnit.Move.coherent {e e' : EventUnit} (hmove : e.Move e') (h : e.Coherent) : e'.Coherent := by
  cases hmove with
  | raise f => exact EventUnit.raise_coherent h.clean f
  | count snapshot c =>
    unfold EventUnit.count
    dsimp only
    split
    · exact EventUnit.raise_coherent h.clean _
    · exact h
  | clearWord w =>
    refine EventUnit.settle_coherent (h.clean.put ?_)
    rw [BitVec.and_not_self]
    exact BitVec.zero_and
  | writeMask w b => exact EventUnit.settle_coherent h.clean
  | control b =>
    refine EventUnit.settle_coherent ?_
    dsimp only
    split
    · exact EventBytes.clean_zero
    · exact h.clean
  | runningReset => exact EventUnit.settle_coherent EventBytes.clean_zero
  | copyAll => exact h
  | clearCounters => exact h

end Sys2Proof.Machine

namespace Sys2Proof.Machine

/-! ## The frames of the larger operations

Each operation first as one equation, which names the blocks that it writes; then a lemma for each other field. -/

/-! ### `stallFan` -/

theorem State.stallFan_eq (s : State) (side : Side) : s.stallFan side = { s with
    ae := (s.stallFan side).ae
    eu := (s.stallFan side).eu } := by
  unfold State.stallFan
  dsimp only
  split <;> rfl

@[simp] theorem State.stallFan_phase (s : State) (side : Side) : (s.stallFan side).phase = s.phase := by
  rw [State.stallFan_eq]
@[simp] theorem State.stallFan_resetPin (s : State) (side : Side) : (s.stallFan side).resetPin = s.resetPin := by
  rw [State.stallFan_eq]
@[simp] theorem State.stallFan_straps (s : State) (side : Side) : (s.stallFan side).straps = s.straps := by
  rw [State.stallFan_eq]
@[simp] theorem State.stallFan_mc (s : State) (side : Side) : (s.stallFan side).mc = s.mc := by rw [State.stallFan_eq]
@[simp] theorem State.stallFan_da (s : State) (side : Side) : (s.stallFan side).da = s.da := by rw [State.stallFan_eq]
@[simp] theorem State.stallFan_fg (s : State) (side : Side) : (s.stallFan side).fg = s.fg := by rw [State.stallFan_eq]
@[simp] theorem State.stallFan_preheat (s : State) (side : Side) : (s.stallFan side).preheat = s.preheat := by
  rw [State.stallFan_eq]
@[simp] theorem State.stallFan_damper (s : State) (side : Side) : (s.stallFan side).damper = s.damper := by
  rw [State.stallFan_eq]
@[simp] theorem State.stallFan_hm (s : State) (side : Side) : (s.stallFan side).hm = s.hm := by rw [State.stallFan_eq]
@[simp] theorem State.stallFan_fm (s : State) (side : Side) : (s.stallFan side).fm = s.fm := by rw [State.stallFan_eq]
@[simp] theorem State.stallFan_season (s : State) (side : Side) : (s.stallFan side).season = s.season := by
  rw [State.stallFan_eq]
@[simp] theorem State.stallFan_rl (s : State) (side : Side) : (s.stallFan side).rl = s.rl := by rw [State.stallFan_eq]
@[simp] theorem State.stallFan_lp (s : State) (side : Side) : (s.stallFan side).lp = s.lp := by rw [State.stallFan_eq]
@[simp] theorem State.stallFan_ss (s : State) (side : Side) : (s.stallFan side).ss = s.ss := by rw [State.stallFan_eq]
@[simp] theorem State.stallFan_freeCount (s : State) (side : Side) : (s.stallFan side).freeCount = s.freeCount := by
  rw [State.stallFan_eq]
@[simp] theorem State.stallFan_pending (s : State) (side : Side) : (s.stallFan side).pending = s.pending := by
  rw [State.stallFan_eq]

/-! ### `stageMeasure` -/

theorem State.stageMeasure_eq (s : State) (side : Side) : s.stageMeasure side = { s with
    ae := (s.stageMeasure side).ae
    eu := (s.stageMeasure side).eu
    freeCount := (s.stageMeasure side).freeCount } := by
  unfold State.stageMeasure
  dsimp only
  split
  · rw [State.stallFan_eq]; rfl
  · split <;> rfl

@[simp] theorem State.stageMeasure_phase (s : State) (side : Side) : (s.stageMeasure side).phase = s.phase := by
  rw [State.stageMeasure_eq]
@[simp] theorem State.stageMeasure_resetPin (s : State) (side : Side) : (s.stageMeasure side).resetPin = s.resetPin := by
  rw [State.stageMeasure_eq]
@[simp] theorem State.stageMeasure_straps (s : State) (side : Side) : (s.stageMeasure side).straps = s.straps := by
  rw [State.stageMeasure_eq]
@[simp] theorem State.stageMeasure_mc (s : State) (side : Side) : (s.stageMeasure side).mc = s.mc := by
  rw [State.stageMeasure_eq]
@[simp] theorem State.stageMeasure_da (s : State) (side : Side) : (s.stageMeasure side).da = s.da := by
  rw [State.stageMeasure_eq]
@[simp] theorem State.stageMeasure_fg (s : State) (side : Side) : (s.stageMeasure side).fg = s.fg := by
  rw [State.stageMeasure_eq]
@[simp] theorem State.stageMeasure_preheat (s : State) (side : Side) : (s.stageMeasure side).preheat = s.preheat := by
  rw [State.stageMeasure_eq]
@[simp] theorem State.stageMeasure_damper (s : State) (side : Side) : (s.stageMeasure side).damper = s.damper := by
  rw [State.stageMeasure_eq]
@[simp] theorem State.stageMeasure_hm (s : State) (side : Side) : (s.stageMeasure side).hm = s.hm := by
  rw [State.stageMeasure_eq]
@[simp] theorem State.stageMeasure_fm (s : State) (side : Side) : (s.stageMeasure side).fm = s.fm := by
  rw [State.stageMeasure_eq]
@[simp] theorem State.stageMeasure_season (s : State) (side : Side) : (s.stageMeasure side).season = s.season := by
  rw [State.stageMeasure_eq]
@[simp] theorem State.stageMeasure_rl (s : State) (side : Side) : (s.stageMeasure side).rl = s.rl := by
  rw [State.stageMeasure_eq]
@[simp] theorem State.stageMeasure_lp (s : State) (side : Side) : (s.stageMeasure side).lp = s.lp := by
  rw [State.stageMeasure_eq]
@[simp] theorem State.stageMeasure_ss (s : State) (side : Side) : (s.stageMeasure side).ss = s.ss := by
  rw [State.stageMeasure_eq]
@[simp] theorem State.stageMeasure_pending (s : State) (side : Side) : (s.stageMeasure side).pending = s.pending := by
  rw [State.stageMeasure_eq]

/-! ### `stepCommands` -/

theorem State.stepCommands_eq (s : State) : s.stepCommands = { s with
    ae := (s.stepCommands).ae
    eu := (s.stepCommands).eu
    freeCount := (s.stepCommands).freeCount } := by
  unfold State.stepCommands
  rw [State.stageMeasure_eq _ .extract, State.stageMeasure_eq s]
  rfl

@[simp] theorem State.stepCommands_phase (s : State) : (s.stepCommands).phase = s.phase := by rw [State.stepCommands_eq]
@[simp] theorem State.stepCommands_resetPin (s : State) : (s.stepCommands).resetPin = s.resetPin := by
  rw [State.stepCommands_eq]
@[simp] theorem State.stepCommands_straps (s : State) : (s.stepCommands).straps = s.straps := by
  rw [State.stepCommands_eq]
@[simp] theorem State.stepCommands_mc (s : State) : (s.stepCommands).mc = s.mc := by rw [State.stepCommands_eq]
@[simp] theorem State.stepCommands_da (s : State) : (s.stepCommands).da = s.da := by rw [State.stepCommands_eq]
@[simp] theorem State.stepCommands_fg (s : State) : (s.stepCommands).fg = s.fg := by rw [State.stepCommands_eq]
@[simp] theorem State.stepCommands_preheat (s : State) : (s.stepCommands).preheat = s.preheat := by
  rw [State.stepCommands_eq]
@[simp] theorem State.stepCommands_damper (s : State) : (s.stepCommands).damper = s.damper := by
  rw [State.stepCommands_eq]
@[simp] theorem State.stepCommands_hm (s : State) : (s.stepCommands).hm = s.hm := by rw [State.stepCommands_eq]
@[simp] theorem State.stepCommands_fm (s : State) : (s.stepCommands).fm = s.fm := by rw [State.stepCommands_eq]
@[simp] theorem State.stepCommands_season (s : State) : (s.stepCommands).season = s.season := by
  rw [State.stepCommands_eq]
@[simp] theorem State.stepCommands_rl (s : State) : (s.stepCommands).rl = s.rl := by rw [State.stepCommands_eq]
@[simp] theorem State.stepCommands_lp (s : State) : (s.stepCommands).lp = s.lp := by rw [State.stepCommands_eq]
@[simp] theorem State.stepCommands_ss (s : State) : (s.stepCommands).ss = s.ss := by rw [State.stepCommands_eq]
@[simp] theorem State.stepCommands_pending (s : State) : (s.stepCommands).pending = s.pending := by
  rw [State.stepCommands_eq]

/-! ### `reportLimited` -/

theorem State.reportLimited_eq (s : State) (f g : FanRecord) :
    s.reportLimited f g = { s with eu := (s.reportLimited f g).eu } := by
  unfold State.reportLimited
  split <;> rfl

@[simp] theorem State.reportLimited_phase (s : State) (f g : FanRecord) :
    (s.reportLimited f g).phase = s.phase := by
  rw [State.reportLimited_eq]
@[simp] theorem State.reportLimited_resetPin (s : State) (f g : FanRecord) :
    (s.reportLimited f g).resetPin = s.resetPin := by
  rw [State.reportLimited_eq]
@[simp] theorem State.reportLimited_straps (s : State) (f g : FanRecord) :
    (s.reportLimited f g).straps = s.straps := by
  rw [State.reportLimited_eq]
@[simp] theorem State.reportLimited_mc (s : State) (f g : FanRecord) :
    (s.reportLimited f g).mc = s.mc := by
  rw [State.reportLimited_eq]
@[simp] theorem State.reportLimited_da (s : State) (f g : FanRecord) :
    (s.reportLimited f g).da = s.da := by
  rw [State.reportLimited_eq]
@[simp] theorem State.reportLimited_ae (s : State) (f g : FanRecord) :
    (s.reportLimited f g).ae = s.ae := by
  rw [State.reportLimited_eq]
@[simp] theorem State.reportLimited_fg (s : State) (f g : FanRecord) :
    (s.reportLimited f g).fg = s.fg := by
  rw [State.reportLimited_eq]
@[simp] theorem State.reportLimited_preheat (s : State) (f g : FanRecord) :
    (s.reportLimited f g).preheat = s.preheat := by
  rw [State.reportLimited_eq]
@[simp] theorem State.reportLimited_damper (s : State) (f g : FanRecord) :
    (s.reportLimited f g).damper = s.damper := by
  rw [State.reportLimited_eq]
@[simp] theorem State.reportLimited_hm (s : State) (f g : FanRecord) :
    (s.reportLimited f g).hm = s.hm := by
  rw [State.reportLimited_eq]
@[simp] theorem State.reportLimited_fm (s : State) (f g : FanRecord) :
    (s.reportLimited f g).fm = s.fm := by
  rw [State.reportLimited_eq]
@[simp] theorem State.reportLimited_season (s : State) (f g : FanRecord) :
    (s.reportLimited f g).season = s.season := by
  rw [State.reportLimited_eq]
@[simp] theorem State.reportLimited_rl (s : State) (f g : FanRecord) :
    (s.reportLimited f g).rl = s.rl := by
  rw [State.reportLimited_eq]
@[simp] theorem State.reportLimited_lp (s : State) (f g : FanRecord) :
    (s.reportLimited f g).lp = s.lp := by
  rw [State.reportLimited_eq]
@[simp] theorem State.reportLimited_ss (s : State) (f g : FanRecord) :
    (s.reportLimited f g).ss = s.ss := by
  rw [State.reportLimited_eq]
@[simp] theorem State.reportLimited_freeCount (s : State) (f g : FanRecord) :
    (s.reportLimited f g).freeCount = s.freeCount := by
  rw [State.reportLimited_eq]
@[simp] theorem State.reportLimited_pending (s : State) (f g : FanRecord) :
    (s.reportLimited f g).pending = s.pending := by
  rw [State.reportLimited_eq]

/-! ### `followSupply` -/

theorem State.followSupply_eq (s : State) (x : FanState) :
    s.followSupply x = { s with preheat := (s.followSupply x).preheat } := by
  unfold State.followSupply
  dsimp only
  split <;> [rfl; split <;> rfl]

@[simp] theorem State.followSupply_phase (s : State) (x : FanState) :
    (s.followSupply x).phase = s.phase := by
  rw [State.followSupply_eq]
@[simp] theorem State.followSupply_resetPin (s : State) (x : FanState) :
    (s.followSupply x).resetPin = s.resetPin := by
  rw [State.followSupply_eq]
@[simp] theorem State.followSupply_straps (s : State) (x : FanState) :
    (s.followSupply x).straps = s.straps := by
  rw [State.followSupply_eq]
@[simp] theorem State.followSupply_mc (s : State) (x : FanState) :
    (s.followSupply x).mc = s.mc := by
  rw [State.followSupply_eq]
@[simp] theorem State.followSupply_da (s : State) (x : FanState) :
    (s.followSupply x).da = s.da := by
  rw [State.followSupply_eq]
@[simp] theorem State.followSupply_ae (s : State) (x : FanState) :
    (s.followSupply x).ae = s.ae := by
  rw [State.followSupply_eq]
@[simp] theorem State.followSupply_fg (s : State) (x : FanState) :
    (s.followSupply x).fg = s.fg := by
  rw [State.followSupply_eq]
@[simp] theorem State.followSupply_damper (s : State) (x : FanState) :
    (s.followSupply x).damper = s.damper := by
  rw [State.followSupply_eq]
@[simp] theorem State.followSupply_hm (s : State) (x : FanState) :
    (s.followSupply x).hm = s.hm := by
  rw [State.followSupply_eq]
@[simp] theorem State.followSupply_fm (s : State) (x : FanState) :
    (s.followSupply x).fm = s.fm := by
  rw [State.followSupply_eq]
@[simp] theorem State.followSupply_season (s : State) (x : FanState) :
    (s.followSupply x).season = s.season := by
  rw [State.followSupply_eq]
@[simp] theorem State.followSupply_rl (s : State) (x : FanState) :
    (s.followSupply x).rl = s.rl := by
  rw [State.followSupply_eq]
@[simp] theorem State.followSupply_lp (s : State) (x : FanState) :
    (s.followSupply x).lp = s.lp := by
  rw [State.followSupply_eq]
@[simp] theorem State.followSupply_eu (s : State) (x : FanState) :
    (s.followSupply x).eu = s.eu := by
  rw [State.followSupply_eq]
@[simp] theorem State.followSupply_ss (s : State) (x : FanState) :
    (s.followSupply x).ss = s.ss := by
  rw [State.followSupply_eq]
@[simp] theorem State.followSupply_freeCount (s : State) (x : FanState) :
    (s.followSupply x).freeCount = s.freeCount := by
  rw [State.followSupply_eq]
@[simp] theorem State.followSupply_pending (s : State) (x : FanState) :
    (s.followSupply x).pending = s.pending := by
  rw [State.followSupply_eq]

/-! ### `controlStep` -/

theorem State.controlStep_eq (s : State) : s.controlStep = { s with
    ae := (s.controlStep).ae
    eu := (s.controlStep).eu
    preheat := (s.controlStep).preheat
    freeCount := (s.controlStep).freeCount } := by
  unfold State.controlStep State.stepFlows
  dsimp only
  rw [State.followSupply_eq, State.reportLimited_eq, State.reportLimited_eq, State.stepCommands_eq]
  rfl

@[simp] theorem State.controlStep_phase (s : State) : (s.controlStep).phase = s.phase := by rw [State.controlStep_eq]
@[simp] theorem State.controlStep_resetPin (s : State) : (s.controlStep).resetPin = s.resetPin := by
  rw [State.controlStep_eq]
@[simp] theorem State.controlStep_straps (s : State) : (s.controlStep).straps = s.straps := by rw [State.controlStep_eq]
@[simp] theorem State.controlStep_mc (s : State) : (s.controlStep).mc = s.mc := by rw [State.controlStep_eq]
@[simp] theorem State.controlStep_da (s : State) : (s.controlStep).da = s.da := by rw [State.controlStep_eq]
@[simp] theorem State.controlStep_fg (s : State) : (s.controlStep).fg = s.fg := by rw [State.controlStep_eq]
@[simp] theorem State.controlStep_damper (s : State) : (s.controlStep).damper = s.damper := by rw [State.controlStep_eq]
@[simp] theorem State.controlStep_hm (s : State) : (s.controlStep).hm = s.hm := by rw [State.controlStep_eq]
@[simp] theorem State.controlStep_fm (s : State) : (s.controlStep).fm = s.fm := by rw [State.controlStep_eq]
@[simp] theorem State.controlStep_season (s : State) : (s.controlStep).season = s.season := by rw [State.controlStep_eq]
@[simp] theorem State.controlStep_rl (s : State) : (s.controlStep).rl = s.rl := by rw [State.controlStep_eq]
@[simp] theorem State.controlStep_lp (s : State) : (s.controlStep).lp = s.lp := by rw [State.controlStep_eq]
@[simp] theorem State.controlStep_ss (s : State) : (s.controlStep).ss = s.ss := by rw [State.controlStep_eq]
@[simp] theorem State.controlStep_pending (s : State) : (s.controlStep).pending = s.pending := by
  rw [State.controlStep_eq]

/-! ### `abandonChange` -/

theorem State.abandonChange_eq (s : State) (side : Side) : s.abandonChange side = { s with
    da := (s.abandonChange side).da
    fm := (s.abandonChange side).fm
    eu := (s.abandonChange side).eu } := by
  unfold State.abandonChange State.handOn
  dsimp only
  split
  · split <;> rfl
  · rfl

@[simp] theorem State.abandonChange_phase (s : State) (side : Side) : (s.abandonChange side).phase = s.phase := by
  rw [State.abandonChange_eq]
@[simp] theorem State.abandonChange_resetPin (s : State) (side : Side) : (s.abandonChange side).resetPin = s.resetPin := by
  rw [State.abandonChange_eq]
@[simp] theorem State.abandonChange_straps (s : State) (side : Side) : (s.abandonChange side).straps = s.straps := by
  rw [State.abandonChange_eq]
@[simp] theorem State.abandonChange_mc (s : State) (side : Side) : (s.abandonChange side).mc = s.mc := by
  rw [State.abandonChange_eq]
@[simp] theorem State.abandonChange_ae (s : State) (side : Side) : (s.abandonChange side).ae = s.ae := by
  rw [State.abandonChange_eq]
@[simp] theorem State.abandonChange_fg (s : State) (side : Side) : (s.abandonChange side).fg = s.fg := by
  rw [State.abandonChange_eq]
@[simp] theorem State.abandonChange_preheat (s : State) (side : Side) : (s.abandonChange side).preheat = s.preheat := by
  rw [State.abandonChange_eq]
@[simp] theorem State.abandonChange_damper (s : State) (side : Side) : (s.abandonChange side).damper = s.damper := by
  rw [State.abandonChange_eq]
@[simp] theorem State.abandonChange_hm (s : State) (side : Side) : (s.abandonChange side).hm = s.hm := by
  rw [State.abandonChange_eq]
@[simp] theorem State.abandonChange_season (s : State) (side : Side) : (s.abandonChange side).season = s.season := by
  rw [State.abandonChange_eq]
@[simp] theorem State.abandonChange_rl (s : State) (side : Side) : (s.abandonChange side).rl = s.rl := by
  rw [State.abandonChange_eq]
@[simp] theorem State.abandonChange_lp (s : State) (side : Side) : (s.abandonChange side).lp = s.lp := by
  rw [State.abandonChange_eq]
@[simp] theorem State.abandonChange_ss (s : State) (side : Side) : (s.abandonChange side).ss = s.ss := by
  rw [State.abandonChange_eq]
@[simp] theorem State.abandonChange_freeCount (s : State) (side : Side) : (s.abandonChange side).freeCount = s.freeCount := by
  rw [State.abandonChange_eq]
@[simp] theorem State.abandonChange_pending (s : State) (side : Side) : (s.abandonChange side).pending = s.pending := by
  rw [State.abandonChange_eq]

/-! ### `abandonOwned` -/

theorem State.abandonOwned_eq (s : State) (side : Side) (m : Master) : s.abandonOwned side m = { s with
    da := (s.abandonOwned side m).da
    fm := (s.abandonOwned side m).fm
    eu := (s.abandonOwned side m).eu } := by
  unfold State.abandonOwned
  split
  · exact s.abandonChange_eq side
  · rfl

@[simp] theorem State.abandonOwned_phase (s : State) (side : Side) (m : Master) : (s.abandonOwned side m).phase = s.phase := by
  rw [State.abandonOwned_eq]
@[simp] theorem State.abandonOwned_resetPin (s : State) (side : Side) (m : Master) : (s.abandonOwned side m).resetPin = s.resetPin := by
  rw [State.abandonOwned_eq]
@[simp] theorem State.abandonOwned_straps (s : State) (side : Side) (m : Master) : (s.abandonOwned side m).straps = s.straps := by
  rw [State.abandonOwned_eq]
@[simp] theorem State.abandonOwned_mc (s : State) (side : Side) (m : Master) : (s.abandonOwned side m).mc = s.mc := by
  rw [State.abandonOwned_eq]
@[simp] theorem State.abandonOwned_ae (s : State) (side : Side) (m : Master) : (s.abandonOwned side m).ae = s.ae := by
  rw [State.abandonOwned_eq]
@[simp] theorem State.abandonOwned_fg (s : State) (side : Side) (m : Master) : (s.abandonOwned side m).fg = s.fg := by
  rw [State.abandonOwned_eq]
@[simp] theorem State.abandonOwned_preheat (s : State) (side : Side) (m : Master) : (s.abandonOwned side m).preheat = s.preheat := by
  rw [State.abandonOwned_eq]
@[simp] theorem State.abandonOwned_damper (s : State) (side : Side) (m : Master) : (s.abandonOwned side m).damper = s.damper := by
  rw [State.abandonOwned_eq]
@[simp] theorem State.abandonOwned_hm (s : State) (side : Side) (m : Master) : (s.abandonOwned side m).hm = s.hm := by
  rw [State.abandonOwned_eq]
@[simp] theorem State.abandonOwned_season (s : State) (side : Side) (m : Master) : (s.abandonOwned side m).season = s.season := by
  rw [State.abandonOwned_eq]
@[simp] theorem State.abandonOwned_rl (s : State) (side : Side) (m : Master) : (s.abandonOwned side m).rl = s.rl := by
  rw [State.abandonOwned_eq]
@[simp] theorem State.abandonOwned_lp (s : State) (side : Side) (m : Master) : (s.abandonOwned side m).lp = s.lp := by
  rw [State.abandonOwned_eq]
@[simp] theorem State.abandonOwned_ss (s : State) (side : Side) (m : Master) : (s.abandonOwned side m).ss = s.ss := by
  rw [State.abandonOwned_eq]
@[simp] theorem State.abandonOwned_freeCount (s : State) (side : Side) (m : Master) : (s.abandonOwned side m).freeCount = s.freeCount := by
  rw [State.abandonOwned_eq]
@[simp] theorem State.abandonOwned_pending (s : State) (side : Side) (m : Master) : (s.abandonOwned side m).pending = s.pending := by
  rw [State.abandonOwned_eq]

/-! ### `reportLoss` -/

theorem State.reportLoss_eq (s : State) (i : Fin 15) : s.reportLoss i = { s with
    da := (s.reportLoss i).da
    fm := (s.reportLoss i).fm
    eu := (s.reportLoss i).eu
    hm := (s.reportLoss i).hm
    season := (s.reportLoss i).season } := by
  have hmaster : ∀ m, ((s.removeMaster m).abandonOwned .supply m).abandonOwned .extract m =
      { s with
        da := (((s.removeMaster m).abandonOwned .supply m).abandonOwned .extract m).da
        fm := (((s.removeMaster m).abandonOwned .supply m).abandonOwned .extract m).fm
        eu := (((s.removeMaster m).abandonOwned .supply m).abandonOwned .extract m).eu } := fun m => by
    rw [State.abandonOwned_eq _ .extract, State.abandonOwned_eq _ .supply]
    rfl
  unfold State.reportLoss
  dsimp only
  cases slotMaster i with
  | none => split <;> split <;> rfl
  | some m =>
    dsimp only
    rw [hmaster m]
    split <;> split <;> rfl

@[simp] theorem State.reportLoss_phase (s : State) (i : Fin 15) : (s.reportLoss i).phase = s.phase := by
  rw [State.reportLoss_eq]
@[simp] theorem State.reportLoss_resetPin (s : State) (i : Fin 15) : (s.reportLoss i).resetPin = s.resetPin := by
  rw [State.reportLoss_eq]
@[simp] theorem State.reportLoss_straps (s : State) (i : Fin 15) : (s.reportLoss i).straps = s.straps := by
  rw [State.reportLoss_eq]
@[simp] theorem State.reportLoss_mc (s : State) (i : Fin 15) : (s.reportLoss i).mc = s.mc := by rw [State.reportLoss_eq]
@[simp] theorem State.reportLoss_ae (s : State) (i : Fin 15) : (s.reportLoss i).ae = s.ae := by rw [State.reportLoss_eq]
@[simp] theorem State.reportLoss_fg (s : State) (i : Fin 15) : (s.reportLoss i).fg = s.fg := by rw [State.reportLoss_eq]
@[simp] theorem State.reportLoss_preheat (s : State) (i : Fin 15) : (s.reportLoss i).preheat = s.preheat := by
  rw [State.reportLoss_eq]
@[simp] theorem State.reportLoss_damper (s : State) (i : Fin 15) : (s.reportLoss i).damper = s.damper := by
  rw [State.reportLoss_eq]
@[simp] theorem State.reportLoss_rl (s : State) (i : Fin 15) : (s.reportLoss i).rl = s.rl := by rw [State.reportLoss_eq]
@[simp] theorem State.reportLoss_lp (s : State) (i : Fin 15) : (s.reportLoss i).lp = s.lp := by rw [State.reportLoss_eq]
@[simp] theorem State.reportLoss_ss (s : State) (i : Fin 15) : (s.reportLoss i).ss = s.ss := by rw [State.reportLoss_eq]
@[simp] theorem State.reportLoss_freeCount (s : State) (i : Fin 15) : (s.reportLoss i).freeCount = s.freeCount := by
  rw [State.reportLoss_eq]
@[simp] theorem State.reportLoss_pending (s : State) (i : Fin 15) : (s.reportLoss i).pending = s.pending := by
  rw [State.reportLoss_eq]

/-! ### `enterLost` -/

theorem State.enterLost_eq (s : State) (i : Fin 15) : s.enterLost i = { s with
    da := (s.enterLost i).da
    fm := (s.enterLost i).fm
    eu := (s.enterLost i).eu
    hm := (s.enterLost i).hm
    season := (s.enterLost i).season
    rl := (s.enterLost i).rl } := by
  unfold State.enterLost
  rw [State.reportLoss_eq]
  rfl

@[simp] theorem State.enterLost_phase (s : State) (i : Fin 15) : (s.enterLost i).phase = s.phase := by
  rw [State.enterLost_eq]
@[simp] theorem State.enterLost_resetPin (s : State) (i : Fin 15) : (s.enterLost i).resetPin = s.resetPin := by
  rw [State.enterLost_eq]
@[simp] theorem State.enterLost_straps (s : State) (i : Fin 15) : (s.enterLost i).straps = s.straps := by
  rw [State.enterLost_eq]
@[simp] theorem State.enterLost_mc (s : State) (i : Fin 15) : (s.enterLost i).mc = s.mc := by rw [State.enterLost_eq]
@[simp] theorem State.enterLost_ae (s : State) (i : Fin 15) : (s.enterLost i).ae = s.ae := by rw [State.enterLost_eq]
@[simp] theorem State.enterLost_fg (s : State) (i : Fin 15) : (s.enterLost i).fg = s.fg := by rw [State.enterLost_eq]
@[simp] theorem State.enterLost_preheat (s : State) (i : Fin 15) : (s.enterLost i).preheat = s.preheat := by
  rw [State.enterLost_eq]
@[simp] theorem State.enterLost_damper (s : State) (i : Fin 15) : (s.enterLost i).damper = s.damper := by
  rw [State.enterLost_eq]
@[simp] theorem State.enterLost_lp (s : State) (i : Fin 15) : (s.enterLost i).lp = s.lp := by rw [State.enterLost_eq]
@[simp] theorem State.enterLost_ss (s : State) (i : Fin 15) : (s.enterLost i).ss = s.ss := by rw [State.enterLost_eq]
@[simp] theorem State.enterLost_freeCount (s : State) (i : Fin 15) : (s.enterLost i).freeCount = s.freeCount := by
  rw [State.enterLost_eq]
@[simp] theorem State.enterLost_pending (s : State) (i : Fin 15) : (s.enterLost i).pending = s.pending := by
  rw [State.enterLost_eq]

/-! ### `abandonUnitChanges` -/

theorem State.abandonUnitChanges_eq (s : State) : s.abandonUnitChanges = { s with
    da := (s.abandonUnitChanges).da
    fm := (s.abandonUnitChanges).fm } := rfl

@[simp] theorem State.abandonUnitChanges_phase (s : State) : (s.abandonUnitChanges).phase = s.phase := by
  rw [State.abandonUnitChanges_eq]
@[simp] theorem State.abandonUnitChanges_resetPin (s : State) : (s.abandonUnitChanges).resetPin = s.resetPin := by
  rw [State.abandonUnitChanges_eq]
@[simp] theorem State.abandonUnitChanges_straps (s : State) : (s.abandonUnitChanges).straps = s.straps := by
  rw [State.abandonUnitChanges_eq]
@[simp] theorem State.abandonUnitChanges_mc (s : State) : (s.abandonUnitChanges).mc = s.mc := by
  rw [State.abandonUnitChanges_eq]
@[simp] theorem State.abandonUnitChanges_ae (s : State) : (s.abandonUnitChanges).ae = s.ae := by
  rw [State.abandonUnitChanges_eq]
@[simp] theorem State.abandonUnitChanges_fg (s : State) : (s.abandonUnitChanges).fg = s.fg := by
  rw [State.abandonUnitChanges_eq]
@[simp] theorem State.abandonUnitChanges_preheat (s : State) : (s.abandonUnitChanges).preheat = s.preheat := by
  rw [State.abandonUnitChanges_eq]
@[simp] theorem State.abandonUnitChanges_damper (s : State) : (s.abandonUnitChanges).damper = s.damper := by
  rw [State.abandonUnitChanges_eq]
@[simp] theorem State.abandonUnitChanges_hm (s : State) : (s.abandonUnitChanges).hm = s.hm := by
  rw [State.abandonUnitChanges_eq]
@[simp] theorem State.abandonUnitChanges_season (s : State) : (s.abandonUnitChanges).season = s.season := by
  rw [State.abandonUnitChanges_eq]
@[simp] theorem State.abandonUnitChanges_rl (s : State) : (s.abandonUnitChanges).rl = s.rl := by
  rw [State.abandonUnitChanges_eq]
@[simp] theorem State.abandonUnitChanges_lp (s : State) : (s.abandonUnitChanges).lp = s.lp := by
  rw [State.abandonUnitChanges_eq]
@[simp] theorem State.abandonUnitChanges_eu (s : State) : (s.abandonUnitChanges).eu = s.eu := by
  rw [State.abandonUnitChanges_eq]
@[simp] theorem State.abandonUnitChanges_ss (s : State) : (s.abandonUnitChanges).ss = s.ss := by
  rw [State.abandonUnitChanges_eq]
@[simp] theorem State.abandonUnitChanges_freeCount (s : State) : (s.abandonUnitChanges).freeCount = s.freeCount := by
  rw [State.abandonUnitChanges_eq]
@[simp] theorem State.abandonUnitChanges_pending (s : State) : (s.abandonUnitChanges).pending = s.pending := by
  rw [State.abandonUnitChanges_eq]

/-! ### `post` -/

@[simp] theorem State.post_phase (s : State) (src : Source) (kind : DemandKind) (level : Fin 5) (remaining : Option Nat) :
    (s.post src kind level remaining).phase = s.phase := rfl
@[simp] theorem State.post_resetPin (s : State) (src : Source) (kind : DemandKind) (level : Fin 5) (remaining : Option Nat) :
    (s.post src kind level remaining).resetPin = s.resetPin := rfl
@[simp] theorem State.post_straps (s : State) (src : Source) (kind : DemandKind) (level : Fin 5) (remaining : Option Nat) :
    (s.post src kind level remaining).straps = s.straps := rfl
@[simp] theorem State.post_mc (s : State) (src : Source) (kind : DemandKind) (level : Fin 5) (remaining : Option Nat) :
    (s.post src kind level remaining).mc = s.mc := rfl
@[simp] theorem State.post_ae (s : State) (src : Source) (kind : DemandKind) (level : Fin 5) (remaining : Option Nat) :
    (s.post src kind level remaining).ae = s.ae := rfl
@[simp] theorem State.post_fg (s : State) (src : Source) (kind : DemandKind) (level : Fin 5) (remaining : Option Nat) :
    (s.post src kind level remaining).fg = s.fg := rfl
@[simp] theorem State.post_preheat (s : State) (src : Source) (kind : DemandKind) (level : Fin 5) (remaining : Option Nat) :
    (s.post src kind level remaining).preheat = s.preheat := rfl
@[simp] theorem State.post_damper (s : State) (src : Source) (kind : DemandKind) (level : Fin 5) (remaining : Option Nat) :
    (s.post src kind level remaining).damper = s.damper := rfl
@[simp] theorem State.post_hm (s : State) (src : Source) (kind : DemandKind) (level : Fin 5) (remaining : Option Nat) :
    (s.post src kind level remaining).hm = s.hm := rfl
@[simp] theorem State.post_fm (s : State) (src : Source) (kind : DemandKind) (level : Fin 5) (remaining : Option Nat) :
    (s.post src kind level remaining).fm = s.fm := rfl
@[simp] theorem State.post_season (s : State) (src : Source) (kind : DemandKind) (level : Fin 5) (remaining : Option Nat) :
    (s.post src kind level remaining).season = s.season := rfl
@[simp] theorem State.post_rl (s : State) (src : Source) (kind : DemandKind) (level : Fin 5) (remaining : Option Nat) :
    (s.post src kind level remaining).rl = s.rl := rfl
@[simp] theorem State.post_lp (s : State) (src : Source) (kind : DemandKind) (level : Fin 5) (remaining : Option Nat) :
    (s.post src kind level remaining).lp = s.lp := rfl
@[simp] theorem State.post_eu (s : State) (src : Source) (kind : DemandKind) (level : Fin 5) (remaining : Option Nat) :
    (s.post src kind level remaining).eu = s.eu := rfl
@[simp] theorem State.post_ss (s : State) (src : Source) (kind : DemandKind) (level : Fin 5) (remaining : Option Nat) :
    (s.post src kind level remaining).ss = s.ss := rfl
@[simp] theorem State.post_freeCount (s : State) (src : Source) (kind : DemandKind) (level : Fin 5) (remaining : Option Nat) :
    (s.post src kind level remaining).freeCount = s.freeCount := rfl
@[simp] theorem State.post_pending (s : State) (src : Source) (kind : DemandKind) (level : Fin 5) (remaining : Option Nat) :
    (s.post src kind level remaining).pending = s.pending := rfl

/-! ### `removeKind` -/

@[simp] theorem State.removeKind_phase (s : State) (src : Source) (kind : DemandKind) :
    (s.removeKind src kind).phase = s.phase := by
  rw [State.removeKind_eq_setDa]; rfl
@[simp] theorem State.removeKind_resetPin (s : State) (src : Source) (kind : DemandKind) :
    (s.removeKind src kind).resetPin = s.resetPin := by
  rw [State.removeKind_eq_setDa]; rfl
@[simp] theorem State.removeKind_straps (s : State) (src : Source) (kind : DemandKind) :
    (s.removeKind src kind).straps = s.straps := by
  rw [State.removeKind_eq_setDa]; rfl
@[simp] theorem State.removeKind_mc (s : State) (src : Source) (kind : DemandKind) :
    (s.removeKind src kind).mc = s.mc := by
  rw [State.removeKind_eq_setDa]; rfl
@[simp] theorem State.removeKind_ae (s : State) (src : Source) (kind : DemandKind) :
    (s.removeKind src kind).ae = s.ae := by
  rw [State.removeKind_eq_setDa]; rfl
@[simp] theorem State.removeKind_fg (s : State) (src : Source) (kind : DemandKind) :
    (s.removeKind src kind).fg = s.fg := by
  rw [State.removeKind_eq_setDa]; rfl
@[simp] theorem State.removeKind_preheat (s : State) (src : Source) (kind : DemandKind) :
    (s.removeKind src kind).preheat = s.preheat := by
  rw [State.removeKind_eq_setDa]; rfl
@[simp] theorem State.removeKind_damper (s : State) (src : Source) (kind : DemandKind) :
    (s.removeKind src kind).damper = s.damper := by
  rw [State.removeKind_eq_setDa]; rfl
@[simp] theorem State.removeKind_fm (s : State) (src : Source) (kind : DemandKind) :
    (s.removeKind src kind).fm = s.fm := by
  rw [State.removeKind_eq_setDa]; rfl
@[simp] theorem State.removeKind_season (s : State) (src : Source) (kind : DemandKind) :
    (s.removeKind src kind).season = s.season := by
  rw [State.removeKind_eq_setDa]; rfl
@[simp] theorem State.removeKind_rl (s : State) (src : Source) (kind : DemandKind) :
    (s.removeKind src kind).rl = s.rl := by
  rw [State.removeKind_eq_setDa]; rfl
@[simp] theorem State.removeKind_lp (s : State) (src : Source) (kind : DemandKind) :
    (s.removeKind src kind).lp = s.lp := by
  rw [State.removeKind_eq_setDa]; rfl
@[simp] theorem State.removeKind_ss (s : State) (src : Source) (kind : DemandKind) :
    (s.removeKind src kind).ss = s.ss := by
  rw [State.removeKind_eq_setDa]; rfl
@[simp] theorem State.removeKind_freeCount (s : State) (src : Source) (kind : DemandKind) :
    (s.removeKind src kind).freeCount = s.freeCount := by
  rw [State.removeKind_eq_setDa]; rfl
@[simp] theorem State.removeKind_pending (s : State) (src : Source) (kind : DemandKind) :
    (s.removeKind src kind).pending = s.pending := by
  rw [State.removeKind_eq_setDa]; rfl

/-! ### `reportLoad` -/

@[simp] theorem State.reportLoad_phase (s : State) (passes : Bool) :
    (s.reportLoad passes).phase = s.phase := by
  cases passes <;> rfl
@[simp] theorem State.reportLoad_resetPin (s : State) (passes : Bool) :
    (s.reportLoad passes).resetPin = s.resetPin := by
  cases passes <;> rfl
@[simp] theorem State.reportLoad_straps (s : State) (passes : Bool) :
    (s.reportLoad passes).straps = s.straps := by
  cases passes <;> rfl
@[simp] theorem State.reportLoad_mc (s : State) (passes : Bool) :
    (s.reportLoad passes).mc = s.mc := by
  cases passes <;> rfl
@[simp] theorem State.reportLoad_da (s : State) (passes : Bool) :
    (s.reportLoad passes).da = s.da := by
  cases passes <;> rfl
@[simp] theorem State.reportLoad_ae (s : State) (passes : Bool) :
    (s.reportLoad passes).ae = s.ae := by
  cases passes <;> rfl
@[simp] theorem State.reportLoad_fg (s : State) (passes : Bool) :
    (s.reportLoad passes).fg = s.fg := by
  cases passes <;> rfl
@[simp] theorem State.reportLoad_preheat (s : State) (passes : Bool) :
    (s.reportLoad passes).preheat = s.preheat := by
  cases passes <;> rfl
@[simp] theorem State.reportLoad_damper (s : State) (passes : Bool) :
    (s.reportLoad passes).damper = s.damper := by
  cases passes <;> rfl
@[simp] theorem State.reportLoad_hm (s : State) (passes : Bool) :
    (s.reportLoad passes).hm = s.hm := by
  cases passes <;> rfl
@[simp] theorem State.reportLoad_fm (s : State) (passes : Bool) :
    (s.reportLoad passes).fm = s.fm := by
  cases passes <;> rfl
@[simp] theorem State.reportLoad_season (s : State) (passes : Bool) :
    (s.reportLoad passes).season = s.season := by
  cases passes <;> rfl
@[simp] theorem State.reportLoad_rl (s : State) (passes : Bool) :
    (s.reportLoad passes).rl = s.rl := by
  cases passes <;> rfl
@[simp] theorem State.reportLoad_lp (s : State) (passes : Bool) :
    (s.reportLoad passes).lp = s.lp := by
  cases passes <;> rfl
@[simp] theorem State.reportLoad_ss (s : State) (passes : Bool) :
    (s.reportLoad passes).ss = s.ss := by
  cases passes <;> rfl
@[simp] theorem State.reportLoad_freeCount (s : State) (passes : Bool) :
    (s.reportLoad passes).freeCount = s.freeCount := by
  cases passes <;> rfl
@[simp] theorem State.reportLoad_pending (s : State) (passes : Bool) :
    (s.reportLoad passes).pending = s.pending := by
  cases passes <;> rfl

/-! ### `loaded` -/

@[simp] theorem State.loaded_phase (s : State) : (s.loaded).phase = s.phase := rfl
@[simp] theorem State.loaded_resetPin (s : State) : (s.loaded).resetPin = s.resetPin := rfl
@[simp] theorem State.loaded_straps (s : State) : (s.loaded).straps = s.straps := rfl
@[simp] theorem State.loaded_mc (s : State) : (s.loaded).mc = s.mc := rfl
@[simp] theorem State.loaded_da (s : State) : (s.loaded).da = s.da := rfl
@[simp] theorem State.loaded_ae (s : State) : (s.loaded).ae = s.ae := rfl
@[simp] theorem State.loaded_preheat (s : State) : (s.loaded).preheat = s.preheat := rfl
@[simp] theorem State.loaded_hm (s : State) : (s.loaded).hm = s.hm := rfl
@[simp] theorem State.loaded_lp (s : State) : (s.loaded).lp = s.lp := rfl
@[simp] theorem State.loaded_freeCount (s : State) : (s.loaded).freeCount = s.freeCount := rfl
@[simp] theorem State.loaded_pending (s : State) : (s.loaded).pending = s.pending := rfl

end Sys2Proof.Machine

namespace Sys2Proof.Machine

/-! ## O55: the pin and the flags -/

section
variable {s : State}

theorem State.raise_coherent (h : s.eu.Coherent) (f : Flag) : (s.raise f).eu.Coherent :=
  EventUnit.raise_coherent h.clean f

theorem State.count_coherent (h : s.eu.Coherent) (c : Counter) : (s.count c).eu.Coherent :=
  EventUnit.Move.coherent (.count _ c) h

theorem State.handOn_coherent (h : s.eu.Coherent) (side : Side) (f : FilterRecord) : (s.handOn side f).eu.Coherent := by
  unfold State.handOn
  dsimp only
  split
  · exact h
  · exact EventUnit.raise_coherent h.clean _

theorem State.abandonOwned_coherent (h : s.eu.Coherent) (side : Side) (m : Master) :
    (s.abandonOwned side m).eu.Coherent := by
  unfold State.abandonOwned State.abandonChange
  split
  · dsimp only
    split
    · exact State.raise_coherent (State.handOn_coherent h _ _) _
    · exact h
  · exact h

theorem State.reportLoss_coherent (h : s.eu.Coherent) (i : Fin 15) : (s.reportLoss i).eu.Coherent := by
  have hmaster : ∀ m, (((s.removeMaster m).abandonOwned .supply m).abandonOwned .extract m).eu.Coherent := fun m =>
    State.abandonOwned_coherent (State.abandonOwned_coherent (s := s.removeMaster m) h _ m) _ m
  unfold State.reportLoss
  dsimp only
  cases slotMaster i with
  | none => split <;> split <;> exact h
  | some m => split <;> split <;> exact hmaster m

theorem State.stallFan_coherent (h : s.eu.Coherent) (side : Side) : (s.stallFan side).eu.Coherent := by
  have hcount : ∀ f, (((s.withFan side f).raise (stallFlag side)).count (stallCounter side)).eu.Coherent := fun f =>
    State.count_coherent (State.raise_coherent (s := s.withFan side f) h _) _
  unfold State.stallFan
  dsimp only
  split
  · exact State.raise_coherent (hcount _) _
  · exact hcount _

theorem State.stageMeasure_coherent (h : s.eu.Coherent) (side : Side) : (s.stageMeasure side).eu.Coherent := by
  unfold State.stageMeasure
  dsimp only
  split
  · exact State.stallFan_coherent (by exact h) side
  · split <;> exact h

theorem State.controlStep_coherent (h : s.eu.Coherent) : s.controlStep.eu.Coherent := by
  have hcommands : s.stepCommands.eu.Coherent :=
    State.stageMeasure_coherent (State.stageMeasure_coherent h _) _
  have hlimited : ∀ {t : State} (f g : FanRecord), t.eu.Coherent → (t.reportLimited f g).eu.Coherent := by
    intro t f g ht
    unfold State.reportLimited
    split
    · exact State.raise_coherent ht _
    · exact ht
  unfold State.controlStep State.stepFlows
  dsimp only
  rw [State.followSupply_eu]
  exact hlimited _ _ (hlimited _ _ hcommands)

/-- Every move keeps the pin to its condition. -/
theorem State.Move.events_coherent {stray : Prop} {t : State} (hmove : s.Move stray t) (h : s.eu.Coherent) :
    t.eu.Coherent := by
  cases hmove with
  | masterReset => exact (show EventUnit.initial.Coherent by
      refine ⟨?_, rfl, rfl⟩; decide)
  | load =>
    have hload : s.loaded.eu.Coherent := by
      show (s.eu.load _).Coherent
      unfold EventUnit.load
      split <;> exact h
    show (s.loaded.reportLoad _).eu.Coherent
    unfold State.reportLoad
    split
    · exact hload
    · exact State.raise_coherent hload _
  | events e he => exact he.coherent h
  | controlStep => exact State.controlStep_coherent h
  | boostEnds => rw [State.removeKind_eu]; exact h
  | dryEnds => rw [State.removeKind_eu]; exact h
  | assessed => exact State.handOn_coherent h _ _
  | changeBegins => exact State.handOn_coherent h _ _
  | changeAbandoned => exact State.handOn_coherent h _ _
  | changeDone => exact State.handOn_coherent h _ _
  | lost i => exact State.reportLoss_coherent (s := s.withSlot i Slot.lost) h i
  | _ => exact h

end

/-- Settles O55: every move of `State.Move` keeps the event unit coherent. -/
theorem stepsKeepThePinAndTheFlags : Obligations.StepsKeepThePinAndTheFlags := by
  unfold Obligations.StepsKeepThePinAndTheFlags
  exact fun s t hs hstep => step_keeps (P := fun s => s.eu.Coherent) (fun _ h => h)
    (fun hmove h => hmove.events_coherent h) hs hstep

/-! ## O56: the fans -/

/-- What the fan invariant reads: the airflow engine and the strapping of the ports. -/
theorem State.FansCoherent.congr {s t : State} (h : s.FansCoherent) (hae : t.ae = s.ae) (hstraps : t.straps = s.straps) :
    t.FansCoherent := by
  unfold State.FansCoherent State.roleOf State.rightHanded at *
  rw [hae, hstraps]
  exact h

/-- A fan at rest: what a stopped or waiting fan keeps. -/
theorem FanRecord.coherent_of_rest {f : FanRecord} (hrun : f.state ≠ .running) (hstart : f.state ≠ .starting)
    (hqr : f.qr = 0) (hduty : f.duty = 0) (hmeasured : f.measured ≤ 6000)
    (hretries : f.retries ≤ 3) (hlock : f.state = .lockedOut ↔ f.retries = 3) : f.Coherent :=
  ⟨fun _ => hqr, fun h => absurd h hrun, fun h => absurd h hstart, fun _ => hduty, hmeasured, hretries, hlock⟩

/-- What a fan that is not LOCKED_OUT has left of its retries. -/
theorem FanRecord.Coherent.retries_lt {f : FanRecord} (h : f.Coherent) (hstate : f.state ≠ .lockedOut) : f.retries < 3 := by
  obtain ⟨-, -, -, -, -, hretries, hlock⟩ := h
  have : f.retries ≠ 3 := fun h3 => hstate (hlock.2 h3)
  omega

theorem FanRecord.Coherent.enterHoldoff {f : FanRecord} (h : f.Coherent) (hstate : f.state ≠ .lockedOut) (holdoff : Nat) :
    (f.enterHoldoff holdoff).Coherent := by
  have hlt := h.retries_lt hstate
  obtain ⟨-, -, -, -, hmeasured, hretries, -⟩ := h
  exact coherent_of_rest nofun nofun rfl rfl hmeasured hretries
    ⟨nofun, fun h3 => absurd h3 (Nat.ne_of_lt hlt)⟩

theorem FanRecord.Coherent.enterStarting {f : FanRecord} (h : f.Coherent) (hstate : f.state ≠ .lockedOut) :
    f.enterStarting.Coherent := by
  have hlt := h.retries_lt hstate
  obtain ⟨-, -, -, -, hmeasured, hretries, -⟩ := h
  exact ⟨fun _ => rfl, nofun, fun _ => rfl, fun hne => absurd rfl hne.2, hmeasured, hretries,
    nofun, fun h3 => absurd h3 (Nat.ne_of_lt hlt)⟩

theorem FanRecord.Coherent.enterStalled {f : FanRecord} (h : f.Coherent) (hstate : f.state ≠ .lockedOut) (holdoff : Nat) :
    (f.enterStalled holdoff).Coherent := by
  have hlt := h.retries_lt hstate
  obtain ⟨-, -, -, -, hmeasured, -, -⟩ := h
  unfold FanRecord.enterStalled
  split
  · exact coherent_of_rest nofun nofun rfl rfl hmeasured (show f.retries + 1 ≤ 3 by omega)
      ⟨nofun, fun h3 => absurd h3 (show f.retries + 1 ≠ 3 by omega)⟩
  · exact coherent_of_rest nofun nofun rfl rfl hmeasured (show f.retries + 1 ≤ 3 by omega)
      ⟨fun _ => show f.retries + 1 = 3 by omega, fun _ => rfl⟩

theorem FanRecord.Coherent.stopped {f : FanRecord} (h : f.Coherent)
    (hstate : f.state ≠ .running ∧ f.state ≠ .starting ∧ f.state ≠ .lockedOut) :
    ({ f with state := .stopped, wait := none } : FanRecord).Coherent := by
  have hlt := h.retries_lt hstate.2.2
  obtain ⟨hqr, -, -, hduty, hmeasured, hretries, -⟩ := h
  exact coherent_of_rest nofun nofun (hqr hstate.1) (hduty ⟨hstate.1, hstate.2.1⟩) hmeasured hretries
    ⟨nofun, fun h3 => absurd h3 (Nat.ne_of_lt hlt)⟩

/-- A fan's own timers and requests keep its record, at no flow before and after. -/
theorem FanRecord.Move.coherent {f g : FanRecord} (hmove : f.Move g) (h : f.Coherent) :
    g.Coherent ∧ f.state ≠ .running ∧ g.state ≠ .running := by
  cases hmove with
  | holdoffEnds hs => exact ⟨h.stopped (by simp [hs]), by simp [hs], nofun⟩
  | startFails holdoff hs =>
    refine ⟨h.enterStalled (by simp [hs]) holdoff, by simp [hs], ?_⟩
    unfold FanRecord.enterStalled
    split <;> nofun
  | startsAgain hs => exact ⟨h.enterStarting (by simp [hs]), by simp [hs], nofun⟩
  | staysOff hs => exact ⟨h.stopped (by simp [hs]), by simp [hs], nofun⟩
  | lockoutCleared holdoff hs =>
    obtain ⟨-, -, -, -, hmeasured, -, -⟩ := h
    exact ⟨coherent_of_rest nofun nofun rfl rfl hmeasured (Nat.zero_le 3) ⟨nofun, nofun⟩, by simp [hs], nofun⟩

/-! ### The control step on one fan -/

theorem Tacho.speed_le (t : Tacho) (previous free : Nat) (h : previous ≤ 6000) : t.speed previous free ≤ 6000 := by
  unfold Tacho.speed
  split
  · split <;> omega
  · split <;> omega

theorem FanRecord.Coherent.measure {f : FanRecord} (h : f.Coherent) (free : Nat) : (f.measure free).Coherent := by
  obtain ⟨hqr, hrun, hstart, hduty, hmeasured, hretries, hlock⟩ := h
  exact ⟨hqr, hrun, hstart, hduty, f.tacho.speed_le _ _ hmeasured, hretries, hlock⟩

theorem FanRecord.Coherent.enterRunning {f : FanRecord} (h : f.Coherent) (hstate : f.state = .starting) :
    f.enterRunning.Coherent := by
  have hlt := h.retries_lt (by simp [hstate])
  obtain ⟨-, -, hstart, -, hmeasured, hretries, -⟩ := h
  have hduty : f.duty = 300 := hstart hstate
  refine ⟨fun hne => absurd rfl hne, fun _ => ⟨?_, ?_, Nat.zero_lt_succ _⟩, nofun, fun hne => absurd rfl hne.1, hmeasured,
    hretries, nofun, fun h3 => absurd h3 (Nat.ne_of_lt hlt)⟩
  · show 100 ≤ f.duty
    omega
  · show f.duty ≤ 1000
    omega

theorem FanRecord.Coherent.move {f : FanRecord} (h : f.Coherent) (holdoff : Nat) : (f.move holdoff).Coherent := by
  unfold FanRecord.move
  split
  case h_1 hs => split; exacts [h.enterHoldoff (by simp [hs]) _, h]
  case h_2 hs => split; exacts [h.enterHoldoff (by simp [hs]) _, h]
  case h_3 hs => split; exacts [h.enterStarting (by simp [hs]), h]
  case h_4 => exact h

/-- A fan whose flow alone has changed, to 0 unless it runs. -/
theorem FanRecord.Coherent.withFlow {f : FanRecord} (h : f.Coherent) {qr : Nat} (hqr : f.state ≠ .running → qr = 0) :
    ({ f with qr := qr } : FanRecord).Coherent :=
  ⟨hqr, h.2⟩

theorem FanRecord.Coherent.ramped {f : FanRecord} (h : f.Coherent) (rate : Nat) : (f.ramped rate).Coherent := by
  unfold FanRecord.ramped
  split
  · exact h.withFlow fun hne => absurd ‹_› hne
  · exact h

theorem FanRecord.Coherent.target {f : FanRecord} (h : f.Coherent) (set : Settings) (curve : Curve) (dp : Option Nat)
    (pressure : Channel) : (f.target set curve dp pressure).Coherent := by
  unfold FanRecord.target
  split <;> exact h

theorem FanRecord.Coherent.stepLoop {f : FanRecord} (h : f.Coherent) (hstate : f.state = .running) (kp ki : Nat) :
    (f.stepLoop kp ki).Coherent := by
  obtain ⟨hqr, -, hstart, hrest, hmeasured, hretries, hlock⟩ := h
  have hdrive : ∀ (duty : Nat) (remainder : Int), 100 ≤ duty → duty ≤ 1000 → remainder.natAbs < 1024 →
      ({ f with duty := duty, remainder := remainder, ePrev := f.error } : FanRecord).Coherent := by
    intro duty remainder hlo hhi hrem
    refine ⟨hqr, fun _ => ⟨hlo, hhi, hrem⟩, fun hs => ?_, fun hne => absurd hstate hne.1, hmeasured, hretries, hlock⟩
    exact nomatch hstate.symm.trans hs
  unfold FanRecord.stepLoop
  dsimp only
  split
  · exact hdrive _ _ (by omega) (by omega) (by simp)
  split
  · exact hdrive _ _ (by omega) (by omega) (by simp)
  · exact hdrive _ _ (by omega) (by omega) (by
      generalize loopSum kp ki f.error f.ePrev f.remainder = num
      have hmod := Int.tdiv_mul_add_tmod num 1024
      rw [show num - num.tdiv 1024 * 1024 = num.tmod 1024 by omega, Int.natAbs_tmod]
      exact Nat.mod_lt _ (by decide))

theorem FanRecord.Coherent.stageLoop {f : FanRecord} (h : f.Coherent) (set : Settings) (was : Bool) :
    (f.stageLoop set was).Coherent := by
  unfold FanRecord.stageLoop
  split
  · exact h
  split
  · have hrun : f.state = .running := not_not.1 ‹_›
    have hloop := h.stepLoop hrun set.kp set.ki
    have hstate : (f.stepLoop set.kp set.ki).state = .running := by
      rw [← hrun]; unfold FanRecord.stepLoop; dsimp only; split <;> [rfl; split <;> rfl]
    generalize f.stepLoop set.kp set.ki = g at hloop hstate
    have hassessed : g.assessSaturation.Coherent ∧ g.assessSaturation.state = .running := by
      unfold FanRecord.assessSaturation
      split <;> exact ⟨hloop, hstate⟩
    obtain ⟨hc, hs⟩ := hassessed
    have hlt := hc.retries_lt (by simp [hs])
    obtain ⟨hqr, hd, hstart, hrest, hmeasured, hretries, -⟩ := hc
    have hretries : g.assessSaturation.advanceRunning.retries < 3 := by
      show ite _ _ _ < 3
      split <;> omega
    refine ⟨hqr, hd, hstart, hrest, hmeasured, Nat.le_of_lt hretries, fun hl => ?_, fun h3 => ?_⟩
    · exact nomatch hs.symm.trans hl
    · exact absurd h3 (Nat.ne_of_lt hretries)
  · exact h

theorem FanRecord.target_qr (f : FanRecord) (set : Settings) (curve : Curve) (dp : Option Nat) (pressure : Channel) :
    (f.target set curve dp pressure).qr = f.qr := by
  unfold FanRecord.target; split <;> rfl

theorem FanRecord.stageLoop_qr (f : FanRecord) (set : Settings) (was : Bool) : (f.stageLoop set was).qr = f.qr := by
  have hloop : (f.stepLoop set.kp set.ki).qr = f.qr := by
    unfold FanRecord.stepLoop; dsimp only; split <;> [rfl; split <;> rfl]
  unfold FanRecord.stageLoop
  split
  · rfl
  split
  · show (FanRecord.assessSaturation _).qr = f.qr
    unfold FanRecord.assessSaturation
    split <;> exact hloop
  · rfl

/-- Stages 3 to 7 keep both fans, and the clip puts the supply flow at most at the extract flow (R59). -/
theorem Airflow.stages_coherent {ae : Airflow} (hsupply : ae.supply.Coherent) (hextract : ae.extract.Coherent)
    (set : Settings) (fm : Filters) (mc : Measurement) (supplyWas extractWas : Bool) :
    (ae.stages set fm mc supplyWas extractWas).supply.Coherent ∧
    (ae.stages set fm mc supplyWas extractWas).extract.Coherent ∧
    (ae.stages set fm mc supplyWas extractWas).supply.qr ≤ (ae.stages set fm mc supplyWas extractWas).extract.qr := by
  have hs := (hsupply.move set.holdoffTime).ramped set.rampRate
  have he := (hextract.move set.holdoffTime).ramped set.rampRate
  have hclip := hs.withFlow (qr := min ((ae.supply.move set.holdoffTime).ramped set.rampRate).qr
    ((ae.extract.move set.holdoffTime).ramped set.rampRate).qr) fun hne => by rw [hs.1 hne, Nat.zero_min]
  refine ⟨(hclip.target _ _ _ _).stageLoop _ _, (he.target _ _ _ _).stageLoop _ _, ?_⟩
  simp only [Airflow.stages, FanRecord.stageLoop_qr, FanRecord.target_qr]
  exact Nat.min_le_right _ _

theorem State.withFan_fans {s : State} {side : Side} {f : FanRecord} (h : ∀ x, (s.ae.fan x).Coherent) (hf : f.Coherent)
    (x : Side) : ((s.withFan side f).ae.fan x).Coherent := by
  show (((s.ae.withFan side f).drive s.rightHanded).fan x).Coherent
  rw [Airflow.drive_fan]
  by_cases hx : x = side
  · rw [hx, Airflow.fan_withFan_self]
    exact hf
  · rw [Airflow.fan_withFan_ne _ hx]
    exact h x

theorem State.stallFan_fans {s : State} {side : Side} (h : ∀ x, (s.ae.fan x).Coherent)
    (hstate : (s.ae.fan side).state ≠ .lockedOut) (x : Side) : ((s.stallFan side).ae.fan x).Coherent := by
  have hfan : (((s.withFan side ((s.ae.fan side).enterStalled s.settings.holdoffTime))).ae.fan x).Coherent := by
    exact State.withFan_fans h ((h side).enterStalled hstate _) x
  unfold State.stallFan
  dsimp only
  split <;> exact hfan

theorem State.stageMeasure_fans {s : State} (h : ∀ x, (s.ae.fan x).Coherent) (side x : Side) :
    ((s.stageMeasure side).ae.fan x).Coherent := by
  have hm := (h side).measure (Config.freeSpeed s.freeCount)
  have hwith := State.withFan_fans (side := side) h hm
  unfold State.stageMeasure
  dsimp only
  split
  · rename_i hstalled
    refine State.stallFan_fans (by exact hwith) ?_ x
    show ((s.withFan side _).ae.fan side).state ≠ .lockedOut
    rw [State.withFan_fan_self]
    unfold FanRecord.hasStalled at hstalled
    simp only [Bool.and_eq_true, beq_iff_eq] at hstalled
    simp [hstalled.1.1]
  split
  · rename_i hproved
    refine State.withFan_fans hwith (hm.enterRunning ?_) x
    unfold FanRecord.hasProved at hproved
    simp only [Bool.and_eq_true, beq_iff_eq] at hproved
    exact hproved.1
  · exact hwith x

/-- Stage 2 writes the commands alone. -/
theorem State.stageCommands_fans {s : State} (h : ∀ x, (s.ae.fan x).Coherent) (x : Side) :
    (s.stageCommands.ae.fan x).Coherent := by
  cases x
  · exact h .supply
  · exact h .extract

/-- What a control step leaves of the airflow engine: stages 3 to 7 on what stages 1 and 2 left, driven on the ports. -/
theorem State.controlStep_ae_eq (s : State) :
    s.controlStep.ae = (s.stepCommands.ae.stages s.stepCommands.settings s.stepCommands.fm s.stepCommands.mc
      (s.ae.supply.state == .running) (s.ae.extract.state == .running)).drive s.rightHanded := by
  have hright : s.stepCommands.rightHanded = s.rightHanded := by
    unfold State.rightHanded; rw [State.stepCommands_straps]
  unfold State.controlStep State.stepFlows
  dsimp only
  rw [State.followSupply_ae, State.reportLimited_ae, State.reportLimited_ae, hright]
  rfl

theorem State.controlStep_fans {s : State} (h : s.FansCoherent) : s.controlStep.FansCoherent := by
  obtain ⟨hsupply, hextract, -, -, -⟩ := h
  have hboth : ∀ x, (s.ae.fan x).Coherent := fun x => by cases x <;> assumption
  have hmeasured := State.stageMeasure_fans (State.stageMeasure_fans hboth .supply) .extract
  have hcommands : ∀ x, (s.stepCommands.ae.fan x).Coherent := State.stageCommands_fans hmeasured
  obtain ⟨hs, he, hclip⟩ := Airflow.stages_coherent (hcommands .supply) (hcommands .extract) s.stepCommands.settings
    s.stepCommands.fm s.stepCommands.mc (s.ae.supply.state == .running) (s.ae.extract.state == .running)
  have hae := s.controlStep_ae_eq
  have hright : s.controlStep.rightHanded = s.rightHanded := by
    unfold State.rightHanded; rw [State.controlStep_straps]
  generalize s.stepCommands.ae.stages _ _ _ _ _ = ae at hs he hclip hae
  refine ⟨?_, ?_, ?_, ?_, ?_⟩
  · rw [hae]; exact hs
  · rw [hae]; exact he
  · rw [hae]; exact hclip
  all_goals
    unfold State.roleOf
    rw [hae, hright]
    cases s.rightHanded <;> rfl

/-- One fan replaced by another at no flow, its port driven with it. -/
theorem State.FansCoherent.withFan {s : State} (h : s.FansCoherent) {side : Side} {f : FanRecord} (hf : f.Coherent)
    (hbefore : (s.ae.fan side).qr = 0) (hafter : f.qr = 0) : (s.withFan side f).FansCoherent := by
  obtain ⟨hsupply, hextract, hclip, hA, hB⟩ := h
  have hboth := State.withFan_fans (side := side) (fun x => by cases x <;> assumption) hf
  refine ⟨hboth .supply, hboth .extract, ?_, ?_, ?_⟩
  · cases side
    · show f.qr ≤ _
      omega
    · have : s.ae.extract.qr = 0 := hbefore
      show s.ae.supply.qr ≤ f.qr
      omega
  all_goals
    show (ite _ _ _ : Nat) = ((s.withFan side f).ae.fan ((s.withFan side f).roleOf _)).duty
    have hr : (s.withFan side f).rightHanded = s.rightHanded := rfl
    unfold State.roleOf
    rw [hr]
    cases s.rightHanded <;> rfl

/-- Fans that keep their duties, on ports that keep theirs. -/
theorem State.FansCoherent.of_duties {s t : State} (h : s.FansCoherent) (hsupply : t.ae.supply.Coherent)
    (hextract : t.ae.extract.Coherent) (hclip : t.ae.supply.qr ≤ t.ae.extract.qr)
    (hduty : ∀ side, (t.ae.fan side).duty = (s.ae.fan side).duty)
    (hports : t.ae.dutyA = s.ae.dutyA ∧ t.ae.dutyB = s.ae.dutyB) (hstraps : t.straps = s.straps) : t.FansCoherent := by
  obtain ⟨-, -, -, hA, hB⟩ := h
  have hrole : ∀ port, t.roleOf port = s.roleOf port := fun port => by
    unfold State.roleOf State.rightHanded; rw [hstraps]
  refine ⟨hsupply, hextract, hclip, ?_, ?_⟩
  · rw [hports.1, hrole, hduty]; exact hA
  · rw [hports.2, hrole, hduty]; exact hB

theorem State.Move.fans_coherent {stray : Prop} {s t : State} (hmove : s.Move stray t) (h : s.FansCoherent) :
    t.FansCoherent := by
  cases hmove with
  | masterReset =>
    have hrest : FanRecord.initial.Coherent := FanRecord.coherent_of_rest nofun nofun rfl rfl (Nat.zero_le _) (Nat.zero_le _)
      ⟨nofun, nofun⟩
    refine ⟨hrest, hrest, Nat.le_refl 0, ?_, ?_⟩ <;> (unfold State.roleOf; split <;> rfl)
  | controlStep => exact State.controlStep_fans h
  | tacho side x =>
    obtain ⟨hsupply, hextract, hclip, -⟩ := id h
    cases side
    · exact h.of_duties hsupply hextract hclip (fun side => by cases side <;> rfl) ⟨rfl, rfl⟩ rfl
    · exact h.of_duties hsupply hextract hclip (fun side => by cases side <;> rfl) ⟨rfl, rfl⟩ rfl
  | waits =>
    obtain ⟨hsupply, hextract, hclip, -⟩ := id h
    exact h.of_duties hsupply hextract hclip (fun side => by cases side <;> rfl) ⟨rfl, rfl⟩ rfl
  | fan side f hf =>
    obtain ⟨hsupply, hextract, -⟩ := id h
    obtain ⟨hc, hbefore, hafter⟩ := hf.coherent (by cases side <;> assumption)
    refine h.withFan hc ?_ (hc.1 hafter)
    cases side
    · exact hsupply.1 hbefore
    · exact hextract.1 hbefore
  | _ => exact h.congr (by simp) (by simp)

/-- Settles O56: every move of `State.Move` keeps the fans, the control step being one of them. -/
theorem stepsKeepTheFansTogether : Obligations.StepsKeepTheFansTogether := by
  unfold Obligations.StepsKeepTheFansTogether
  exact fun s t hs hstep => step_keeps (P := State.FansCoherent) (fun _ h => h.congr rfl rfl)
    (fun hmove h => hmove.fans_coherent h) hs hstep

end Sys2Proof.Machine

namespace Sys2Proof.Machine

/-! ## O58: the pre-heater and the damper -/

section
variable {s t : State}

/-- What the heater invariant reads. -/
theorem State.HeaterSafe.congr (h : s.HeaterSafe) (hpreheat : t.preheat = s.preheat) (hstraps : t.straps = s.straps)
    (hsupply : t.ae.supply.state = s.ae.supply.state) (hprop : t.fg.proportion = s.fg.proportion) : t.HeaterSafe := by
  unfold State.HeaterSafe State.preheaterFitted at *
  rw [hpreheat, hstraps, hsupply, hprop]
  exact h

/-- What the damper invariant reads. -/
theorem State.DamperSafe.congr (h : s.DamperSafe) (hdamper : t.damper = s.damper) (hstraps : t.straps = s.straps)
    (hstate : t.fg.state = s.fg.state) (hwanted : t.fg.wantedOpen = s.fg.wantedOpen) : t.DamperSafe := by
  unfold State.DamperSafe State.damperFitted at *
  rw [hdamper, hstraps, hstate, hwanted]
  exact h

end

theorem State.loaded_fg_eq (s : State) : s.loaded.fg = s.fg.load s.ss.stored.load := rfl
theorem State.loaded_damper_eq (s : State) :
    s.loaded.damper = s.damper.afterLoad s.damperFitted s.ss.stored.load.bypassTravel := rfl

theorem State.heaterSafe_of_off {s : State} (h : s.preheat.output = false) : s.HeaterSafe :=
  fun hon => nomatch h.symm.trans hon

/-- A fan that moves by its own timer or a request does not run. -/
theorem FanRecord.Move.not_running {f g : FanRecord} (h : f.Move g) : f.state ≠ .running := by
  cases h <;> simp [*]

theorem FrostRecord.raiseFraction_eq (r : FrostRecord) (minFraction : Nat) :
    r.raiseFraction minFraction = { r with
      fraction := if r.state ∈ [.protect, .recover, .fallback] then max r.fraction minFraction else r.fraction } := by
  unfold FrostRecord.raiseFraction
  cases r with | mk state => cases state <;> rfl

@[simp] theorem FrostRecord.raiseFraction_state (r : FrostRecord) (minFraction : Nat) :
    (r.raiseFraction minFraction).state = r.state := by rw [FrostRecord.raiseFraction_eq]
@[simp] theorem FrostRecord.raiseFraction_proportion (r : FrostRecord) (minFraction : Nat) :
    (r.raiseFraction minFraction).proportion = r.proportion := by rw [FrostRecord.raiseFraction_eq]
@[simp] theorem FrostRecord.raiseFraction_wantedOpen (r : FrostRecord) (minFraction : Nat) :
    (r.raiseFraction minFraction).wantedOpen = r.wantedOpen := by rw [FrostRecord.raiseFraction_eq]

/-- A window's output is on for a proportion above 0 alone (R88). -/
theorem Preheat.proportion_of_startWindow {proportion : Nat} (h : (Preheat.startWindow proportion).output = true) :
    proportion ≠ 0 := by
  rintro rfl
  exact absurd h (by decide)

/-- The pre-heater as it follows the supply fan (R88, R89). -/
theorem State.followSupply_preheat_eq (s : State) (x : FanState) :
    (s.followSupply x).preheat =
      if (s.followSupply x).ae.supply.state ≠ .running then Preheat.initial
      else if x ≠ .running && s.preheaterFitted then Preheat.startWindow s.fg.proportion else s.preheat := by
  rw [State.followSupply_ae]
  unfold State.followSupply
  dsimp only
  split <;> [rfl; split <;> rfl]

/-- The pre-heater at the end of a control step follows the supply fan (R88, R89). -/
theorem State.controlStep_preheat_eq (s : State) :
    s.controlStep.preheat =
      if s.controlStep.ae.supply.state ≠ .running then Preheat.initial
      else if s.ae.supply.state ≠ .running && s.preheaterFitted then Preheat.startWindow s.fg.proportion
      else s.preheat := by
  unfold State.controlStep State.stepFlows
  dsimp only
  rw [State.followSupply_preheat_eq]
  simp [State.preheaterFitted]

theorem State.controlStep_heater {s : State} (h : s.HeaterSafe) : s.controlStep.HeaterSafe := by
  intro hon
  rw [s.controlStep_preheat_eq] at hon
  have hfitted : s.controlStep.preheaterFitted = s.preheaterFitted := by
    unfold State.preheaterFitted; rw [State.controlStep_straps]
  rw [hfitted, State.controlStep_fg]
  split at hon
  · exact nomatch hon
  rename_i hrun
  split at hon
  · rename_i hbegin
    simp only [Bool.and_eq_true] at hbegin
    exact ⟨hbegin.2, not_not.1 hrun, Preheat.proportion_of_startWindow hon⟩
  · obtain ⟨hfit, -, hprop⟩ := h hon
    exact ⟨hfit, not_not.1 hrun, hprop⟩

theorem State.Move.heater_safe {stray : Prop} {s t : State} (hmove : s.Move stray t) (h : s.HeaterSafe) :
    t.HeaterSafe := by
  cases hmove with
  | masterReset => exact State.heaterSafe_of_off rfl
  | load => exact h.congr (by simp) (by simp) (by simp) (by simp [s.loaded_fg_eq, FrostRecord.load])
  | tacho side => cases side <;> exact h
  | fan side f hf =>
    cases side
    · exact State.heaterSafe_of_off (Bool.eq_false_iff.2 fun hon => hf.not_running (h hon).2.1)
    · exact h
  | controlStep => exact State.controlStep_heater h
  | frost r hr =>
    intro hon
    simp only [State.setPreheat_preheat, Preheat.published, Bool.and_eq_true, decide_eq_true_eq] at hon
    obtain ⟨hfit, hrun, -⟩ := h hon.1
    exact ⟨hfit, hrun, hon.2⟩
  | window hrun => exact fun hon => ⟨hrun.2, hrun.1, Preheat.proportion_of_startWindow hon⟩
  | heaterOff => exact State.heaterSafe_of_off rfl
  | fractionRecord => exact h.congr rfl rfl rfl (by simp)
  | waits => exact h
  | _ => exact h.congr (by simp) (by simp) (by simp) (by simp)

/-! ### The damper -/

theorem Damper.complete_coherent (d : Damper) (target : DamperEnd) (travel : Nat) : (d.complete target travel).Coherent := by
  cases target <;> exact ⟨rfl, by simp [Damper.complete, Damper.travelling], by simp [Damper.complete, Damper.travelling]⟩

theorem Damper.begin_coherent (d : Damper) (target : DamperEnd) (travel : Nat) : (d.begin target travel).Coherent := by
  unfold Damper.begin
  split
  · exact d.complete_coherent target travel
  · cases target <;> exact ⟨rfl, by simp [Damper.travelling], by simp [Damper.travelling]⟩

/-- A travel home leaves the damper CLOSED or CLOSING. -/
theorem Damper.begin_closed_state (d : Damper) (travel : Nat) :
    (d.begin .closed travel).state = .closed ∨ (d.begin .closed travel).state = .closing := by
  unfold Damper.begin
  split
  · exact .inl rfl
  · exact .inr rfl

theorem Damper.fail_coherent (d : Damper) : d.fail.Coherent := by
  refine ⟨?_, by simp [Damper.fail, Damper.travelling], by simp [Damper.fail, Damper.travelling]⟩
  show (if d.closedMade then MotorDrive.off else .closing) ≠ .opening
  split <;> nofun

theorem Damper.follow_coherent {d : Damper} (h : d.Coherent) (wanted : Bool) (travel : Nat) :
    (d.follow wanted travel).Coherent := by
  unfold Damper.follow
  split <;> first | exact d.begin_coherent _ _ | exact h

theorem Damper.takeover_coherent {d : Damper} (h : d.Coherent) (travel : Nat) : (d.takeover travel).Coherent := by
  unfold Damper.takeover
  split <;> first | exact d.begin_coherent _ _ | exact h

/-- A damper that is not wanted open is neither OPEN nor OPENING. -/
theorem Damper.follow_false_state (d : Damper) (travel : Nat) :
    (d.follow false travel).state ≠ .opened ∧ (d.follow false travel).state ≠ .opening := by
  have hhome : (d.begin .closed travel).state ≠ .opened ∧ (d.begin .closed travel).state ≠ .opening := by
    rcases d.begin_closed_state travel with h | h <;> simp [h]
  unfold Damper.follow
  split
  case h_5 =>
    cases hs : d.state <;> simp_all
  all_goals first | exact hhome | contradiction

/-- Outside INACTIVE nothing is wanted open (R91). -/
theorem State.wantedOpen_of_ne {s : State} {frost : FrostState} (h : frost ≠ .inactive) : s.wantedOpen frost = false := by
  have : (frost == FrostState.inactive) = false := by simpa using h
  simp [State.wantedOpen, BypassInputs.wanted, BypassInputs.opens, BypassInputs.closes, State.bypassInputs, this]

/-- What the damper's own moves keep: its record, and no way into OPEN but by a travel, or out of CLOSED. -/
theorem Damper.Move.keeps {d e : Damper} {travel : Nat} (hmove : d.Move travel e) (h : d.Coherent) :
    e.Coherent ∧ (e.state = .opened ∨ e.state = .opening → d.state = .opened ∨ d.state = .opening) ∧
    (d.state = .closed → e.state = .closed) := by
  cases hmove with
  | tick ht =>
    have hstate : d.state = .opening ∨ d.state = .closing := by simpa [Damper.travelling] using ht
    unfold Damper.tick
    dsimp only
    split
    · refine ⟨Damper.fail_coherent _, fun ho => ?_, fun hc => ?_⟩
      · exact absurd ho (by simp [Damper.fail])
      · simp [hc] at hstate
    · obtain ⟨hdrive, hallowance, -⟩ := h
      exact ⟨⟨hdrive, hallowance, iff_of_true rfl ht⟩, id, id⟩
  | retravel => exact ⟨h, id, id⟩
  | switched sw made fitted =>
    have hinput : ∀ e : Damper, e = (match sw with
        | .opened => { d with openMade := made }
        | .closed => { d with closedMade := made }) → e.Coherent ∧ e.state = d.state := by
      rintro e rfl
      cases sw <;> exact ⟨h, rfl⟩
    unfold Damper.switched
    dsimp only
    split
    · obtain ⟨hc, hs⟩ := hinput _ rfl
      exact ⟨hc, fun ho => hs ▸ ho, fun hcl => hs.trans hcl⟩
    split
    · rename_i hs
      exact ⟨Damper.complete_coherent _ _ _, fun _ => .inr hs, fun hc => nomatch hs.symm.trans hc⟩
    · rename_i hs
      exact ⟨Damper.complete_coherent _ _ _, fun ho => by simp [Damper.complete] at ho, fun hc => nomatch hs.symm.trans hc⟩
    · rename_i hs
      obtain ⟨-, hallowance, helapsed⟩ := h
      refine ⟨⟨?_, hallowance, helapsed⟩, id, id⟩
      simp [hs]
    · obtain ⟨hc, hs⟩ := hinput _ rfl
      exact ⟨hc, fun ho => hs ▸ ho, fun hcl => hs.trans hcl⟩
  | faultCleared hf =>
    refine ⟨Damper.begin_coherent _ _ _, fun ho => ?_, fun hc => nomatch hf.symm.trans hc⟩
    rcases Damper.begin_closed_state { d with position := travel } travel with hb | hb <;> simp [hb] at ho

/-- An evaluation keeps the damper safe for the frost state that it leaves (R90, R91, R96). -/
theorem State.damperAfter_safe {s : State} (h : s.DamperSafe) (frost : FrostState) :
    (s.damperAfter frost).Coherent ∧
    (frost ≠ .inactive → (s.damperAfter frost).state ≠ .opened ∧ (s.damperAfter frost).state ≠ .opening) ∧
    (s.damperFitted = false → (s.damperAfter frost).state = .closed ∧ s.wantedOpen frost = false) := by
  obtain ⟨hcoherent, -, hunfitted⟩ := h
  unfold State.damperAfter
  dsimp only
  split
  · rename_i hfit
    refine ⟨Damper.follow_coherent ?_ _ _, fun hne => ?_, fun hno => nomatch hfit.symm.trans hno⟩
    · split
      · exact Damper.takeover_coherent hcoherent _
      · exact hcoherent
    · rw [State.wantedOpen_of_ne hne]
      exact Damper.follow_false_state _ _
  · rename_i hfit
    obtain ⟨hclosed, -⟩ := hunfitted (Bool.eq_false_iff.2 hfit)
    refine ⟨hcoherent, fun _ => by simp [hclosed], fun hno => ⟨hclosed, ?_⟩⟩
    simp [State.wantedOpen, hno]

theorem Damper.afterLoad_coherent (d : Damper) (fitted : Bool) (travel : Nat) : (d.afterLoad fitted travel).Coherent := by
  unfold Damper.afterLoad
  dsimp only
  split
  · exact ⟨rfl, by simp [Damper.initial, Damper.travelling], by simp [Damper.initial, Damper.travelling]⟩
  · exact Damper.begin_coherent _ _ _

theorem State.Move.damper_safe {stray : Prop} {s t : State} (hmove : s.Move stray t) (h : s.DamperSafe) :
    t.DamperSafe := by
  cases hmove with
  | masterReset =>
    refine ⟨⟨rfl, ?_, ?_⟩, fun hne => absurd rfl hne, fun _ => ⟨rfl, rfl⟩⟩ <;>
      simp [State.masterReset, Damper.initial, Damper.travelling]
  | load =>
    have hdamper : (((s.loaded.reportLoad s.ss.stored.passes).recomputeCeiling).setPhase .running).damper =
        s.damper.afterLoad s.damperFitted s.ss.stored.load.bypassTravel := by
      simp [s.loaded_damper_eq]
    have hfg : (((s.loaded.reportLoad s.ss.stored.passes).recomputeCeiling).setPhase .running).fg =
        s.fg.load s.ss.stored.load := by
      simp [s.loaded_fg_eq]
    have hfit : (((s.loaded.reportLoad s.ss.stored.passes).recomputeCeiling).setPhase .running).damperFitted =
        s.damperFitted := by simp [State.damperFitted]
    refine ⟨hdamper ▸ Damper.afterLoad_coherent _ _ _, fun _ => ?_, fun hno => ?_⟩
    · rw [hdamper]
      unfold Damper.afterLoad
      dsimp only
      split
      · simp [Damper.initial]
      · generalize hb : Damper.begin _ .closed _ = d
        rcases hb ▸ Damper.begin_closed_state _ _ with hs | hs <;> simp [hs]
    · rw [hfit] at hno
      rw [hdamper, hfg]
      obtain ⟨-, -, hunfitted⟩ := h
      refine ⟨?_, ?_⟩
      · simp [Damper.afterLoad, hno, Damper.initial]
      · simpa [FrostRecord.load] using (hunfitted hno).2
  | frost r hr =>
    obtain ⟨hc, hne, hunfitted⟩ := State.damperAfter_safe h r.state
    exact ⟨hc, hne, hunfitted⟩
  | damper d hd =>
    obtain ⟨hcoherent, hne, hunfitted⟩ := h
    obtain ⟨hc, hopen, hclosed⟩ := hd.keeps hcoherent
    refine ⟨hc, fun hf => ?_, fun hno => ⟨hclosed (hunfitted hno).1, (hunfitted hno).2⟩⟩
    obtain ⟨hnotOpen, hnotOpening⟩ := hne hf
    have hback : ¬(d.state = .opened ∨ d.state = .opening) := fun ho => (hopen ho).elim hnotOpen hnotOpening
    exact not_or.1 hback
  | fractionRecord => exact h.congr rfl rfl (by simp) (by simp)
  | _ => exact h.congr (by simp) (by simp) (by simp) (by simp)

/-- Settles O58: every move of `State.Move` keeps the pre-heater and the damper safe. -/
theorem stepsKeepTheHeaterAndTheDamper : Obligations.StepsKeepTheHeaterAndTheDamper := by
  unfold Obligations.StepsKeepTheHeaterAndTheDamper
  intro s t hheater hdamper hstep
  exact ⟨step_keeps (P := State.HeaterSafe) (fun _ h => h) (fun hmove h => hmove.heater_safe h) hheater hstep,
    step_keeps (P := State.DamperSafe) (fun _ h => h) (fun hmove h => hmove.damper_safe h) hdamper hstep⟩

end Sys2Proof.Machine

namespace Sys2Proof.Machine

/-! ## Reading back one setting -/

theorem permissionIndex_injective {k k' : RequestKind} {c c' : PrivilegeClass}
    (h : permissionIndex k c = permissionIndex k' c') : k = k' ∧ c = c' := by
  have hval : 3 * k.index.val + c.index.val = 3 * k'.index.val + c'.index.val := congrArg Fin.val h
  have hk : k.index.val = k'.index.val := by omega
  have hc : c.index.val = c'.index.val := by omega
  refine ⟨?_, ?_⟩
  · revert hk; cases k <;> cases k' <;> decide
  · revert hc; cases c <;> cases c' <;> decide

@[simp] theorem Settings.curve_withCurve_self (set : Settings) (side : Side) (c : Curve) :
    (set.withCurve side c).curve side = c := by cases side <;> rfl

theorem Settings.curve_withCurve_ne (set : Settings) {side other : Side} (h : other ≠ side) (c : Curve) :
    (set.withCurve side c).curve other = set.curve other := by
  cases side <;> cases other <;> first | rfl | exact absurd rfl h

/-- A put of one setting leaves every other setting as it was. -/
theorem Settings.get_put_ne (set : Settings) {k j : SettingId} (h : j ≠ k) (v : Int) :
    (set.put k v).get j = set.get j := by
  cases k
  case level i =>
    cases j
    case level i' =>
      have : i.val ≠ i'.val := fun he => h (congrArg _ (Fin.ext he.symm))
      simp [Settings.put, Settings.get, this]
    all_goals rfl
  case curveFlow side i =>
    cases j
    case curveFlow side' i' =>
      by_cases hs : side' = side
      · subst hs
        have : i.val ≠ i'.val := fun he => h (congrArg _ (Fin.ext he.symm))
        simp [Settings.put, Settings.get, this]
      · simp [Settings.put, Settings.get, Settings.curve_withCurve_ne _ hs]
    case curveSpeed side' i' =>
      by_cases hs : side' = side
      · subst hs
        simp [Settings.put, Settings.get]
      · simp [Settings.put, Settings.get, Settings.curve_withCurve_ne _ hs]
    all_goals cases side <;> rfl
  case curveSpeed side i =>
    cases j
    case curveSpeed side' i' =>
      by_cases hs : side' = side
      · subst hs
        have : i.val ≠ i'.val := fun he => h (congrArg _ (Fin.ext he.symm))
        simp [Settings.put, Settings.get, this]
      · simp [Settings.put, Settings.get, Settings.curve_withCurve_ne _ hs]
    case curveFlow side' i' =>
      by_cases hs : side' = side
      · subst hs
        simp [Settings.put, Settings.get]
      · simp [Settings.put, Settings.get, Settings.curve_withCurve_ne _ hs]
    all_goals cases side <;> rfl
  case permission k c =>
    cases j
    case permission k' c' =>
      have : (permissionIndex k c).val ≠ (permissionIndex k' c').val := fun he => by
        obtain ⟨rfl, rfl⟩ := permissionIndex_injective (Fin.ext he.symm)
        exact h rfl
      simp [Settings.put, Settings.get, Settings.allows, this]
    all_goals rfl
  all_goals cases j <;> first | rfl | exact absurd rfl h

theorem flagValue_ne_zero {v : Int} (h : v = 0 ∨ v = 1) : flagValue (v != 0) = v := by
  rcases h with rfl | rfl <;> rfl

/-- A fixed flag holds its value, whatever its place in the table (R134). -/
theorem Settings.allows_fixed (set : Settings) {k : RequestKind} {c : PrivilegeClass} {b : Bool}
    (h : fixedFlag k c = some b) : set.allows k c = b := by
  simp [Settings.allows, h]

/-- A value that its range admits reads back as it was put, the poll list without its bit 0. -/
theorem Settings.get_put_self (set : Settings) {k : SettingId} {v : Int} (h : (set.range k).1 ≤ v ∧ v ≤ (set.range k).2) :
    (set.put k v).get k = normalValue k v := by
  obtain ⟨hlo, hhi⟩ := h
  cases k
  case defaultBaseLevel =>
    simp only [Settings.range] at hlo hhi
    simp only [Settings.put, Settings.get, normalValue]
    omega
  case frostBaseLimit => rfl
  case frostEnable => rfl
  case seasonObserve =>
    simp only [Settings.range] at hlo hhi
    exact flagValue_ne_zero (by omega)
  case counterSnapshot =>
    simp only [Settings.range] at hlo hhi
    exact flagValue_ne_zero (by omega)
  case pollList => rfl
  case permission k c =>
    simp only [Settings.range] at hlo hhi
    simp only [Settings.put, Settings.get, normalValue, Settings.allows]
    cases hf : fixedFlag k c with
    | some b =>
      simp only [hf] at hlo hhi
      exact le_antisymm hlo hhi
    | none =>
      simp only [hf] at hlo hhi
      simpa using flagValue_ne_zero (by omega)
  all_goals
    simp only [Settings.range] at hlo hhi
    simp [Settings.put, Settings.get, normalValue]
    omega

/-! ## What a record must meet, in plain terms -/

/-- The limits that tie settings to each other (R188): Qmax is at least twice Qmin, and the ratings, the thresholds and
both columns of each curve ascend. -/
structure Settings.Linked (set : Settings) : Prop where
  flows : 2 * set.qmin ≤ set.qmax
  derates : set.derateBlocked ≤ set.derateLoaded
  thresholds : set.loadedPct < set.blockedPct
  curveFlows : ∀ (side : Side) (i : Nat) (h : i + 1 < 8), (set.curve side).flows[i] < (set.curve side).flows[i + 1]
  curveSpeeds : ∀ (side : Side) (i : Nat) (h : i + 1 < 8), (set.curve side).speeds[i] < (set.curve side).speeds[i + 1]

/-- The value of a setting lies in its own range. -/
def Settings.InRange (set : Settings) (id : SettingId) : Prop :=
  (set.range id).1 ≤ set.get id ∧ set.get id ≤ (set.range id).2

/-- A column ascends exactly when each point lies between its neighbours. -/
theorem between_of_ascending {v : Vector Nat 8} (h : ∀ (i : Nat) (hi : i + 1 < 8), v[i] < v[i + 1]) (top : Nat) (i : Fin 8)
    (htop : v[i] ≤ top) : (betweenNeighbours v top i).1 ≤ v[i] ∧ (v[i] : Int) ≤ (betweenNeighbours v top i).2 := by
  obtain ⟨i, hi⟩ := i
  unfold betweenNeighbours
  dsimp only at htop ⊢
  constructor
  · split
    · rename_i hpos
      have := h (i - 1) (by omega)
      simp only [show i - 1 + 1 = i by omega] at this
      simp only [Fin.getElem_fin]
      omega
    · simp
  · split
    · rename_i hlt
      have := h i hlt
      simp only [Fin.getElem_fin]
      omega
    · simpa using htop

theorem ascending_of_between {v : Vector Nat 8} {top : Nat}
    (h : ∀ i : Fin 8, (betweenNeighbours v top i).1 ≤ v[i]) (i : Nat) (hi : i + 1 < 8) : v[i] < v[i + 1] := by
  have := h ⟨i + 1, hi⟩
  simp only [betweenNeighbours, Nat.add_one_sub_one, Nat.succ_pos, dif_pos, Fin.getElem_fin] at this
  omega

/-- Legal: every value in its own range, the linked settings in order, and no address 0 (R188, 12.5). -/
theorem Settings.legal_iff (set : Settings) :
    set.Legal ↔ (∀ id, set.InRange id) ∧ set.Linked ∧ set.listed 0 = false := by
  constructor
  · rintro ⟨hadmits, hlist⟩
    refine ⟨fun id => ⟨(hadmits id).1, (hadmits id).2.1⟩, ⟨?_, ?_, ?_, ?_, ?_⟩, hlist⟩
    · obtain ⟨-, -, hlo, -⟩ := hadmits .qmax
      exact Int.ofNat_le.1 hlo
    · obtain ⟨-, -, -, hhi⟩ := hadmits .derateBlocked
      exact Int.ofNat_le.1 hhi
    · obtain ⟨-, -, hlo, -⟩ := hadmits .blockedPct
      exact Int.ofNat_le.1 hlo
    · exact fun side => ascending_of_between fun i => (hadmits (.curveFlow side i)).2.2.1
    · exact fun side => ascending_of_between fun i => (hadmits (.curveSpeed side i)).2.2.1
  · rintro ⟨hrange, hlinked, hlist⟩
    obtain ⟨hflows, hderates, hpct, hcurveFlows, hcurveSpeeds⟩ := hlinked
    refine ⟨fun id => ⟨(hrange id).1, (hrange id).2, ?_⟩, hlist⟩
    have hid := hrange id
    cases id
    case curveFlow side i =>
      exact between_of_ascending (hcurveFlows side) 400 i (Int.ofNat_le.1 hid.2)
    case curveSpeed side i =>
      exact between_of_ascending (hcurveSpeeds side) 6000 i (Int.ofNat_le.1 hid.2)
    case qmin => simp only [Settings.InRange, Settings.range, Settings.crossLimits, Settings.get] at *; omega
    case qmax => simp only [Settings.InRange, Settings.range, Settings.crossLimits, Settings.get] at *; omega
    case derateBlocked => simp only [Settings.InRange, Settings.range, Settings.crossLimits, Settings.get] at *; omega
    case derateLoaded => simp only [Settings.InRange, Settings.range, Settings.crossLimits, Settings.get] at *; omega
    case blockedPct => simp only [Settings.InRange, Settings.range, Settings.crossLimits, Settings.get] at *; omega
    case loadedPct => simp only [Settings.InRange, Settings.range, Settings.crossLimits, Settings.get] at *; omega
    all_goals exact hid

theorem Settings.flag_inRange {b : Bool} : (0 : Int) ≤ flagValue b ∧ flagValue b ≤ 1 := by cases b <;> decide

/-- A permission flag is always in range, a fixed one at its value. -/
theorem Settings.permission_inRange (set : Settings) (k : RequestKind) (c : PrivilegeClass) :
    set.InRange (.permission k c) := by
  unfold Settings.InRange Settings.range Settings.get
  dsimp only
  split
  · rename_i b hf
    rw [set.allows_fixed hf]
    exact ⟨le_rfl, le_rfl⟩
  · exact Settings.flag_inRange

theorem Settings.factory_legal : Settings.factory.Legal := by
  refine Settings.factory.legal_iff.2 ⟨fun id => ?_, ⟨by decide, by decide, by decide, ?_, ?_⟩, by decide⟩
  · cases id
    case permission k c => exact Settings.permission_inRange _ k c
    case level i => unfold Settings.InRange; revert i; decide
    case curveFlow side i => unfold Settings.InRange; revert i; cases side <;> decide
    case curveSpeed side i => unfold Settings.InRange; revert i; cases side <;> decide
    all_goals unfold Settings.InRange; decide
  · have hascend : ∀ (side : Side) (j : Fin 7),
        (Settings.factory.curve side).flows[j.val] < (Settings.factory.curve side).flows[j.val + 1] := by
      rintro (_ | _) <;> decide
    exact fun side i h => hascend side ⟨i, by omega⟩
  · have hascend : ∀ (side : Side) (j : Fin 7),
        (Settings.factory.curve side).speeds[j.val] < (Settings.factory.curve side).speeds[j.val + 1] := by
      rintro (_ | _) <;> decide
    exact fun side i h => hascend side ⟨i, by omega⟩

/-! ## A clamped write keeps the record legal -/

/-- A clamp that has somewhere to go brings the value there. -/
theorem clampTo_mem {r : Int × Int} (h : r.1 ≤ r.2) (v : Int) : r.1 ≤ clampTo r v ∧ clampTo r v ≤ r.2 := by
  unfold clampTo
  omega

/-- The own range and the cross-field limits of a setting in a legal record both allow its clamped value. -/
theorem Settings.Legal.clampValue_admitted {set : Settings} (h : set.Legal) (k : SettingId) (v : Int) :
    ((set.range k).1 ≤ set.clampValue k v ∧ set.clampValue k v ≤ (set.range k).2) ∧
    (set.crossLimits k).1 ≤ set.clampValue k v ∧ set.clampValue k v ≤ (set.crossLimits k).2 := by
  obtain ⟨hadmits, -⟩ := h
  obtain ⟨hrlo, hrhi, hclo, hchi⟩ := hadmits k
  have hcross := clampTo_mem (hclo.trans hchi) (clampTo (set.range k) v)
  have hrange := clampTo_mem (hrlo.trans hrhi) v
  refine ⟨?_, hcross⟩
  unfold Settings.clampValue clampTo at *
  omega

/-- A range depends on Qmin and Qmax alone. -/
theorem Settings.range_congr {a b : Settings} (hmin : a.qmin = b.qmin) (hmax : a.qmax = b.qmax) (id : SettingId) :
    a.range id = b.range id := by
  cases id <;> simp [Settings.range, hmin, hmax]

theorem Settings.qmin_put {set : Settings} {k : SettingId} (h : k ≠ .qmin) (v : Int) : (set.put k v).qmin = set.qmin :=
  Int.ofNat_inj.1 (set.get_put_ne (j := .qmin) h.symm v)

theorem Settings.qmax_put {set : Settings} {k : SettingId} (h : k ≠ .qmax) (v : Int) : (set.put k v).qmax = set.qmax :=
  Int.ofNat_inj.1 (set.get_put_ne (j := .qmax) h.symm v)

theorem pollBits_zero (v : Int) : (BitVec.ofInt 16 v &&& 0xFFFE).getLsbD 0 = false := by
  rw [BitVec.getLsbD_and]
  simp

theorem Settings.listed_zero_put {set : Settings} (h : set.listed 0 = false) (k : SettingId) (v : Int) :
    (set.put k v).listed 0 = false := by
  cases k
  case pollList => exact pollBits_zero v
  case curveFlow side _ => cases side <;> exact h
  case curveSpeed side _ => cases side <;> exact h
  all_goals exact h

/-- Two settings that a put leaves alone keep their order. -/
theorem Settings.Linked.congr {a b : Settings} (h : a.Linked)
    (hscalar : ∀ id ∈ [SettingId.qmin, .qmax, .derateBlocked, .derateLoaded, .loadedPct, .blockedPct], b.get id = a.get id)
    (hcurve : ∀ side, b.curve side = a.curve side) : b.Linked := by
  obtain ⟨hflows, hderates, hpct, hcurveFlows, hcurveSpeeds⟩ := h
  simp only [List.mem_cons, List.not_mem_nil, or_false, forall_eq_or_imp, forall_eq, Settings.get, Nat.cast_inj] at hscalar
  obtain ⟨h1, h2, h3, h4, h5, h6⟩ := hscalar
  refine ⟨by omega, by omega, by omega, ?_, ?_⟩
  · intro side; rw [hcurve]; exact hcurveFlows side
  · intro side; rw [hcurve]; exact hcurveSpeeds side

/-- An ascending column stays so when one point takes a value between its neighbours. -/
theorem ascending_set {v : Vector Nat 8} (h : ∀ (i : Nat) (hi : i + 1 < 8), v[i] < v[i + 1]) {top : Nat} {i : Fin 8} {x : Int}
    (hx : (betweenNeighbours v top i).1 ≤ x ∧ x ≤ (betweenNeighbours v top i).2) (j : Nat) (hj : j + 1 < 8) :
    (v.set i.val x.toNat i.isLt)[j] < (v.set i.val x.toNat i.isLt)[j + 1] := by
  obtain ⟨i, hi⟩ := i
  have hstep := h j hj
  unfold betweenNeighbours at hx
  simp only [Vector.getElem_set]
  dsimp only at hx
  split
  · subst_vars
    rw [if_neg (by omega)]
    simp only [hj, dif_pos] at hx
    omega
  · split
    · subst_vars
      simp only [Nat.add_one_sub_one, Nat.succ_pos, dif_pos] at hx
      omega
    · exact hstep

/-- A value that the cross-field limits allow keeps the linked settings in order (R188). -/
theorem Settings.Linked.put {set : Settings} (h : set.Linked) {k : SettingId} {v : Int}
    (hcross : (set.crossLimits k).1 ≤ v ∧ v ≤ (set.crossLimits k).2) : (set.put k v).Linked := by
  have hall := h
  obtain ⟨hflows, hderates, hpct, hcurveFlows, hcurveSpeeds⟩ := h
  have hsame : ∀ id, id ≠ k → (set.put k v).get id = set.get id := fun id hid => set.get_put_ne hid v
  obtain ⟨hlo, hhi⟩ := hcross
  cases k
  case qmin =>
    simp only [Settings.crossLimits] at hlo hhi
    exact ⟨by simp only [Settings.put]; omega, hderates, hpct, hcurveFlows, hcurveSpeeds⟩
  case qmax =>
    simp only [Settings.crossLimits] at hlo hhi
    exact ⟨by simp only [Settings.put]; omega, hderates, hpct, hcurveFlows, hcurveSpeeds⟩
  case derateBlocked =>
    simp only [Settings.crossLimits] at hlo hhi
    exact ⟨hflows, by simp only [Settings.put]; omega, hpct, hcurveFlows, hcurveSpeeds⟩
  case derateLoaded =>
    simp only [Settings.crossLimits] at hlo hhi
    exact ⟨hflows, by simp only [Settings.put]; omega, hpct, hcurveFlows, hcurveSpeeds⟩
  case loadedPct =>
    simp only [Settings.crossLimits] at hlo hhi
    exact ⟨hflows, hderates, by simp only [Settings.put]; omega, hcurveFlows, hcurveSpeeds⟩
  case blockedPct =>
    simp only [Settings.crossLimits] at hlo hhi
    exact ⟨hflows, hderates, by simp only [Settings.put]; omega, hcurveFlows, hcurveSpeeds⟩
  case curveFlow side i =>
    have hset := ascending_set (hcurveFlows side) ⟨hlo, hhi⟩
    refine ⟨?_, ?_, ?_, fun other => ?_, fun other => ?_⟩
    · cases side <;> exact hflows
    · cases side <;> exact hderates
    · cases side <;> exact hpct
    · by_cases ho : other = side
      · subst ho; simpa only [Settings.put, Settings.curve_withCurve_self] using hset
      · simpa only [Settings.put, Settings.curve_withCurve_ne _ ho] using hcurveFlows other
    · by_cases ho : other = side
      · subst ho; simpa only [Settings.put, Settings.curve_withCurve_self] using hcurveSpeeds other
      · simpa only [Settings.put, Settings.curve_withCurve_ne _ ho] using hcurveSpeeds other
  case curveSpeed side i =>
    have hset := ascending_set (hcurveSpeeds side) ⟨hlo, hhi⟩
    refine ⟨?_, ?_, ?_, fun other => ?_, fun other => ?_⟩
    · cases side <;> exact hflows
    · cases side <;> exact hderates
    · cases side <;> exact hpct
    · by_cases ho : other = side
      · subst ho; simpa only [Settings.put, Settings.curve_withCurve_self] using hcurveFlows other
      · simpa only [Settings.put, Settings.curve_withCurve_ne _ ho] using hcurveFlows other
    · by_cases ho : other = side
      · subst ho; simpa only [Settings.put, Settings.curve_withCurve_self] using hset
      · simpa only [Settings.put, Settings.curve_withCurve_ne _ ho] using hcurveSpeeds other
  all_goals exact hall.congr (fun id hid => hsame id (by rintro rfl; simp at hid)) fun side => by cases side <;> rfl

/-- A value that both limits of its setting allow, put in a legal record, leaves every range met but those of the flows
that a new Qmin or Qmax carries along. -/
theorem Settings.inRange_put {set : Settings} (h : ∀ id, set.InRange id) {k : SettingId} {v : Int}
    (hrange : (set.range k).1 ≤ v ∧ v ≤ (set.range k).2) {id : SettingId}
    (hkeeps : (set.put k v).range id = set.range id) : (set.put k v).InRange id := by
  unfold Settings.InRange
  rw [hkeeps]
  by_cases hid : id = k
  · subst hid
    rw [set.get_put_self hrange]
    unfold normalValue
    split
    · simp only [Settings.range]
      have := BitVec.le_toInt (BitVec.ofInt 16 v &&& 0xFFFE)
      have := BitVec.toInt_lt (x := BitVec.ofInt 16 v &&& 0xFFFE)
      omega
    · exact hrange
  · rw [set.get_put_ne hid]
    exact h id

/-- The flows that a new Qmin or Qmax carries along (R188). -/
def SettingId.carried : SettingId → Bool
  | .level _ | .defrostExtract | .unbalancedCeiling => true
  | _ => false

theorem Settings.get_carryFlows_ne (set : Settings) {id : SettingId} (h : id.carried = false) :
    set.carryFlows.get id = set.get id := by
  cases id <;> first | rfl | exact nomatch h

theorem Settings.get_carryFlows (set : Settings) {id : SettingId} (h : id.carried = true) :
    set.carryFlows.get id = clampTo (set.qmin, set.qmax) (set.get id) := by
  have hclamp : ∀ q : Nat, (clampFlow set.qmin set.qmax q : Int) = clampTo (set.qmin, set.qmax) q := fun q => by
    unfold clampFlow clampTo; omega
  cases id
  case level i => simpa [Settings.carryFlows, Settings.get] using hclamp _
  case defrostExtract => exact hclamp _
  case unbalancedCeiling => exact hclamp _
  all_goals exact nomatch h

theorem SettingId.range_carried {id : SettingId} (h : id.carried = true) (set : Settings) :
    set.range id = ((set.qmin : Int), (set.qmax : Int)) := by
  cases id <;> first | rfl | exact nomatch h

theorem SettingId.range_not_carried {id : SettingId} (h : id.carried = false) (a b : Settings) :
    a.range id = b.range id := by
  cases id <;> first | rfl | exact nomatch h

/-- Carrying the flows along brings a record that is legal but for them within its limits. -/
theorem Settings.legal_carryFlows {set : Settings} (hrange : ∀ id, id.carried = false → set.InRange id)
    (hlinked : set.Linked) (hlist : set.listed 0 = false) : set.carryFlows.Legal := by
  refine set.carryFlows.legal_iff.2 ⟨fun id => ?_, ⟨hlinked.1, hlinked.2, hlinked.3, hlinked.4, hlinked.5⟩, hlist⟩
  unfold Settings.InRange
  cases hid : id.carried with
  | false =>
    rw [set.get_carryFlows_ne hid, SettingId.range_not_carried hid _ set]
    exact hrange id hid
  | true =>
    rw [set.get_carryFlows hid, SettingId.range_carried hid]
    refine clampTo_mem ?_ _
    have := hlinked.flows
    show (set.qmin : Int) ≤ set.qmax
    omega

/-- A clamped write keeps the record legal (R187, R188). -/
theorem Settings.Legal.write {set : Settings} (h : set.Legal) (k : SettingId) (v : Int) :
    (set.write k (set.clampValue k v)).Legal := by
  obtain ⟨hrange, hcross⟩ := h.clampValue_admitted k v
  obtain ⟨hranges, hlinked, hlist⟩ := set.legal_iff.1 h
  have hlinked' := hlinked.put hcross
  have hlist' := Settings.listed_zero_put hlist k (set.clampValue k v)
  by_cases hmin : k = .qmin
  · subst hmin
    exact Settings.legal_carryFlows
      (fun id hid => Settings.inRange_put hranges hrange (SettingId.range_not_carried hid _ _)) hlinked' hlist'
  by_cases hmax : k = .qmax
  · subst hmax
    exact Settings.legal_carryFlows
      (fun id hid => Settings.inRange_put hranges hrange (SettingId.range_not_carried hid _ _)) hlinked' hlist'
  have hput : set.write k (set.clampValue k v) = set.put k (set.clampValue k v) := by
    unfold Settings.write
    split <;> first | rfl | contradiction
  rw [hput]
  exact (Settings.legal_iff _).2 ⟨fun id => Settings.inRange_put hranges hrange
    (Settings.range_congr (Settings.qmin_put hmin _) (Settings.qmax_put hmax _) id), hlinked', hlist'⟩

/-- A write reaches no other setting than its own and the flows it carries along. -/
theorem Settings.get_write_ne (set : Settings) {k id : SettingId} (h : id ≠ k) (hcarried : id.carried = false) (v : Int) :
    (set.write k v).get id = set.get id := by
  unfold Settings.write
  split
  · rw [Settings.get_carryFlows_ne _ hcarried, Settings.get_put_ne _ h]
  · rw [Settings.get_carryFlows_ne _ hcarried, Settings.get_put_ne _ h]
  · exact Settings.get_put_ne _ h v

end Sys2Proof.Machine

namespace Sys2Proof.Machine

/-! ## The frost record -/

/-- The windows and the history are within their bounds (4.1, R76). -/
def FrostRecord.Bounded (r : FrostRecord) : Prop :=
  r.window.length ≤ 6 ∧ r.history.length ≤ 4 ∧ ∀ a ∈ r.history, a < 3600

/-- A record that shows neither a defrost nor a hold. -/
def FrostRecord.Resting (r : FrostRecord) : Prop :=
  r.Bounded ∧ r.origin = none ∧ r.defrostElapsed = none ∧ r.holdElapsed = none

section
variable {r : FrostRecord} {m : Nat}

theorem FrostRecord.Coherent.bounded (h : r.Coherent m) : r.Bounded := by
  obtain ⟨-, hw, hl, ha, -⟩ := h
  exact ⟨hw, hl, ha⟩

/-- Outside DEFROST and FROST_HOLD the record rests. -/
theorem FrostRecord.Coherent.resting (h : r.Coherent m) (hd : r.state ≠ .defrost) (hh : r.state ≠ .frostHold) :
    r.Resting := by
  obtain ⟨-, -, -, -, horigin, helapsed, hhold⟩ := id h
  exact ⟨h.bounded, by simpa [hd] using horigin, by simpa [hd] using helapsed, by simpa [hh] using hhold⟩

/-- A record that rests, in a state that does, with the fraction of that state. -/
theorem FrostRecord.Resting.coherent (h : r.Resting) (hd : r.state ≠ .defrost) (hh : r.state ≠ .frostHold)
    (hfits : r.FractionFits m) : r.Coherent m := by
  obtain ⟨⟨hw, hl, ha⟩, horigin, helapsed, hhold⟩ := h
  exact ⟨hfits, hw, hl, ha, by simp [horigin, hd], by simp [helapsed, hd], by simp [hhold, hh]⟩

theorem FrostRecord.Bounded.cleared (h : r.Bounded) : ({ r with window := [] } : FrostRecord).Bounded :=
  ⟨Nat.zero_le 6, h.2⟩

/-- A defrost that ends leaves the record at rest. -/
theorem FrostRecord.Coherent.endDefrost (h : r.Coherent m) (hh : r.state ≠ .frostHold) : (endDefrost r).Resting := by
  obtain ⟨-, -, -, -, -, -, hhold⟩ := id h
  exact ⟨h.bounded, rfl, rfl, by simpa [Machine.endDefrost, hh] using hhold⟩

/-- A hold that ends leaves the record at rest. -/
theorem FrostRecord.Coherent.freed (h : r.Coherent m) (hd : r.state ≠ .defrost) :
    ({ r with holdElapsed := none, holdEntryOda := none } : FrostRecord).Resting := by
  obtain ⟨-, -, -, -, horigin, helapsed, -⟩ := id h
  exact ⟨h.bounded, by simpa [hd] using horigin, by simpa [hd] using helapsed, rfl⟩

theorem FrostRecord.Resting.enterInactive (h : r.Resting) : (enterInactive r).Coherent m := by
  obtain ⟨hb, hrest⟩ := h
  exact FrostRecord.Resting.coherent ⟨hb.cleared, hrest⟩ nofun nofun ⟨rfl, rfl⟩

theorem FrostRecord.Resting.enterDefrost (h : r.Resting) (origin : DefrostOrigin) :
    (enterDefrost origin r).Coherent m := by
  obtain ⟨⟨-, hl, ha⟩, -, -, hhold⟩ := h
  refine ⟨⟨rfl, rfl⟩, Nat.zero_le 6, length_pushWindow_le 4 0 r.history, fun a hmem => ?_, by simp [Machine.enterDefrost],
    by simp [Machine.enterDefrost], by simp [Machine.enterDefrost, hhold]⟩
  rcases mem_of_mem_pushWindow hmem with hmem | rfl
  · exact ha a hmem
  · decide

/-- Stage 1 keeps every bound (R69). -/
theorem FrostRecord.Coherent.age (h : r.Coherent m) : r.age.Coherent m := by
  obtain ⟨hfits, hw, hl, -, horigin, helapsed, hhold⟩ := h
  refine ⟨hfits, hw, ?_, fun a ha => ?_, horigin, ?_, ?_⟩
  · exact (List.length_filter_le _ _).trans (by simpa using hl)
  · exact of_decide_eq_true (List.mem_filter.1 ha).2
  · simpa [FrostRecord.age] using helapsed
  · simpa [FrostRecord.age] using hhold

/-- What PROTECT, RECOVER and FALLBACK keep of the fraction and the proportion (R85). -/
def FrostRecord.Reduced (r : FrostRecord) (m : Nat) : Prop :=
  m ≤ r.fraction ∧ r.fraction ≤ 1000 ∧ r.proportion % 200 = 0 ∧ r.proportion ≤ 1000

/-- Outside DEFROST and FROST_HOLD the fraction is reduced at most to its least value. -/
theorem FrostRecord.FractionFits.reduced (h : r.FractionFits m) (hm : m ≤ 1000) (hd : r.state ≠ .defrost)
    (hh : r.state ≠ .frostHold) : r.Reduced m := by
  unfold FrostRecord.FractionFits at h
  unfold FrostRecord.Reduced
  split at h
  all_goals first | exact h | (obtain ⟨hf, hp⟩ := h; omega) | contradiction

/-- A change of min_fraction taken at its arrival keeps the record (R86). -/
theorem FrostRecord.Coherent.raiseFraction (h : r.Coherent m) {m' : Nat} (hm' : m' ≤ 1000) :
    (r.raiseFraction m').Coherent m' := by
  obtain ⟨hfits, hrest⟩ := h
  have hother : (r.raiseFraction m').FractionFits m' := by
    rw [FrostRecord.raiseFraction_eq]
    unfold FrostRecord.FractionFits at hfits ⊢
    dsimp only
    cases hs : r.state <;> simp only [hs] at hfits ⊢ <;> simp
    all_goals first | exact hfits | omega
  rw [FrostRecord.raiseFraction_eq] at hother ⊢
  exact ⟨hother, hrest⟩

end

namespace FrostInputs

variable {i : FrostInputs} {r : FrostRecord}

theorem enterWatch_coherent (h : r.Resting) : (i.enterWatch r).Coherent i.set.minFraction :=
  FrostRecord.Resting.coherent h nofun nofun ⟨rfl, rfl⟩

theorem enterHold_coherent (h : r.Resting) : (i.enterHold r).Coherent i.set.minFraction := by
  obtain ⟨⟨-, hl, ha⟩, horigin, helapsed, -⟩ := h
  exact ⟨⟨rfl, rfl⟩, Nat.zero_le 6, hl, ha, by simp [enterHold, horigin], by simp [enterHold, helapsed],
    by simp [enterHold]⟩

theorem enterRecover_coherent (hm : i.set.minFraction ≤ 1000) (h : r.Resting) :
    (i.enterRecover r).Coherent i.set.minFraction := by
  obtain ⟨hb, hrest⟩ := h
  exact FrostRecord.Resting.coherent ⟨hb.cleared, hrest⟩ nofun nofun ⟨le_rfl, hm, rfl, Nat.zero_le _⟩

theorem tableFraction_le (hm : i.set.minFraction ≤ 1000) : i.tableFraction ≤ 1000 := by
  unfold tableFraction
  repeat' split
  all_goals omega

theorem fallbackValues_coherent (hm : i.set.minFraction ≤ 1000) (h : r.Resting) (hs : r.state = .fallback) :
    (i.fallbackValues r).Coherent i.set.minFraction := by
  refine FrostRecord.Resting.coherent h (by simp [fallbackValues, hs]) (by simp [fallbackValues, hs]) ?_
  have htable := i.tableFraction_le hm
  unfold FrostRecord.FractionFits
  simp only [fallbackValues, hs]
  split <;> omega

theorem enterFallback_coherent (hm : i.set.minFraction ≤ 1000) (h : r.Resting) :
    (i.enterFallback r).Coherent i.set.minFraction := by
  obtain ⟨hb, hrest⟩ := h
  exact i.fallbackValues_coherent (r := { r with state := .fallback, window := [] }) hm ⟨hb.cleared, hrest⟩ rfl

theorem pause_coherent (h : (endDefrost r).Resting) : (i.pause r).Coherent i.set.minFraction := by
  obtain ⟨hb, hrest⟩ := h
  have hstate : (i.pause r).state = .inactive ∨ (i.pause r).state = .watch := by
    unfold pause
    dsimp only
    split
    · exact .inl rfl
    · exact .inr rfl
  refine FrostRecord.Resting.coherent ⟨hb.cleared, hrest⟩ ?_ ?_ ?_
  · rcases hstate with h | h <;> simp [h]
  · rcases hstate with h | h <;> simp [h]
  · unfold FrostRecord.FractionFits
    rcases hstate with h | h <;> rw [h] <;> exact ⟨rfl, rfl⟩

/-- An escalation step from PROTECT (R74, R76, R79). -/
theorem escalate_coherent (h : r.Resting) (hs : r.state = .protect) (hr : r.Reduced i.set.minFraction) :
    (i.escalate r).record.Coherent i.set.minFraction := by
  obtain ⟨hlo, hhi, hmod, hprop⟩ := hr
  unfold escalate
  split
  · rename_i hheat
    simp only [Bool.and_eq_true, decide_eq_true_eq] at hheat
    refine FrostRecord.Resting.coherent h (by simp [hs]) (by simp [hs]) ?_
    unfold FrostRecord.FractionFits
    simp only [quietly_record, hs]
    omega
  split
  · refine FrostRecord.Resting.coherent h (by simp [hs]) (by simp [hs]) ?_
    unfold FrostRecord.FractionFits
    simp only [quietly_record, hs]
    omega
  · unfold defrostDue
    split
    · exact i.enterHold_coherent h
    · exact h.enterDefrost .normal

theorem enterProtect_coherent (h : r.Resting) (hr : r.Reduced i.set.minFraction) :
    (i.enterProtect r).record.Coherent i.set.minFraction :=
  i.escalate_coherent (r := { r with state := .protect }) h rfl hr

theorem stepBack_coherent (h : r.Resting) (hs : r.state = .protect) (hr : r.Reduced i.set.minFraction) :
    (i.stepBack r).Coherent i.set.minFraction := by
  obtain ⟨hlo, hhi, hmod, hprop⟩ := hr
  have hstep : i.stepBack r = if (i.steppedBack r).fraction = 1000 ∧ (i.steppedBack r).proportion = 0 then
      i.enterWatch (i.steppedBack r) else i.steppedBack r := by
    simp [stepBack, steppedBack, hs]
  have hrest : (i.steppedBack r).Resting := by
    obtain ⟨⟨hw, hl, ha⟩, horigin, helapsed, hhold⟩ := h
    unfold steppedBack
    split <;> exact ⟨⟨hw, hl, ha⟩, horigin, helapsed, hhold⟩
  rw [hstep]
  split
  · exact i.enterWatch_coherent hrest
  · refine hrest.coherent (by simp [hs]) (by simp [hs]) ?_
    unfold FrostRecord.FractionFits
    simp only [steppedBack_state, hs]
    unfold steppedBack raised
    split <;> dsimp only <;> omega

/-- Stage 5 keeps the record, by the rule of its state. -/
theorem rule_coherent (hm : i.set.minFraction ≤ 1000) (h : r.Coherent i.set.minFraction) :
    (i.rule r).record.Coherent i.set.minFraction := by
  have hrest := h.resting
  have hreduced := fun hd hh => FrostRecord.FractionFits.reduced h.1 hm hd hh
  unfold rule
  split
  case h_1 hs =>
    specialize hrest (by simp [hs]) (by simp [hs])
    unfold ruleInactive
    split
    · split
      · exact i.enterFallback_coherent hm hrest
      · exact i.enterWatch_coherent hrest
    · exact h
  case h_2 hs =>
    specialize hrest (by simp [hs]) (by simp [hs])
    unfold ruleWatch
    split
    · exact i.enterProtect_coherent hrest (hreduced (by simp [hs]) (by simp [hs]))
    split
    · exact hrest.enterInactive
    · exact h
  case h_3 hs =>
    specialize hrest (by simp [hs]) (by simp [hs])
    specialize hreduced (by simp [hs]) (by simp [hs])
    unfold ruleProtect
    split
    · exact i.escalate_coherent hrest hs hreduced
    split
    · exact i.stepBack_coherent hrest hs hreduced
    · exact h
  case h_4 hs =>
    have hended := h.endDefrost (by simp [hs])
    split
    · unfold ruleDefrostFallback
      split
      · exact h
      split
      · exact hended.enterInactive
      split
      · obtain ⟨hb, hend⟩ := hended
        exact i.enterWatch_coherent (r := { endDefrost r with window := [], fallbackCycle := none }) ⟨hb.cleared, hend⟩
      · exact i.enterFallback_coherent hm hended
    · unfold ruleDefrostNormal
      dsimp only
      split
      · exact i.enterRecover_coherent hm hended
      split
      · exact i.enterFallback_coherent hm hended
      split
      · exact i.enterRecover_coherent hm hended
      · exact h
  case h_5 hs =>
    specialize hrest (by simp [hs]) (by simp [hs])
    obtain ⟨hlo, hhi, hmod, hprop⟩ := hreduced (by simp [hs]) (by simp [hs])
    unfold ruleRecover
    split
    · exact i.enterProtect_coherent hrest ⟨hlo, hhi, hmod, hprop⟩
    split
    · dsimp only
      rw [quietly_record]
      split
      · exact i.enterWatch_coherent (r := { r with fraction := i.raised r }) hrest
      · refine FrostRecord.Resting.coherent hrest (by simp [hs]) (by simp [hs]) ?_
        unfold FrostRecord.FractionFits raised
        simp only [hs]
        omega
    · exact h
  case h_6 hs =>
    unfold ruleHold
    split
    · have hfreed := h.freed (by simp [hs])
      dsimp only
      split
      · obtain ⟨hb, -, -, hhold⟩ := hfreed
        exact i.pause_coherent ⟨hb, rfl, rfl, hhold⟩
      split
      · exact i.enterFallback_coherent hm hfreed
      · exact i.enterRecover_coherent hm hfreed
    · exact h
  case h_7 hs =>
    specialize hrest (by simp [hs]) (by simp [hs])
    unfold ruleFallback
    split
    · exact hrest.enterInactive
    split
    · obtain ⟨hb, hother⟩ := hrest
      exact i.enterWatch_coherent (r := { r with window := [], fallbackCycle := none }) ⟨hb.cleared, hother⟩
    · have hvalues := i.fallbackValues_coherent hm hrest hs
      dsimp only
      split
      · split
        · exact hvalues
        split
        · exact FrostRecord.Resting.enterDefrost (r := { i.fallbackValues r with fallbackCycle := some 0 }) hrest .fallback
        · exact hvalues
      · exact hvalues

/-- An evaluation keeps the frost record (R69). -/
theorem evaluate_coherent (hm : i.set.minFraction ≤ 1000) (h : r.Coherent i.set.minFraction) :
    (i.evaluate r).record.Coherent i.set.minFraction := by
  have hage : (i.withLimit r.age).Coherent i.set.minFraction := h.age
  unfold evaluate
  generalize i.withLimit r.age = q at hage
  unfold stages
  split
  · rename_i hpause
    have hs : q.state ≠ .frostHold := by simpa using (Bool.and_eq_true_iff.1 hpause).2
    exact i.pause_coherent (hage.endDefrost hs)
  dsimp only
  split
  · rename_i hjudges
    have hd : q.state ≠ .defrost ∧ q.state ≠ .frostHold := by
      have : q.state.judgesMarks = true := hjudges
      constructor <;> rintro hs <;> simp [hs, FrostState.judgesMarks] at this
    split
    · exact i.enterFallback_coherent (r := { q with paused := false }) hm (hage.resting hd.1 hd.2)
    · obtain ⟨hfits, -, hrest⟩ := hage
      exact i.rule_coherent hm ⟨hfits, length_pushWindow_le 6 _ q.window, hrest⟩
  · exact i.rule_coherent (r := { q with paused := false }) hm hage

end FrostInputs

/-! ## O57: the record and the frost guard -/

section
variable {s t : State}

theorem State.RecordLegal.congr (h : s.RecordLegal) (hworking : t.ss.working = s.ss.working)
    (hstored : t.ss.stored.contents = s.ss.stored.contents) : t.RecordLegal := by
  unfold State.RecordLegal
  rw [hworking, hstored]
  exact h

theorem StoredSettings.load_legal {r : StoredSettings} (h : r.contents.Legal) : r.load.Legal := by
  unfold StoredSettings.load
  split
  · exact h
  · exact Settings.factory_legal

/-- What the settings store does beside a write keeps both records legal (R189). -/
theorem SettingsStore.Move.legal {ss ss' : SettingsStore} (hmove : ss.Move ss') (hworking : ss.working.Legal)
    (hstored : ss.stored.contents.Legal) : ss'.working.Legal ∧ ss'.stored.contents.Legal := by
  cases hmove with
  | stored => exact ⟨hworking, hworking⟩
  | _ => exact ⟨hworking, hstored⟩

/-- The settings store after the load of a state (R191). -/
theorem State.load_ss (s : State) :
    (((s.loaded.reportLoad s.ss.stored.passes).recomputeCeiling).setPhase .running).ss = s.ss.load := by
  simp [State.loaded]

theorem State.Move.record_legal {stray : Prop} (hmove : s.Move stray t) (h : s.RecordLegal) : t.RecordLegal := by
  obtain ⟨hworking, hstored⟩ := id h
  cases hmove with
  | masterReset =>
    refine ⟨Settings.factory_legal, ?_⟩
    show (ite _ _ _ : StoredSettings).contents.Legal
    split <;> exact hstored
  | load =>
    unfold State.RecordLegal
    rw [State.load_ss]
    exact ⟨StoredSettings.load_legal hstored, hstored⟩
  | store ss hss => exact hss.legal hworking hstored
  | record k v => exact ⟨hworking.write k v, hstored⟩
  | planRecord k v => exact ⟨hworking.write k v, hstored⟩
  | fractionRecord set v hset => exact ⟨hset ▸ hworking.write .minFraction v, hstored⟩
  | saveBegins => exact h
  | _ => exact h.congr (by simp) (by simp)

theorem Settings.Legal.minFraction_le {set : Settings} (h : set.Legal) : set.minFraction ≤ 1000 := by
  obtain ⟨-, hhi, -⟩ := h.1 .minFraction
  simp only [Settings.range, Settings.get] at hhi
  omega

theorem State.FrostCoherent.congr (h : s.FrostCoherent) (hfg : t.fg = s.fg)
    (hmin : t.settings.minFraction = s.settings.minFraction) : t.FrostCoherent := by
  unfold State.FrostCoherent
  rw [hfg, hmin]
  exact h

theorem Settings.minFraction_write (set : Settings) {k : SettingId} (h : k ≠ .minFraction) (v : Int) :
    (set.write k v).minFraction = set.minFraction :=
  Int.ofNat_inj.1 (set.get_write_ne (id := .minFraction) h.symm rfl v)

theorem State.Move.frost_coherent {stray : Prop} (hmove : s.Move stray t) (hlegal : s.RecordLegal) (h : s.FrostCoherent) :
    t.FrostCoherent := by
  have hmin : s.settings.minFraction ≤ 1000 := hlegal.1.minFraction_le
  cases hmove with
  | masterReset =>
    exact FrostRecord.Resting.coherent ⟨⟨Nat.zero_le 6, Nat.zero_le 4, nofun⟩, rfl, rfl, rfl⟩ nofun nofun ⟨rfl, rfl⟩
  | load =>
    have hfg : (((s.loaded.reportLoad s.ss.stored.passes).recomputeCeiling).setPhase .running).fg =
        s.fg.load s.ss.stored.load := by simp [s.loaded_fg_eq]
    unfold State.FrostCoherent State.settings
    rw [State.load_ss, hfg]
    exact FrostRecord.Coherent.raiseFraction h (StoredSettings.load_legal hlegal.2).minFraction_le
  | frost r hr =>
    have hevaluated : (s.frostInputs.evaluate s.fg).record.Coherent s.settings.minFraction :=
      s.frostInputs.evaluate_coherent hmin h
    subst hr
    exact hevaluated
  | store ss hss =>
    refine h.congr rfl ?_
    cases hss <;> rfl
  | record k v _ hk => exact h.congr rfl (Settings.minFraction_write _ hk _)
  | planRecord k v hk => exact h.congr rfl (Settings.minFraction_write _ (by rintro rfl; exact nomatch hk) _)
  | fractionRecord set v hset =>
    exact FrostRecord.Coherent.raiseFraction h (hset ▸ (hlegal.1.write .minFraction v).minFraction_le)
  | saveBegins => exact h
  | _ => exact h.congr (by simp) (by simp [State.settings])

end

/-- Settles O57: every move of `State.Move` keeps the record, and with a legal record the frost guard. -/
theorem stepsKeepTheRecordAndTheFrostGuard : Obligations.StepsKeepTheRecordAndTheFrostGuard := by
  unfold Obligations.StepsKeepTheRecordAndTheFrostGuard
  intro s t hlegal hstep
  refine ⟨step_keeps (P := State.RecordLegal) (fun _ h => h) (fun hmove h => hmove.record_legal h) hlegal hstep, fun hfrost => ?_⟩
  have hboth := step_keeps (P := fun s => s.RecordLegal ∧ s.FrostCoherent) (fun _ h => h)
    (fun hmove h => ⟨hmove.record_legal h.1, hmove.frost_coherent h.1 h.2⟩) ⟨hlegal, hfrost⟩ hstep
  exact hboth.2

end Sys2Proof.Machine

namespace Sys2Proof.Machine

/-! ## The general part of the demand table -/

theorem DemandTable.Coherent.shrink {t : DemandTable} (h : t.Coherent) {l : List Entry} (hl : l.Sublist t.general) :
    ({ t with general := l } : DemandTable).Coherent := by
  obtain ⟨hlen, hnodup, hmem, hK, hB⟩ := h
  exact ⟨hl.length_le.trans hlen, hnodup.sublist (hl.map _), fun e he => hmem e (hl.subset he), hK, hB⟩

theorem Entry.hasPair_iff_pair {e : Entry} {src : Source} {kind : DemandKind} :
    e.hasPair src kind = true ↔ e.pair = (src, kind) := by
  simp [Entry.hasPair, Entry.pair]

/-- An eviction removes exactly one entry (R24). -/
theorem evictOldest_sublist {l rest : List Entry} (h : evictOldest l = some rest) :
    rest.Sublist l ∧ rest.length + 1 = l.length := by
  induction l generalizing rest with
  | nil => exact nomatch h
  | cons e l ih =>
    unfold evictOldest at h
    split at h
    · obtain ⟨rest', hrest', rfl⟩ := Option.map_eq_some_iff.1 h
      obtain ⟨hsub, hlen⟩ := ih hrest'
      exact ⟨hsub.cons_cons e, by simp [← hlen]⟩
    · cases h
      exact ⟨List.sublist_cons_self e l, rfl⟩

/-- What stays before a demand that finds a place: entries of the general part, fewer than 12, none of its pair (R22, R23,
R24). -/
theorem DemandTable.place_rest {t : DemandTable} {src : Source} {kind : DemandKind} {rest : List Entry}
    (hlen : t.general.length ≤ 12) (h : t.place src kind = .placed rest ∨ t.place src kind = .evicting rest) :
    rest.Sublist t.general ∧ rest.length < 12 ∧ ∀ e ∈ rest, e.pair ≠ (src, kind) := by
  unfold DemandTable.place at h
  split at h
  · rename_i hany
    obtain rfl : t.general.filter (fun e => !e.hasPair src kind) = rest := by simpa using h
    obtain ⟨e, he, hpair⟩ := List.any_eq_true.1 hany
    refine ⟨List.filter_sublist, ?_, fun x hx => ?_⟩
    · refine Nat.lt_of_lt_of_le (List.length_filter_lt_length_iff_exists.2 ⟨e, he, ?_⟩) hlen
      simp [hpair]
    · have := (List.mem_filter.1 hx).2
      rw [Ne, ← Entry.hasPair_iff_pair]
      simpa using this
  · rename_i hany
    have hnone : ∀ e ∈ t.general, e.pair ≠ (src, kind) := fun e he => by
      rw [Ne, ← Entry.hasPair_iff_pair]
      exact fun hp => hany (List.any_eq_true.2 ⟨e, he, hp⟩)
    split at h
    · rename_i hfree
      obtain rfl : t.general = rest := by simpa using h
      exact ⟨List.Sublist.refl _, hfree, hnone⟩
    split at h
    · split at h
      · rename_i rest' hevict
        obtain rfl : rest' = rest := by simpa using h
        obtain ⟨hsub, hl⟩ := evictOldest_sublist hevict
        exact ⟨hsub, by omega, fun e he => hnone e (hsub.subset he)⟩
      · simp at h
    · simp at h

/-- A demand that finds a place keeps the table (R17, R20, R22). -/
theorem DemandTable.Coherent.append {t : DemandTable} (h : t.Coherent) {src : Master} {kind : DemandKind} {rest : List Entry}
    (hplace : t.place (.master src) kind = .placed rest ∨ t.place (.master src) kind = .evicting rest) (flow : Nat)
    {remaining : Option Nat} (hdur : ∀ d, remaining = some d → 1 ≤ d ∧ d ≤ 14400) :
    (t.append rest (.master src) kind flow remaining).Coherent := by
  obtain ⟨hsub, hlt, hpair⟩ := DemandTable.place_rest h.1 hplace
  obtain ⟨hlen, hnodup, hmem, hK, hB⟩ := h.shrink hsub
  refine ⟨?_, ?_, fun e he => ?_, hK, hB⟩
  · simpa [DemandTable.append] using hlt
  · simp only [DemandTable.append, List.map_append, List.map_cons, List.map_nil]
    refine List.nodup_append.2 ⟨hnodup, List.nodup_singleton _, ?_⟩
    intro a ha b hb hab
    obtain ⟨e, he, rfl⟩ := List.mem_map.1 ha
    exact hpair e he (hab.trans (List.mem_singleton.1 hb))
  · rcases List.mem_append.1 he with he | he
    · exact hmem e he
    · rw [List.mem_singleton.1 he]
      exact ⟨⟨src, rfl⟩, hdur⟩

/-! ## Expiry -/

theorem Entry.tick_eq_some {e e' : Entry} (h : e.tick = some e') :
    e'.source = e.source ∧ e'.kind = e.kind ∧ e'.flow = e.flow ∧
    ∀ d, e'.remaining = some d → e.remaining = some (d + 1) ∧ 1 ≤ d := by
  unfold Entry.tick at h
  split at h
  · rename_i hnone
    cases h
    exact ⟨rfl, rfl, rfl, fun d hd => nomatch hnone.symm.trans hd⟩
  · rename_i n hn
    split at h
    · exact nomatch h
    · cases h
      refine ⟨rfl, rfl, rfl, fun d hd => ?_⟩
      obtain rfl : n - 1 = d := by simpa using hd
      exact ⟨by rw [hn]; congr; omega, by omega⟩

theorem Entry.tick_of_none {e : Entry} (h : e.remaining = none) : e.tick = some e := by
  unfold Entry.tick
  rw [h]

/-- The pairs that an expiry leaves are among those before it. -/
theorem tick_pairs_sublist (l : List Entry) : ((l.filterMap Entry.tick).map Entry.pair).Sublist (l.map Entry.pair) := by
  induction l with
  | nil => exact List.Sublist.refl _
  | cons e l ih =>
    cases ht : e.tick with
    | none =>
      rw [List.filterMap_cons_none ht]
      exact ih.cons _
    | some e' =>
      obtain ⟨hsource, hkind, -⟩ := Entry.tick_eq_some ht
      rw [List.filterMap_cons_some ht, List.map_cons, List.map_cons]
      have : e'.pair = e.pair := by simp [Entry.pair, hsource, hkind]
      rw [this]
      exact ih.cons_cons _

theorem DemandTable.Coherent.expire {t : DemandTable} (h : t.Coherent) : t.expire.Coherent := by
  obtain ⟨hlen, hnodup, hmem, hK, hB⟩ := h
  have hcord : ∀ {o : Option Entry} {c : Cord}, (∀ e, o = some e → e.OfCord c) →
      ∀ e, o.bind Entry.tick = some e → e.OfCord c := by
    intro o c ho e he
    obtain ⟨x, hx, htick⟩ := Option.bind_eq_some_iff.1 he
    obtain ⟨hsource, hkind, -⟩ := Entry.tick_eq_some htick
    unfold Entry.OfCord
    rw [hsource, hkind]
    exact ho x hx
  refine ⟨(List.length_filterMap_le _ _).trans hlen, hnodup.sublist (tick_pairs_sublist _), fun e he => ?_, hcord hK, hcord hB⟩
  obtain ⟨x, hx, htick⟩ := List.mem_filterMap.1 he
  obtain ⟨hsource, -, -, hremaining⟩ := Entry.tick_eq_some htick
  obtain ⟨hmaster, hdur⟩ := hmem x hx
  refine ⟨hsource ▸ hmaster, fun d hd => ?_⟩
  obtain ⟨hx', hpos⟩ := hremaining d hd
  have := hdur _ hx'
  omega

theorem SlotNames.expire {v : SlotView} {e : Option Entry} (h : SlotNames v e) : SlotNames v (e.bind Entry.tick) := by
  unfold SlotNames at *
  split at h
  · subst h; rfl
  all_goals
    obtain ⟨x, rfl, hsource, hkind, hremaining⟩ := h
    exact ⟨x, by simp [Entry.tick_of_none hremaining], hsource, hkind, hremaining⟩

/-! ## The resolution reads sources, kinds and flows -/

/-- An entry without what the resolution does not read. -/
def Entry.bare (e : Entry) : Entry := { e with remaining := none, seq := 0 }

theorem flowsOf_bare (l : List Entry) (kind : DemandKind) : flowsOf (l.map Entry.bare) kind = flowsOf l kind := by
  simp only [flowsOf, List.filter_map, List.map_map]
  rfl

theorem resolveKinds_bare (l : List Entry) (r : Running) : resolveKinds (l.map Entry.bare) r = resolveKinds l r := by
  simp only [resolveKinds, flowsOf_bare]

theorem baseEntry_bare (l : List Entry) :
    baseEntry (l.map Entry.bare) = (baseEntry l).map fun p => (p.1, p.2.bare) := by
  have hfind : ∀ m : Master, (l.map Entry.bare).find? (fun e => e.hasPair (.master m) .base) =
      (l.find? fun e => e.hasPair (.master m) .base).map Entry.bare := fun m => by
    rw [List.find?_map]
    rfl
  have hsome : ∀ ms : List Master,
      (ms.findSome? fun m => ((l.map Entry.bare).find? fun e => e.hasPair (.master m) .base).map fun e => (m, e)) =
      (ms.findSome? fun m => (l.find? fun e => e.hasPair (.master m) .base).map fun e => (m, e)).map
        fun p => (p.1, p.2.bare) := by
    intro ms
    induction ms with
    | nil => rfl
    | cons m ms ih =>
      rw [List.findSome?_cons, List.findSome?_cons, hfind]
      cases l.find? fun e => e.hasPair (.master m) .base with
      | none => exact ih
      | some e => rfl
  exact hsome _

theorem resolveBase_bare (set : Settings) (l : List Entry) : resolveBase set (l.map Entry.bare) = resolveBase set l := by
  unfold resolveBase
  rw [baseEntry_bare]
  cases baseEntry l with
  | none => rfl
  | some p => rfl

/-- The settings that the plan and the ceiling are formed from agree. -/
def Settings.SamePlan (a b : Settings) : Prop :=
  a.qmin = b.qmin ∧ a.qmax = b.qmax ∧ a.levels = b.levels ∧ a.defaultBaseLevel = b.defaultBaseLevel ∧
  a.derateLoaded = b.derateLoaded ∧ a.derateBlocked = b.derateBlocked

/-- Tables whose entries agree in source, kind and flow resolve to the same plan. -/
theorem resolve_congr {a b : Settings} (hset : a.SamePlan b) {t u : DemandTable}
    (h : t.entries.map Entry.bare = u.entries.map Entry.bare) (changing : Bool) (ceiling : Nat) :
    resolve a t changing ceiling = resolve b u changing ceiling := by
  obtain ⟨hmin, -, hlevels, hbase, -⟩ := hset
  have hstop : (t.entries.any fun e => e.kind == .shutdown) = u.entries.any fun e => e.kind == .shutdown := by
    have := congrArg (fun l => l.any fun e : Entry => e.kind == .shutdown) h
    simpa [List.any_map, Function.comp_def, Entry.bare] using this
  have hresolved : resolveBase a t.entries = resolveBase b u.entries := by
    rw [← resolveBase_bare a, ← resolveBase_bare b, h]
    simp [resolveBase, Settings.levelFlow, hlevels, hbase]
  have hkinds : ∀ r, resolveKinds t.entries r = resolveKinds u.entries r := fun r => by
    rw [← resolveKinds_bare t.entries, ← resolveKinds_bare u.entries, h]
  simp only [resolve, hstop, hresolved, hkinds, hmin]

theorem contribution_congr {a b : Settings} (hset : a.SamePlan b) {f g : FilterRecord} (hstate : f.state = g.state)
    (hsaved : f.saved = g.saved) : contribution a f = contribution b g := by
  obtain ⟨-, hmax, -, -, hloaded, hblocked⟩ := hset
  unfold contribution stateCeiling
  rw [hstate, hsaved, hmax, hloaded, hblocked]

theorem DemandTable.entries_expire (t : DemandTable) : t.expire.entries = t.entries.filterMap Entry.tick := by
  have hslot : ∀ o : Option Entry, (o.bind Entry.tick).toList = o.toList.filterMap Entry.tick := fun o => by
    cases o with
    | none => rfl
    | some e => cases h : e.tick <;> simp [h]
  simp only [DemandTable.entries, DemandTable.expire, List.filterMap_append, hslot]

/-- An expiry that removes nothing leaves every entry but for its duration. -/
theorem tick_bare {l : List Entry} (h : (l.filterMap Entry.tick).length = l.length) :
    (l.filterMap Entry.tick).map Entry.bare = l.map Entry.bare := by
  induction l with
  | nil => rfl
  | cons e l ih =>
    cases ht : e.tick with
    | none =>
      rw [List.filterMap_cons_none ht, List.length_cons] at h
      have := List.length_filterMap_le Entry.tick l
      omega
    | some e' =>
      rw [List.filterMap_cons_some ht] at h ⊢
      obtain ⟨hsource, hkind, hflow, -⟩ := Entry.tick_eq_some ht
      rw [List.map_cons, List.map_cons, ih (by simpa using h)]
      congr 1
      simp [Entry.bare, hsource, hkind, hflow]

/-! ## O59: the table -/

section
variable {s t : State}

theorem State.TableCoherent.congr (h : s.TableCoherent) (htable : t.da.table = s.da.table) (hhm : t.hm = s.hm) :
    t.TableCoherent := by
  unfold State.TableCoherent
  rw [htable, hhm]
  exact h

theorem State.handOn_table (s : State) (side : Side) (f : FilterRecord) :
    (s.handOn side f).da.table = s.da.table := by
  unfold State.handOn
  dsimp only
  split <;> rfl

theorem State.abandonOwned_table (s : State) (side : Side) (m : Master) :
    (s.abandonOwned side m).da.table = s.da.table := by
  unfold State.abandonOwned State.abandonChange
  split
  · dsimp only
    split
    · exact State.handOn_table _ _ _
    · rfl
  · rfl

/-- A loss removes the entries of the partner's source (R162). -/
theorem State.reportLoss_table (s : State) (i : Fin 15) :
    (s.reportLoss i).da.table = (match slotMaster i with
      | none => s.da.table
      | some m => s.da.table.without m) := by
  have hmaster : ∀ m, (((s.removeMaster m).abandonOwned .supply m).abandonOwned .extract m).da.table =
      s.da.table.without m := fun m => by
    rw [State.abandonOwned_table, State.abandonOwned_table, State.removeMaster_table]
  unfold State.reportLoss
  dsimp only
  cases slotMaster i with
  | none => split <;> split <;> rfl
  | some m => split <;> split <;> exact hmaster m

/-- A loss changes the acceptance records alone of the humidity manager (R111). -/
theorem State.reportLoss_hm (s : State) (i : Fin 15) :
    (s.reportLoss i).hm = { s.hm with stations := (s.reportLoss i).hm.stations } := by
  have hmaster : ∀ m, (((s.removeMaster m).abandonOwned .supply m).abandonOwned .extract m).hm = s.hm := fun m => by simp
  unfold State.reportLoss
  dsimp only
  cases slotMaster i with
  | none => split <;> split <;> rfl
  | some m =>
    dsimp only
    split <;> split <;> simp [State.clearStation, State.withStation]

theorem State.TableCoherent.withTable (h : s.TableCoherent) {u : DemandTable} (hu : u.Coherent)
    (hslot : u.humidity = s.da.table.humidity) : (s.withTable u).TableCoherent := by
  obtain ⟨-, hnames, hrest⟩ := h
  exact ⟨hu, hslot ▸ hnames, hrest⟩

theorem DemandTable.Coherent.withSlot {t : DemandTable} (h : t.Coherent) (c : Cord) {o : Option Entry}
    (ho : ∀ e, o = some e → e.OfCord c) : (t.withSlot (.cord c) o).Coherent := by
  obtain ⟨hlen, hnodup, hmem, hK, hB⟩ := h
  cases c
  · exact ⟨hlen, hnodup, hmem, ho, hB⟩
  · exact ⟨hlen, hnodup, hmem, hK, ho⟩

theorem DemandTable.withSlot_cord_humidity (t : DemandTable) (c : Cord) (o : Option Entry) :
    (t.withSlot (.cord c) o).humidity = t.humidity := by
  cases c <;> rfl

theorem State.removeKind_general (s : State) (kind : DemandKind) :
    (s.removeKind .humidity kind).da.table = { s.da.table with humidity := (s.removeKind .humidity kind).da.table.humidity } := by
  unfold State.removeKind
  split
  · split <;> rfl
  · rfl

/-- A removal of the kind that the slot names empties it (R26, R105). -/
theorem State.removeKind_empties {kind : DemandKind} {e : Entry} (h : s.da.table.humidity = some e) (hkind : e.kind = kind) :
    (s.removeKind .humidity kind).da.table.humidity = none := by
  unfold State.removeKind
  have : s.da.table.slot .humidity = some e := h
  rw [this]
  dsimp only
  rw [if_pos hkind]
  rfl

theorem State.Move.table_coherent {stray : Prop} (hmove : s.Move stray t) (h : s.TableCoherent) : t.TableCoherent := by
  obtain ⟨htable, hnames, hboost, hrise, hdry⟩ := id h
  cases hmove with
  | masterReset =>
    exact ⟨⟨Nat.zero_le _, List.nodup_nil, nofun, nofun, nofun⟩, rfl, by simp [State.masterReset, Humidity.initial],
      Nat.zero_le _, Nat.zero_le _⟩
  | demand src kind rest flow remaining hplace hdur => exact h.withTable (htable.append hplace flow hdur) rfl
  | shrink l hl => exact h.withTable (htable.shrink hl) rfl
  | cordPosts c kind flow remaining hkind =>
    refine h.withTable ?_ (DemandTable.withSlot_cord_humidity _ c _)
    exact (htable.withSlot c (o := some _) fun e he => by cases he; exact ⟨rfl, hkind⟩)
  | cordEmpties c => exact h.withTable (htable.withSlot c nofun) (DemandTable.withSlot_cord_humidity _ c _)
  | expireKeeping => exact ⟨htable.expire, hnames.expire, hboost, hrise, hdry⟩
  | expire => exact ⟨htable.expire, hnames.expire, hboost, hrise, hdry⟩
  | climate x hview hb hr hd =>
    refine ⟨htable, ?_, ?_, hr hrise, hd hdry⟩
    · show SlotNames x.view _
      rw [hview]
      exact hnames
    · show x.boostElapsed.isSome = true ↔ x.view = .boost
      rcases hb with hb | ⟨hv, hs⟩
      · rw [hb, hview]; exact hboost
      · simp [hv, hs]
  | boostStarts => exact ⟨htable, ⟨_, rfl, rfl, rfl, rfl⟩, by simp, hrise, hdry⟩
  | dryStarts hv =>
    refine ⟨htable, ⟨_, rfl, rfl, rfl, rfl⟩, ?_, hrise, hdry⟩
    simpa [hv] using hboost
  | boostEnds hv =>
    unfold SlotNames at hnames
    rw [hv] at hnames
    obtain ⟨e, he, -, hkind, -⟩ := hnames
    unfold State.TableCoherent
    rw [State.removeKind_general, State.removeKind_hm]
    exact ⟨htable, State.removeKind_empties he hkind, by simp, hrise, hdry⟩
  | dryEnds hv =>
    unfold SlotNames at hnames
    rw [hv] at hnames
    obtain ⟨e, he, -, hkind, -⟩ := hnames
    unfold State.TableCoherent
    rw [State.removeKind_general, State.removeKind_hm]
    refine ⟨htable, State.removeKind_empties he hkind, ?_, hrise, Nat.zero_le _⟩
    simpa [hv] using hboost
  | lost i =>
    unfold State.TableCoherent State.enterLost
    rw [State.reportLoss_table, State.reportLoss_hm]
    refine ⟨?_, ?_, hboost, hrise, hdry⟩
    · cases slotMaster i
      · exact htable
      · exact htable.shrink List.filter_sublist
    · cases slotMaster i <;> exact hnames
  | station n a => exact ⟨htable, hnames, hboost, hrise, hdry⟩
  | load => exact h.congr (by simp [State.recomputeCeiling_da]) (by simp)
  | assessed => exact h.congr (State.handOn_table _ _ _) (by simp)
  | changeBegins => exact h.congr (State.handOn_table _ _ _) (by simp)
  | changeAbandoned => exact h.congr (State.handOn_table _ _ _) (by simp)
  | changeDone => exact h.congr (State.handOn_table _ _ _) (by simp)
  | controlStep => exact h.congr (by simp) (by simp)
  | slot => exact h
  | _ => exact h.congr rfl rfl

/-! ## O59: the plan -/

/-- What the plan is formed from agrees. -/
theorem State.PlanCurrent.congr (h : s.PlanCurrent) (hphase : t.phase = s.phase) (hda : t.da = s.da)
    (hset : t.settings.SamePlan s.settings)
    (hfm : ∀ side, (t.fm.filter side).state = (s.fm.filter side).state ∧
      contribution t.settings (t.fm.filter side) = contribution s.settings (s.fm.filter side)) : t.PlanCurrent := by
  intro hrun
  obtain ⟨hsupply, hextract, hplan⟩ := h (hphase ▸ hrun)
  have hchanging : t.fm.changing = s.fm.changing := by
    unfold Filters.changing
    rw [show t.fm.supply.state = s.fm.supply.state from (hfm .supply).1,
      show t.fm.extract.state = s.fm.extract.state from (hfm .extract).1]
  have hs : contribution t.settings t.fm.supply = contribution s.settings s.fm.supply := (hfm .supply).2
  have he : contribution t.settings t.fm.extract = contribution s.settings s.fm.extract := (hfm .extract).2
  refine ⟨by rw [hda, hs, hsupply], by rw [hda, he, hextract], ?_⟩
  unfold State.planNow at hplan ⊢
  rw [hda, hchanging, hs, he, hplan]
  exact (resolve_congr hset rfl _ _).symm

theorem Settings.SamePlan.refl (set : Settings) : set.SamePlan set := ⟨rfl, rfl, rfl, rfl, rfl, rfl⟩

/-- Records that agree in all that the plan reads. -/
theorem State.PlanCurrent.same (h : s.PlanCurrent) (hphase : t.phase = s.phase) (hda : t.da = s.da) (hfm : t.fm = s.fm)
    (hset : t.ss.working = s.ss.working) : t.PlanCurrent := by
  have hsettings : t.settings = s.settings := hset
  refine h.congr hphase hda (hsettings ▸ Settings.SamePlan.refl _) fun side => ?_
  rw [hfm, hsettings]
  exact ⟨rfl, rfl⟩

/-- Another table with its plan (R34). -/
theorem State.PlanCurrent.withTable (h : s.PlanCurrent) (u : DemandTable) : (s.withTable u).PlanCurrent := by
  intro hrun
  obtain ⟨hsupply, hextract, -⟩ := h hrun
  refine ⟨hsupply, hextract, ?_⟩
  rw [State.withTable_da, hsupply, hextract]
  rfl

theorem State.PlanCurrent.removeKind (h : s.PlanCurrent) (src : Source) (kind : DemandKind) :
    (s.removeKind src kind).PlanCurrent := by
  unfold State.removeKind
  split
  · split
    · exact h.withTable _
    · exact h
  · exact h

/-- A recomputation leaves the plan current, whatever stood before (R33, R34). -/
theorem State.recomputeCeiling_current (s : State) : s.recomputeCeiling.PlanCurrent := fun _ => ⟨rfl, rfl, rfl⟩

/-- A record handed on keeps the plan, if one of the same state has the same contribution. -/
theorem State.PlanCurrent.handOn (h : s.PlanCurrent) (side : Side) {f : FilterRecord}
    (hf : f.state = (s.fm.filter side).state → contribution s.settings f = contribution s.settings (s.fm.filter side)) :
    (s.handOn side f).PlanCurrent := by
  by_cases hstate : f.state = (s.fm.filter side).state
  · rw [State.handOn_of_eq hstate]
    refine h.congr rfl rfl (Settings.SamePlan.refl _) fun x => ?_
    by_cases hx : x = side
    · subst hx
      simpa [State.settings, hstate] using hf hstate
    · simp [Filters.filter_withFilter_ne _ hx, State.settings]
  · rw [State.handOn_of_ne hstate]
    exact State.recomputeCeiling_current _

/-- A change of no effect on the state returns a filter that was CHANGING into CHANGING: both count in full (R33). -/
theorem contribution_abandon {set : Settings} {f : FilterRecord} (h : f.state = .changing)
    (hstate : f.abandon.state = f.state) : contribution set f.abandon = contribution set f := by
  have hsaved : f.saved.getD .learning = .changing := hstate.trans h
  have hnew : f.abandon.state = .changing := hstate.trans h
  unfold contribution
  rw [hnew, h]
  show stateCeiling set .learning = stateCeiling set (f.saved.getD .learning)
  rw [hsaved]
  rfl

theorem FilterRecord.limitTested_saved (f : FilterRecord) (set : Settings) : (f.limitTested set).saved = f.saved := by
  unfold FilterRecord.limitTested
  split
  · split <;> rfl
  · split <;> rfl
  · rfl

theorem FilterRecord.mark_saved (f : FilterRecord) (set : Settings) (dp norm : Nat) : (f.mark set dp norm).saved = f.saved := by
  unfold FilterRecord.mark
  split
  · rfl
  · split <;> rfl

theorem FilterRecord.assess_saved (f : FilterRecord) (set : Settings) (ready : Bool) (pressure : Channel) :
    (f.assess set ready pressure).saved = f.saved := by
  have hvalid : ∀ norm, (f.assessValid set norm).saved = f.saved := fun norm => by
    unfold FilterRecord.assessValid
    split
    · unfold FilterRecord.learn
      split
      · rfl
      · exact FilterRecord.limitTested_saved _ _
    · unfold FilterRecord.assessAbsent
      split <;> rfl
    · rfl
    · unfold FilterRecord.assessGraded
      split
      · rfl
      · exact (FilterRecord.limitTested_saved _ _).trans (FilterRecord.mark_saved _ _ _ _)
  unfold FilterRecord.assess
  split
  · exact hvalid _
  · exact f.limitTested_saved set

theorem State.PlanCurrent.abandonOwned (h : s.PlanCurrent) (side : Side) (m : Master) :
    (s.abandonOwned side m).PlanCurrent := by
  unfold State.abandonOwned State.abandonChange
  split
  · dsimp only
    split
    · rename_i hstate
      exact (h.handOn side (contribution_abandon hstate)).same rfl rfl rfl rfl
    · exact h
  · exact h

theorem State.PlanCurrent.reportLoss (h : s.PlanCurrent) (i : Fin 15) : (s.reportLoss i).PlanCurrent := by
  have hmaster : ∀ m, (((s.removeMaster m).abandonOwned .supply m).abandonOwned .extract m).PlanCurrent := fun m =>
    State.PlanCurrent.abandonOwned (State.PlanCurrent.abandonOwned (h.withTable _) _ _) _ _
  unfold State.reportLoss
  dsimp only
  cases slotMaster i with
  | none => split <;> split <;> exact h.same rfl rfl rfl rfl
  | some m => split <;> split <;> exact (hmaster m).same rfl rfl rfl rfl

/-- A write of a setting that no plan reads (R32, R33). -/
theorem Settings.samePlan_write (set : Settings) {k : SettingId} (h : k.planned = false) (v : Int) :
    (set.write k v).SamePlan set := by
  have hput : set.write k v = set.put k v := by
    cases k <;> first | rfl | exact nomatch h
  have hget : ∀ id : SettingId, id.planned = true → (set.put k v).get id = set.get id := fun id hid =>
    set.get_put_ne (fun he => by rw [he, h] at hid; exact nomatch hid) v
  rw [hput]
  refine ⟨Int.ofNat_inj.1 (hget .qmin rfl), Int.ofNat_inj.1 (hget .qmax rfl), ?_, ?_,
    Int.ofNat_inj.1 (hget .derateLoaded rfl), Int.ofNat_inj.1 (hget .derateBlocked rfl)⟩
  · exact Vector.ext fun i hi => Int.ofNat_inj.1 (hget (.level ⟨i, hi⟩) rfl)
  · exact Fin.ext (Int.ofNat_inj.1 (hget .defaultBaseLevel rfl))

theorem State.Move.plan_current {stray : Prop} (hmove : s.Move stray t) (h : s.PlanCurrent) : t.PlanCurrent := by
  cases hmove with
  | masterReset => exact nofun
  | leaveHold => exact nofun
  | load => exact fun _ => ⟨rfl, rfl, rfl⟩
  | demand => exact h.withTable _
  | shrink => exact h.withTable _
  | cordPosts => exact h.withTable _
  | cordEmpties => exact h.withTable _
  | expire => exact h.withTable _
  | expireKeeping hlen =>
    intro hrun
    obtain ⟨hsupply, hextract, hplan⟩ := h hrun
    refine ⟨hsupply, hextract, hplan.trans ?_⟩
    rw [DemandTable.entries_expire] at hlen
    refine resolve_congr (Settings.SamePlan.refl _) ?_ _ _
    show s.da.table.entries.map _ = s.da.table.expire.entries.map _
    rw [DemandTable.entries_expire, tick_bare hlen]
  | boostStarts => exact (h.withTable _).same rfl rfl rfl rfl
  | dryStarts => exact (h.withTable _).same rfl rfl rfl rfl
  | boostEnds => exact State.PlanCurrent.removeKind (s := s.setHm _) (by exact h.same rfl rfl rfl rfl) _ _
  | dryEnds => exact State.PlanCurrent.removeKind (s := s.setHm _) (by exact h.same rfl rfl rfl rfl) _ _
  | assessed side =>
    exact h.handOn side fun hstate => contribution_congr (Settings.SamePlan.refl _) hstate (FilterRecord.assess_saved _ _ _ _)
  | changeBegins side src hne => exact h.handOn side fun hstate => absurd hstate.symm hne
  | changeAbandoned side hstate => exact h.handOn side (contribution_abandon hstate)
  | changeDone side hstate => exact h.handOn side fun hsame => nomatch hsame.trans hstate
  | changeRenewed side hstate =>
    refine h.congr rfl rfl (Settings.SamePlan.refl _) fun x => ?_
    cases side <;> cases x <;> exact ⟨rfl, rfl⟩
  | filters fm hfm =>
    refine h.congr rfl rfl (Settings.SamePlan.refl _) fun side => ?_
    obtain ⟨hstate, hsaved, -⟩ := hfm side
    exact ⟨hstate, contribution_congr (Settings.SamePlan.refl _) hstate hsaved⟩
  | unitChangesEnd => exact State.recomputeCeiling_current _
  | planRecord => exact State.recomputeCeiling_current _
  | record k v hk =>
    have hset := Settings.samePlan_write s.settings hk (s.settings.clampValue k v)
    exact h.congr rfl rfl hset fun side => ⟨rfl, contribution_congr hset rfl rfl⟩
  | fractionRecord set v hset =>
    have hsame := hset ▸ Settings.samePlan_write s.settings (k := .minFraction) rfl (s.settings.clampValue .minFraction v)
    exact h.congr rfl rfl hsame fun side => ⟨rfl, contribution_congr hsame rfl rfl⟩
  | store ss hss =>
    refine h.same rfl rfl rfl ?_
    cases hss <;> rfl
  | lost i => exact State.PlanCurrent.reportLoss (s := s.withSlot i Slot.lost) (by exact h.same rfl rfl rfl rfl) i
  | controlStep => exact h.same (by simp) (by simp) (by simp) (by simp)
  | _ => exact h.same rfl rfl rfl rfl

end

/-- Settles O59: every move of `State.Move` keeps the table and, where it touches what the plan is formed from, the
plan. -/
theorem stepsKeepTheTableAndThePlan : Obligations.StepsKeepTheTableAndThePlan := by
  unfold Obligations.StepsKeepTheTableAndThePlan
  intro s t htable hplan hstep
  exact ⟨step_keeps (P := State.TableCoherent) (fun _ h => h) (fun hmove h => hmove.table_coherent h) htable hstep,
    step_keeps (P := State.PlanCurrent) (fun _ h => h) (fun hmove h => hmove.plan_current h) hplan hstep⟩

end Sys2Proof.Machine

namespace Sys2Proof.Machine

/-! # Filter changes, LOST partners and the silent port (R17, R123 to R129, R162, R165) -/

section
variable {s t : State}

/-! ## Filter changes (R122 to R129) -/

/-- A filter record that keeps the protocol of another: CHANGING exactly where it is, with its owner, saved state and
deadline. -/
def FilterRecord.SameProtocol (f g : FilterRecord) : Prop :=
  (g.state = .changing ↔ f.state = .changing) ∧ g.saved = f.saved ∧ g.owner = f.owner ∧
    g.deadline.isSome = f.deadline.isSome

theorem FilterRecord.SameProtocol.refl (f : FilterRecord) : f.SameProtocol f := ⟨Iff.rfl, rfl, rfl, rfl⟩

theorem FilterRecord.SameProtocol.trans {f g h : FilterRecord} (hfg : f.SameProtocol g) (hgh : g.SameProtocol h) :
    f.SameProtocol h :=
  ⟨hgh.1.trans hfg.1, hgh.2.1.trans hfg.2.1, hgh.2.2.1.trans hfg.2.2.1, hgh.2.2.2.trans hfg.2.2.2⟩

theorem FilterRecord.SameChange.sameProtocol {f g : FilterRecord} (h : f.SameChange g) : f.SameProtocol g := by
  obtain ⟨hstate, hsaved, howner, hdeadline⟩ := h
  exact ⟨by rw [hstate], hsaved, howner, hdeadline⟩

theorem FilterRecord.Coherent.sameProtocol {f g : FilterRecord} (h : f.Coherent) (hsame : f.SameProtocol g) :
    g.Coherent := by
  obtain ⟨hstate, hsaved, howner, hdeadline⟩ := hsame
  unfold FilterRecord.Coherent
  rw [hstate, hsaved, howner, hdeadline]
  exact h

/-- Another state that is not CHANGING either keeps the protocol. -/
theorem FilterRecord.sameProtocol_of_ne {f g : FilterRecord} (hf : f.state ≠ .changing) (hg : g.state ≠ .changing)
    (hsaved : g.saved = f.saved) (howner : g.owner = f.owner) (hdeadline : g.deadline = f.deadline) :
    f.SameProtocol g :=
  ⟨iff_of_false hg hf, hsaved, howner, by rw [hdeadline]⟩

theorem FilterRecord.limitTested_sameProtocol (f : FilterRecord) (set : Settings) : f.SameProtocol (f.limitTested set) := by
  unfold FilterRecord.limitTested
  split
  case h_1 hstate | h_2 hstate =>
    split
    · exact FilterRecord.sameProtocol_of_ne (by simp [hstate]) nofun rfl rfl rfl
    · exact FilterRecord.SameProtocol.refl f
  case h_3 => exact FilterRecord.SameProtocol.refl f

theorem FilterRecord.mark_sameProtocol (f : FilterRecord) (set : Settings) (dp norm : Nat) :
    f.SameProtocol (f.mark set dp norm) := by
  unfold FilterRecord.mark
  split
  · exact ⟨Iff.rfl, rfl, rfl, rfl⟩
  · split <;> exact ⟨Iff.rfl, rfl, rfl, rfl⟩

theorem FilterRecord.indicated_ne_changing (f : FilterRecord) (set : Settings) (dp norm : Nat) :
    f.indicated set dp norm ≠ .changing := by
  unfold FilterRecord.indicated
  repeat' split
  all_goals exact nofun

theorem FilterState.worse_ne_changing {a b : FilterState} (ha : a ≠ .changing) (hb : b ≠ .changing) :
    a.worse b ≠ .changing := by
  unfold FilterState.worse
  split <;> assumption

theorem FilterRecord.assessGraded_sameProtocol {f : FilterRecord} (hf : f.state ≠ .changing) (set : Settings) (norm : Nat) :
    f.SameProtocol (f.assessGraded set norm) := by
  unfold FilterRecord.assessGraded
  split
  · exact FilterRecord.sameProtocol_of_ne hf nofun rfl rfl rfl
  · obtain ⟨-, hsaved, howner, hdeadline⟩ := f.mark_sameProtocol set (f.dpClean.getD 0) norm
    refine FilterRecord.SameProtocol.trans ?_ (FilterRecord.limitTested_sameProtocol _ set)
    exact ⟨iff_of_false (FilterState.worse_ne_changing hf (FilterRecord.indicated_ne_changing _ _ _ _)) hf, hsaved, howner,
      hdeadline⟩

theorem FilterRecord.assessValid_sameProtocol (f : FilterRecord) (set : Settings) (norm : Nat) :
    f.SameProtocol (f.assessValid set norm) := by
  unfold FilterRecord.assessValid
  split
  case h_1 hstate =>
    have hne : f.state ≠ .changing := by simp [hstate]
    unfold FilterRecord.learn
    split
    · exact FilterRecord.sameProtocol_of_ne hne nofun rfl rfl rfl
    · refine FilterRecord.SameProtocol.trans ?_ (FilterRecord.limitTested_sameProtocol _ set)
      exact FilterRecord.sameProtocol_of_ne hne nofun rfl rfl rfl
  case h_2 hstate =>
    have hne : f.state ≠ .changing := by simp [hstate]
    unfold FilterRecord.assessAbsent
    split
    · exact FilterRecord.SameProtocol.refl f
    · exact FilterRecord.sameProtocol_of_ne hne nofun rfl rfl rfl
  case h_3 => exact FilterRecord.SameProtocol.refl f
  case h_4 hne => exact FilterRecord.assessGraded_sameProtocol hne set norm

/-- An assessment begins and ends no change (R116). -/
theorem FilterRecord.assess_sameProtocol (f : FilterRecord) (set : Settings) (ready : Bool) (pressure : Channel) :
    f.SameProtocol (f.assess set ready pressure) := by
  unfold FilterRecord.assess
  split
  · exact f.assessValid_sameProtocol set _
  · exact f.limitTested_sameProtocol set

theorem FilterRecord.Coherent.beginChange {f : FilterRecord} (hf : f.state ≠ .changing) (src : Master) :
    (f.beginChange src).Coherent := by
  simp [FilterRecord.Coherent, FilterRecord.beginChange, hf]

/-- A record without owner, deadline and saved state is coherent outside CHANGING. -/
theorem FilterRecord.coherent_of_none {f : FilterRecord} (hstate : f.state ≠ .changing) (howner : f.owner = none)
    (hdeadline : f.deadline = none) (hsaved : f.saved = none) : f.Coherent := by
  simp [FilterRecord.Coherent, hstate, howner, hdeadline, hsaved]

theorem FilterRecord.Coherent.abandon {f : FilterRecord} (h : f.Coherent) : f.abandon.Coherent := by
  obtain ⟨-, -, -, hsaved⟩ := h
  refine FilterRecord.coherent_of_none ?_ rfl rfl rfl
  show f.saved.getD .learning ≠ .changing
  cases hs : f.saved with
  | none => exact nofun
  | some x => exact fun hx => hsaved (hs.trans (congrArg some hx))

theorem FilterRecord.Coherent.completeChange (f : FilterRecord) : f.completeChange.Coherent :=
  FilterRecord.coherent_of_none nofun rfl rfl rfl

theorem FilterRecord.Coherent.abandonUnit {f : FilterRecord} (h : f.Coherent) : f.abandonUnit.Coherent := by
  unfold FilterRecord.abandonUnit
  split
  · exact h.abandon
  · exact h

/-- A record loaded stands outside CHANGING, where the stored saved state does (R129). -/
theorem FilterRecord.Coherent.loaded {r : StoredFilter} (h : r.contents.saved ≠ some .changing) :
    (FilterRecord.loaded r.load).Coherent := by
  refine FilterRecord.coherent_of_none ?_ rfl rfl ?_
  · show r.load.state ≠ .changing
    unfold StoredFilter.load
    split
    · dsimp only
      split
      · cases hs : r.contents.saved with
        | none => exact nofun
        | some x => exact fun hx => h (hs.trans (congrArg some hx))
      · assumption
    · exact nofun
  · show r.load.saved = none
    unfold StoredFilter.load
    split <;> rfl

/-- No stored filter record, and none being written, holds CHANGING as its saved state (R128, R129). -/
def SettingsStore.SavesNoChange (ss : SettingsStore) : Prop :=
  ss.storedSupply.contents.saved ≠ some .changing ∧ ss.storedExtract.contents.saved ≠ some .changing ∧
    ∀ r, ss.saving = some r → r.1.contents.saved ≠ some .changing ∧ r.2.contents.saved ≠ some .changing

theorem State.changesCoherent_iff :
    s.ChangesCoherent ↔ (∀ side, (s.fm.filter side).Coherent) ∧ s.ss.SavesNoChange := by
  constructor
  · rintro ⟨hsupply, hextract, hss⟩
    exact ⟨fun side => by cases side <;> assumption, hss⟩
  · rintro ⟨hfm, hss⟩
    exact ⟨hfm .supply, hfm .extract, hss⟩

theorem SettingsStore.Move.savesNoChange {ss x : SettingsStore} (hmove : ss.Move x) (h : ss.SavesNoChange) :
    x.SavesNoChange := by
  obtain ⟨hsupply, hextract, hsaving⟩ := h
  cases hmove with
  | saveEnds r hr =>
    obtain ⟨hfirst, hsecond⟩ := hsaving r hr
    exact ⟨hfirst, hsecond, fun _ hnone => nomatch hnone⟩
  | _ => exact ⟨hsupply, hextract, hsaving⟩

theorem SettingsStore.SavesNoChange.masterReset {ss : SettingsStore} (h : ss.SavesNoChange) (cause : ResetCause)
    (free : Bool) : (ss.masterReset cause free).SavesNoChange := by
  obtain ⟨hsupply, hextract, hsaving⟩ := h
  have hcut : (ss.cutSave free).1.contents.saved ≠ some .changing ∧ (ss.cutSave free).2.contents.saved ≠ some .changing := by
    unfold SettingsStore.cutSave
    split
    · exact ⟨hsupply, hextract⟩
    · rename_i r hr
      obtain ⟨hfirst, hsecond⟩ := hsaving r hr
      split
      · exact ⟨hfirst, hextract⟩
      · exact ⟨hfirst, hsecond⟩
  exact ⟨hcut.1, hcut.2, fun _ hnone => nomatch hnone⟩

theorem FilterCore.atReference_saved (f : FilterCore) (reference qref : Nat) : (f.atReference reference qref).saved = f.saved := by
  unfold FilterCore.atReference
  split <;> rfl

theorem SettingsStore.SavesNoChange.beginSave (h : s.ChangesCoherent) : s.beginSave.ss.SavesNoChange := by
  obtain ⟨hfm, hsupply, hextract, -⟩ := State.changesCoherent_iff.1 h
  refine ⟨hsupply, hextract, fun r hr => ?_⟩
  obtain rfl : (s.savedRecord .supply, s.savedRecord .extract) = r := by simpa [State.beginSave] using hr
  have hrecord : ∀ side, (s.savedRecord side).contents.saved ≠ some .changing := fun side => by
    rw [State.savedRecord, StoredFilter.written, FilterCore.atReference_saved]
    exact (hfm side).2.2.2
  exact ⟨hrecord _, hrecord _⟩

theorem State.ChangesCoherent.congr (h : s.ChangesCoherent) (hfm : t.fm = s.fm) (hss : t.ss.SavesNoChange) :
    t.ChangesCoherent :=
  State.changesCoherent_iff.2 ⟨hfm ▸ (State.changesCoherent_iff.1 h).1, hss⟩

theorem State.ChangesCoherent.same (h : s.ChangesCoherent) (hfm : t.fm = s.fm) (hss : t.ss = s.ss) :
    t.ChangesCoherent :=
  h.congr hfm (hss ▸ (State.changesCoherent_iff.1 h).2)

theorem State.ChangesCoherent.withFilters (h : s.ChangesCoherent) (hfm : ∀ side, (t.fm.filter side).Coherent)
    (hss : t.ss = s.ss) : t.ChangesCoherent :=
  State.changesCoherent_iff.2 ⟨hfm, hss ▸ (State.changesCoherent_iff.1 h).2⟩

theorem Filters.withFilter_coherent {fm : Filters} (h : ∀ side, (fm.filter side).Coherent) {f : FilterRecord}
    (hf : f.Coherent) (side x : Side) : ((fm.withFilter side f).filter x).Coherent := by
  by_cases hx : x = side
  · subst hx; simpa using hf
  · rw [Filters.filter_withFilter_ne fm hx]; exact h x

theorem State.ChangesCoherent.handOn (h : s.ChangesCoherent) (side : Side) {f : FilterRecord} (hf : f.Coherent) :
    (s.handOn side f).ChangesCoherent := by
  refine h.withFilters (fun x => ?_) (by simp)
  rw [State.handOn_fm]
  exact Filters.withFilter_coherent (State.changesCoherent_iff.1 h).1 hf side x

theorem State.ChangesCoherent.filter (h : s.ChangesCoherent) (side : Side) : (s.fm.filter side).Coherent :=
  (State.changesCoherent_iff.1 h).1 side

theorem State.ChangesCoherent.abandonOwned (h : s.ChangesCoherent) (side : Side) (m : Master) :
    (s.abandonOwned side m).ChangesCoherent := by
  unfold State.abandonOwned State.abandonChange
  split
  · dsimp only
    split
    · exact (h.handOn side (h.filter side).abandon).same rfl rfl
    · exact h
  · exact h

/-- The filter changes that a loss abandons (R126). -/
theorem State.reportLoss_fm (s : State) (i : Fin 15) :
    (s.reportLoss i).fm = (match slotMaster i with
      | none => s.fm
      | some m => (((s.removeMaster m).abandonOwned .supply m).abandonOwned .extract m).fm) := by
  unfold State.reportLoss
  dsimp only
  cases slotMaster i with
  | none => split <;> split <;> rfl
  | some m => split <;> split <;> rfl

theorem State.ChangesCoherent.reportLoss (h : s.ChangesCoherent) (i : Fin 15) : (s.reportLoss i).ChangesCoherent := by
  refine h.withFilters ?_ (by simp)
  rw [State.reportLoss_fm]
  cases slotMaster i with
  | none => exact h.filter
  | some m =>
    exact ((State.ChangesCoherent.abandonOwned (s := s.removeMaster m) (by exact h.same rfl rfl) .supply m).abandonOwned
      .extract m).filter

theorem State.Move.changes_coherent {stray : Prop} (hmove : s.Move stray t) (h : s.ChangesCoherent) : t.ChangesCoherent := by
  obtain ⟨hfm, hss⟩ := State.changesCoherent_iff.1 h
  cases hmove with
  | masterReset cause straps pin =>
    refine State.changesCoherent_iff.2 ⟨fun side => ?_, hss.masterReset _ _⟩
    cases side <;> exact FilterRecord.coherent_of_none nofun rfl rfl rfl
  | load =>
    obtain ⟨hsupply, hextract, hsaving⟩ := hss
    refine State.changesCoherent_iff.2 ⟨fun side => ?_, ?_⟩
    · simp only [State.setPhase_fm, State.recomputeCeiling_fm, State.reportLoad_fm]
      cases side
      · exact FilterRecord.Coherent.loaded hsupply
      · exact FilterRecord.Coherent.loaded hextract
    · simp only [State.setPhase_ss, State.recomputeCeiling_ss, State.reportLoad_ss]
      exact ⟨hsupply, hextract, hsaving⟩
  | assessed side set ready pressure =>
    exact h.handOn side ((hfm side).sameProtocol (FilterRecord.assess_sameProtocol _ _ _ _))
  | changeBegins side src hne => exact h.handOn side (FilterRecord.Coherent.beginChange hne src)
  | changeRenewed side hstate =>
    obtain ⟨howner, -, hrest⟩ := hfm side
    refine h.withFilters (fun x => Filters.withFilter_coherent hfm ?_ side x) rfl
    exact ⟨howner, iff_of_true rfl hstate, hrest⟩
  | changeAbandoned side => exact h.handOn side (hfm side).abandon
  | changeDone side => exact h.handOn side (FilterRecord.Coherent.completeChange _)
  | unitChangesEnd =>
    refine h.withFilters (fun side => ?_) rfl
    cases side
    · exact (hfm .supply).abandonUnit
    · exact (hfm .extract).abandonUnit
  | filters fm hsame => exact h.withFilters (fun side => (hfm side).sameProtocol (hsame side).sameProtocol) rfl
  | saveBegins => exact h.congr rfl (SettingsStore.SavesNoChange.beginSave h)
  | store ss hmove => exact h.congr rfl (hmove.savesNoChange hss)
  | lost i => exact State.ChangesCoherent.reportLoss (s := s.withSlot i Slot.lost) (by exact h.same rfl rfl) i
  | record | planRecord | fractionRecord => exact h.congr rfl hss
  | controlStep | boostEnds | dryEnds => exact h.same (by simp) (by simp)
  | _ => exact h.same rfl rfl

/-! ## What a master source holds (R162) -/

theorem State.holdsNothing_iff {m : Master} :
    s.HoldsNothing m ↔
      (∀ e ∈ s.da.table.general, e.source ≠ .master m) ∧ ∀ side, (s.fm.filter side).owner ≠ some m := by
  constructor
  · rintro ⟨hgeneral, hsupply, hextract⟩
    exact ⟨hgeneral, fun side => by cases side <;> assumption⟩
  · rintro ⟨hgeneral, howner⟩
    exact ⟨hgeneral, howner .supply, howner .extract⟩

/-- Fewer entries and fewer owners: who held nothing holds nothing. -/
theorem State.HoldsNothing.mono {m : Master} (h : s.HoldsNothing m)
    (hgeneral : ∀ e ∈ t.da.table.general, e.source = .master m → ∃ e' ∈ s.da.table.general, e'.source = .master m)
    (howner : ∀ side, (t.fm.filter side).owner = some m → (s.fm.filter side).owner = some m) : t.HoldsNothing m := by
  obtain ⟨hs, ho⟩ := State.holdsNothing_iff.1 h
  refine State.holdsNothing_iff.2 ⟨fun e he hsource => ?_, fun side hside => ho side (howner side hside)⟩
  obtain ⟨e', he', hsource'⟩ := hgeneral e he hsource
  exact hs e' he' hsource'

theorem State.HoldsNothing.congr {m : Master} (h : s.HoldsNothing m) (htable : t.da.table.general = s.da.table.general)
    (hfm : t.fm = s.fm) : t.HoldsNothing m :=
  h.mono (fun e he hsource => ⟨e, htable ▸ he, hsource⟩) fun side => by rw [hfm]; exact id

theorem State.HoldsNothing.shrink {m : Master} (h : s.HoldsNothing m)
    (htable : t.da.table.general ⊆ s.da.table.general) (hfm : t.fm = s.fm) : t.HoldsNothing m :=
  h.mono (fun e he hsource => ⟨e, htable he, hsource⟩) fun side => by rw [hfm]; exact id

theorem State.HoldsNothing.handOn {m : Master} (h : s.HoldsNothing m) (side : Side) {f : FilterRecord}
    (hf : f.owner = some m → (s.fm.filter side).owner = some m) : (s.handOn side f).HoldsNothing m := by
  refine h.mono (fun e he hsource => ⟨e, State.handOn_table s side f ▸ he, hsource⟩) fun x hx => ?_
  rw [State.handOn_fm] at hx
  by_cases hside : x = side
  · subst hside; exact hf (by simpa using hx)
  · rwa [Filters.filter_withFilter_ne _ hside] at hx

theorem State.HoldsNothing.abandonOwned {m : Master} (h : s.HoldsNothing m) (side : Side) (n : Master) :
    (s.abandonOwned side n).HoldsNothing m := by
  unfold State.abandonOwned State.abandonChange
  split
  · dsimp only
    split
    · exact (State.HoldsNothing.handOn (f := (s.fm.filter side).abandon) h side fun hnone => nomatch hnone).congr rfl rfl
    · exact h
  · exact h

theorem State.HoldsNothing.reportLoss {m : Master} (h : s.HoldsNothing m) (i : Fin 15) : (s.reportLoss i).HoldsNothing m := by
  cases hi : slotMaster i with
  | none =>
    refine h.congr ?_ ?_
    · rw [State.reportLoss_table, hi]
    · rw [State.reportLoss_fm, hi]
  | some n =>
    have hremoved : (s.removeMaster n).HoldsNothing m := h.shrink (List.filter_sublist).subset rfl
    refine ((hremoved.abandonOwned .supply n).abandonOwned .extract n).congr ?_ ?_
    · rw [State.reportLoss_table, hi, State.abandonOwned_table, State.abandonOwned_table]
      rfl
    · rw [State.reportLoss_fm, hi]

/-- What stays before a demand that finds a place are entries of the general part. -/
theorem DemandTable.place_subset {t : DemandTable} {src : Source} {kind : DemandKind} {rest : List Entry}
    (h : t.place src kind = .placed rest ∨ t.place src kind = .evicting rest) : rest ⊆ t.general := by
  unfold DemandTable.place at h
  split at h
  · obtain rfl : t.general.filter (fun e => !e.hasPair src kind) = rest := by simpa using h
    exact List.filter_sublist.subset
  split at h
  · obtain rfl : t.general = rest := by simpa using h
    exact List.Subset.refl _
  split at h
  · split at h
    · rename_i rest' hevict
      obtain rfl : rest' = rest := by simpa using h
      exact (evictOldest_sublist hevict).1.subset
    · simp at h
  · simp at h

theorem FilterRecord.abandonUnit_owner {f : FilterRecord} {m : Master} (h : f.abandonUnit.owner = some m) :
    f.owner = some m := by
  unfold FilterRecord.abandonUnit at h
  split at h
  · cases h
  · exact h

/-- A source that cannot be heard takes nothing. -/
theorem State.Move.holdsNothing {stray : Prop} (hmove : s.Move stray t) {m : Master} (hdeaf : ¬ s.Heard stray m)
    (h : s.HoldsNothing m) : t.HoldsNothing m := by
  cases hmove with
  | masterReset => exact ⟨nofun, nofun, nofun⟩
  | load =>
    have hda : ((s.loaded.reportLoad s.ss.stored.passes).recomputeCeiling.setPhase .running).da.table.general =
        s.da.table.general := by
      simp [State.recomputeCeiling_da]
    refine h.mono (fun e he hsource => ⟨e, hda ▸ he, hsource⟩) fun side hside => ?_
    simp only [State.setPhase_fm, State.recomputeCeiling_fm, State.reportLoad_fm] at hside
    cases side <;> cases hside
  | demand src kind rest flow remaining hplace hdur hheard =>
    refine h.mono (fun e he hsource => ?_) fun _ => id
    rcases List.mem_append.1 (show e ∈ rest ++ [_] from he) with hrest | hnew
    · exact ⟨e, DemandTable.place_subset hplace hrest, hsource⟩
    · obtain rfl := List.mem_singleton.1 hnew
      cases hsource
      exact absurd hheard hdeaf
  | shrink l hl => exact h.shrink hl.subset rfl
  | cordPosts c => exact h.congr (by cases c <;> rfl) rfl
  | cordEmpties c => exact h.congr (by cases c <;> rfl) rfl
  | expire | expireKeeping =>
    refine h.mono (fun e he hsource => ?_) fun _ => id
    obtain ⟨e', he', htick⟩ := List.mem_filterMap.1 (show e ∈ s.da.table.general.filterMap Entry.tick from he)
    exact ⟨e', he', (Entry.tick_eq_some htick).1 ▸ hsource⟩
  | boostEnds | dryEnds => exact h.congr (by rw [State.removeKind_general]; rfl) (by simp)
  | assessed side =>
    exact h.handOn side fun hx => (FilterRecord.assess_sameProtocol _ _ _ _).2.2.1 ▸ hx
  | changeBegins side src hne hheard =>
    refine h.handOn side fun hx => ?_
    cases hx
    exact absurd hheard hdeaf
  | changeRenewed side =>
    refine h.mono (fun e he hsource => ⟨e, he, hsource⟩) fun x hx => ?_
    cases side <;> cases x <;> exact hx
  | changeAbandoned side => exact h.handOn side fun hnone => nomatch hnone
  | changeDone side => exact h.handOn side fun hnone => nomatch hnone
  | unitChangesEnd =>
    refine h.mono (fun e he hsource => ⟨e, he, hsource⟩) fun side hside => ?_
    cases side <;> exact FilterRecord.abandonUnit_owner hside
  | filters fm hsame =>
    refine h.mono (fun e he hsource => ⟨e, he, hsource⟩) fun side hside => ?_
    obtain ⟨-, -, howner, -⟩ := hsame side
    exact howner ▸ hside
  | lost i => exact State.HoldsNothing.reportLoss (s := s.withSlot i Slot.lost) (by exact h.congr rfl rfl) i
  | controlStep => exact h.congr (by simp) (by simp)
  | _ => exact h.congr rfl rfl

/-- A change that its owner loses leaves it without that owner. -/
theorem State.abandonOwned_owner (h : s.ChangesCoherent) (side : Side) (m : Master) :
    ((s.abandonOwned side m).fm.filter side).owner ≠ some m := by
  unfold State.abandonOwned State.abandonChange
  split
  · rename_i howner
    have hstate : (s.fm.filter side).state = .changing := (h.filter side).1.1 (by rw [howner]; rfl)
    dsimp only
    rw [if_pos hstate]
    simp [State.handOn_fm, FilterRecord.abandon]
  · assumption

theorem State.abandonOwned_owner_ne (s : State) {side x : Side} (hx : x ≠ side) (m : Master) :
    (s.abandonOwned side m).fm.filter x = s.fm.filter x := by
  unfold State.abandonOwned State.abandonChange
  split
  · dsimp only
    split
    · rw [State.raise_fm, State.handOn_fm, Filters.filter_withFilter_ne _ hx]
    · rfl
  · rfl

/-- A partner lost holds nothing (R162). -/
theorem State.reportLoss_holdsNothing (h : s.ChangesCoherent) {i : Fin 15} {m : Master} (hi : slotMaster i = some m) :
    (s.reportLoss i).HoldsNothing m := by
  have hremoved : (s.removeMaster m).ChangesCoherent := h.same rfl rfl
  refine State.holdsNothing_iff.2 ⟨fun e he => ?_, fun side => ?_⟩
  · rw [State.reportLoss_table, hi] at he
    exact (DemandTable.source_of_mem_without he).2
  · rw [State.reportLoss_fm, hi]
    cases side with
    | supply =>
      dsimp only
      rw [State.abandonOwned_owner_ne _ (by decide)]
      exact State.abandonOwned_owner hremoved _ _
    | extract => exact State.abandonOwned_owner (hremoved.abandonOwned _ _) _ _

/-! ## LOST partners (R162) -/

/-- The acceptance records after a loss (R111). -/
theorem State.reportLoss_stations (s : State) (i : Fin 15) :
    (s.reportLoss i).hm.stations =
      if h : i.val < 4 then setAt s.hm.stations ⟨i.val, h⟩ Acceptance.initial else s.hm.stations := by
  unfold State.reportLoss
  dsimp only
  cases slotMaster i with
  | none => split <;> split <;> rfl
  | some m => split <;> split <;> simp [State.clearStation, State.withStation]

theorem State.enterLost_slot (s : State) (i j : Fin 15) :
    (s.enterLost i).slot j = if j = i then Slot.lost else s.slot j := by
  have hslots : (s.enterLost i).slot j = (s.withSlot i Slot.lost).slot j := by
    unfold State.slot State.enterLost
    rw [State.reportLoss_rl]
  rw [hslots]
  split
  · subst_vars; exact State.slot_withSlot_self _ _ _
  · exact State.slot_withSlot_ne _ (by assumption) _

theorem State.enterLost_station (s : State) (i j : Fin 15) (hj : j.val < 4) :
    (s.enterLost i).hm.stations[j.val] = if j = i then Acceptance.initial else s.hm.stations[j.val] := by
  have hst := State.reportLoss_stations (s.withSlot i Slot.lost) i
  have : (s.enterLost i).hm.stations[j.val] = ((s.withSlot i Slot.lost).reportLoss i).hm.stations[j.val] := rfl
  rw [this]
  simp only [hst, State.withSlot_hm]
  by_cases hji : j = i
  · subst hji
    simp [hj, setAt]
  · rw [if_neg hji]
    have hne : i.val ≠ j.val := fun e => hji (Fin.ext e.symm)
    split
    · simp [setAt, hne]
    · rfl

/-- A slot that stands LOST was LOST before with its station's record kept, or has just been lost. -/
theorem State.Move.lost_slot {stray : Prop} (hmove : s.Move stray t) (i : Fin 15) (hlost : (t.slot i).state = .lost) :
    ((s.slot i).state = .lost ∧ (s.slot i = Slot.lost → t.slot i = Slot.lost) ∧
      ∀ h : i.val < 4, s.hm.stations[i.val] = Acceptance.initial → t.hm.stations[i.val] = Acceptance.initial) ∨
    t = s.enterLost i := by
  have hkept : t.rl.slots = s.rl.slots → t.hm.stations = s.hm.stations → (s.slot i).state = .lost ∧
      (s.slot i = Slot.lost → t.slot i = Slot.lost) ∧
      ∀ h : i.val < 4, s.hm.stations[i.val] = Acceptance.initial → t.hm.stations[i.val] = Acceptance.initial := by
    intro hslots hstations
    unfold State.slot at hlost ⊢
    rw [hslots] at hlost ⊢
    rw [hstations]
    exact ⟨hlost, id, fun _ => id⟩
  cases hmove with
  | masterReset =>
    have hunknown : ∀ i : Fin 15, RoomLink.initial.slots[i].state ≠ .lost := by decide
    exact absurd hlost (hunknown i)
  | climate x view boost rise dry hstations => exact .inl (hkept rfl hstations)
  | link rl hslots => exact .inl (hkept hslots rfl)
  | load => exact .inl (hkept (by simp [State.loaded]) (by simp))
  | boostEnds => exact .inl (hkept (by simp) (by rw [State.removeKind_hm]; rfl))
  | dryEnds => exact .inl (hkept (by simp) (by rw [State.removeKind_hm]; rfl))
  | assessed | changeBegins | changeAbandoned | changeDone => exact .inl (hkept (by simp) (by simp))
  | controlStep => exact .inl (hkept (by simp) (by simp))
  | station n a hn =>
    refine .inl ⟨hlost, id, fun hi hinitial => ?_⟩
    have hne : n.val ≠ i.val := fun e => hn (by
      rw [show (⟨n.val, by omega⟩ : Fin 15) = i from Fin.ext e]
      exact hlost)
    simpa [State.withStation, setAt, hne] using hinitial
  | slot j x hx =>
    by_cases hij : i = j
    · subst hij
      rw [State.slot_withSlot_self] at hlost ⊢
      exact .inl ⟨(hx hlost).1, (hx hlost).2, fun _ => id⟩
    · rw [State.slot_withSlot_ne _ hij] at hlost ⊢
      exact .inl ⟨hlost, id, fun _ => id⟩
  | lost j =>
    by_cases hij : i = j
    · exact .inr (hij ▸ rfl)
    · rw [State.enterLost_slot, if_neg hij] at hlost ⊢
      refine .inl ⟨hlost, id, fun hi hinitial => ?_⟩
      rw [State.enterLost_station s j i hi, if_neg hij]
      exact hinitial
  | _ => exact .inl (hkept rfl rfl)

theorem State.Move.lost_hold_nothing {stray : Prop} (hmove : s.Move stray t) (hchanges : s.ChangesCoherent)
    (h : s.LostHoldNothing) : t.LostHoldNothing := by
  intro i hlost
  rcases hmove.lost_slot i hlost with ⟨hs, hslot, hstation⟩ | rfl
  · obtain ⟨hempty, hholds, hinitial⟩ := h i hs
    refine ⟨hslot hempty, fun m hm => ?_, fun hi => hstation hi (hinitial hi)⟩
    refine hmove.holdsNothing ?_ (hholds m hm)
    simp [State.Heard, masterSlot_of_slotMaster hm, hs]
  · refine ⟨by simp [State.enterLost_slot], fun m hm => ?_, fun hi => by simp [State.enterLost_station s i i hi]⟩
    exact State.reportLoss_holdsNothing (s := s.withSlot i Slot.lost) (by exact hchanges.same rfl rfl) hm

/-! ## The silent port (R17, R165) -/

theorem State.portAnswers_eq_false : s.portAnswers = false ↔ s.phase ≠ .running ∨ s.standAlone = true ∨ s.resetPin = true := by
  unfold State.portAnswers
  cases s.phase <;> cases s.standAlone <;> cases s.resetPin <;> decide

/-- A transaction in a stand-alone part would not be silent. -/
theorem State.PortSilent.not_stray (h : s.PortSilent) : ¬ s.StrayTransaction := fun ⟨halone, hstage⟩ =>
  hstage (h.1 (State.portAnswers_eq_false.2 (.inr (.inl halone))))

theorem State.Move.port_idle {stray : Prop} (hmove : s.Move stray t) (h : s.portAnswers = false → s.lp.stage = .idle)
    (ht : t.portAnswers = false) : t.lp.stage = .idle := by
  have hkept : t.phase = s.phase → t.straps = s.straps → t.resetPin = s.resetPin → t.lp = s.lp →
      t.lp.stage = .idle := by
    intro hphase hstraps hpin hlp
    rw [hlp]
    refine h ?_
    rw [← ht]
    unfold State.portAnswers State.standAlone
    rw [hphase, hstraps, hpin]
  cases hmove with
  | masterReset => rfl
  | pinReleased =>
    refine h (State.portAnswers_eq_false.2 ?_)
    rcases State.portAnswers_eq_false.1 ht with hphase | halone | hpin
    · exact .inl hphase
    · exact .inr (.inl halone)
    · cases hpin
  | pinAsserted hidle =>
    rcases hidle with hheld | hidle
    · exact h (State.portAnswers_eq_false.2 (.inl (by simp [hheld])))
    · exact hidle
  | leaveHold hheld => exact h (State.portAnswers_eq_false.2 (.inl (by simp [hheld])))
  | load hloading =>
    have : s.lp.stage = .idle := h (State.portAnswers_eq_false.2 (.inl (by simp [hloading])))
    simpa using this
  | port lp hlp =>
    by_contra hstage
    rcases hlp hstage with hbusy | hanswers
    · exact hbusy (h ht)
    · exact absurd (show s.portAnswers = false from ht) (by simp [hanswers])
  | controlStep | boostEnds | dryEnds | lost | assessed | changeBegins | changeAbandoned | changeDone | unitChangesEnd =>
    exact hkept (by simp) (by simp) (by simp) (by simp)
  | _ => exact hkept rfl rfl rfl rfl

/-- Only a master reset latches the straps, and it empties the table and the filter monitor. -/
theorem State.Move.straps_or_reset {stray : Prop} (hmove : s.Move stray t) :
    t.straps = s.straps ∨ ∀ m, t.HoldsNothing m := by
  cases hmove with
  | masterReset => exact .inr fun m => ⟨nofun, nofun, nofun⟩
  | load | controlStep | boostEnds | dryEnds | lost | assessed | changeBegins | changeAbandoned | changeDone =>
    exact .inl (by simp)
  | _ => exact .inl rfl

theorem State.Move.port_silent {stray : Prop} (hmove : s.Move stray t) (hstray : ¬ stray) (h : s.PortSilent) :
    t.PortSilent := by
  refine ⟨hmove.port_idle h.1, fun halone => ?_⟩
  rcases hmove.straps_or_reset with hstraps | hempty
  · have hs : s.standAlone = true := by
      unfold State.standAlone at halone ⊢
      rwa [← hstraps]
    exact hmove.holdsNothing (fun hheard => hstray (hheard hs)) (h.2 hs)
  · exact hempty .unit

end

/-- Settles O60: each move of `State.Move` keeps the filter changes, the LOST slots and the silent port; a transaction in
a stand-alone part, which `State.Move` allows for, is excluded by the last. -/
theorem stepsKeepChangesAndPartners : Obligations.StepsKeepChangesAndPartners := by
  unfold Obligations.StepsKeepChangesAndPartners
  intro s t hchanges hlost hport hstep
  have hstray := hport.not_stray
  exact step_keeps (P := fun s => s.ChangesCoherent ∧ s.LostHoldNothing ∧ s.PortSilent) (fun _ h => h)
    (fun hmove ⟨hchanges, hlost, hport⟩ =>
      ⟨hmove.changes_coherent hchanges, hmove.lost_hold_nothing hchanges hlost, hmove.port_silent hstray hport⟩)
    ⟨hchanges, hlost, hport⟩ hstep

end Sys2Proof.Machine

namespace Sys2Proof.Machine

/-! # The queue, the idle second, the resets and the load -/

section
variable {s t : State}

/-! ## The queue -/

/-- No move touches the queue (log entry 8). -/
theorem State.Move.pending {stray : Prop} (hmove : s.Move stray t) : t.pending = s.pending := by
  cases hmove with
  | load | controlStep | boostEnds | dryEnds | lost | assessed | changeBegins | changeAbandoned | changeDone => simp
  | _ => rfl

theorem State.Moves.pending {stray : Prop} (hmoves : s.Moves stray t) : t.pending = s.pending := by
  induction hmoves with
  | refl => rfl
  | tail _ hmove ih => exact hmove.pending.trans ih

/-- Every command answers a next state. -/
theorem exec_next (c : Instr) (s : State) : ∃ t, exec c s = .next t := by
  cases c <;> exact ⟨_, rfl⟩

/-! ## The idle second (log entry 9) -/

theorem CordRecord.secondPasses_eq (r : CordRecord) :
    r.secondPasses = { r with
      pressTime := if r.pressed = true ∧ r.holdTaken = false then max r.pressTime (min 2999 (r.pressTime + 1000))
        else r.pressTime } := by
  unfold CordRecord.secondPasses
  by_cases hcounts : r.pressed = true ∧ r.holdTaken = false
  · rw [if_pos (by simpa using hcounts), if_pos hcounts]
  · rw [if_neg (by simpa using hcounts), if_neg hcounts]

theorem step_of_empty (h : s.pending = []) : step s = .next s.secondPasses := by
  unfold step
  rw [h]
  rfl

theorem State.secondPasses_of_held (h : s.phase = .held) : s.secondPasses = s := State.unlessHeld_held h _

/-- The idle second of a part that is not held. -/
theorem State.secondPasses_of_ne (h : s.phase ≠ .held) :
    s.secondPasses = { s with
      ae := { s.ae with supply := s.ae.supply.secondPasses, extract := s.ae.extract.secondPasses }
      fm := { supply := s.fm.supply.secondPasses, extract := s.fm.extract.secondPasses }
      mc := { s.mc with kitchen := s.mc.kitchen.secondPasses, bathroom := s.mc.bathroom.secondPasses } } :=
  State.unlessHeld_of_ne h _

/-! ## Master resets (R184, R185) -/

/-- Each cause of a master reset is the reset itself, with RESET asserted by the pin's. -/
theorem MasterCause.exec_eq {c : Instr} {straps : Straps} {cause : ResetCause} (h : MasterCause c straps cause) (s : State) :
    exec c s = .next (s.masterReset cause straps (if cause = .pinMaster then true else s.resetPin)) := by
  rcases h with ⟨rfl, rfl⟩ | ⟨rfl, rfl⟩ | ⟨rfl, rfl⟩ <;> rfl

theorem SettingsStore.masterReset_stored_passes {ss : SettingsStore} (h : ss.store = .writing) (cause : ResetCause)
    (cut : Bool) : (ss.masterReset cause cut).stored.passes = false := by
  simp [SettingsStore.masterReset, h, StoredSettings.passes]

/-! ## Running resets (R186) -/

theorem EventUnit.wordDrives_of_zero {e : EventUnit} (h : e.flags = EventBytes.zero) (w : EventWord) :
    e.wordDrives w = false := by
  unfold EventUnit.wordDrives
  rw [h]
  cases w <;> simp [EventBytes.zero, EventBytes.get]

theorem EventUnit.runningReset_eq (e : EventUnit) :
    e.runningReset = { e with
      flags := EventBytes.zero
      masks := EventBytes.allMasked
      suspended := false
      irq := false } := by
  unfold EventUnit.runningReset EventUnit.settle
  congr 1
  simp [EventUnit.condition, EventUnit.wordDrives_of_zero]

/-- The filter monitor after a running reset (R127). -/
def Filters.abandonUnit (fm : Filters) : Filters := { supply := fm.supply.abandonUnit, extract := fm.extract.abandonUnit }

theorem State.abandonUnitChanges_explicit (s : State) :
    s.abandonUnitChanges = { s with
      fm := s.fm.abandonUnit
      da :=
        { table := s.da.table
          supplyCeiling := contribution s.settings s.fm.supply.abandonUnit
          extractCeiling := contribution s.settings s.fm.extract.abandonUnit
          plan := resolve s.settings s.da.table s.fm.abandonUnit.changing
            (min (contribution s.settings s.fm.supply.abandonUnit) (contribution s.settings s.fm.extract.abandonUnit)) } } :=
  rfl

theorem State.removeMaster_eq (s : State) (m : Master) :
    s.removeMaster m = { s with
      da := { s.da with
        table := s.da.table.without m
        plan := resolve s.settings (s.da.table.without m) s.fm.changing (min s.da.supplyCeiling s.da.extractCeiling) } } :=
  rfl

theorem State.runningReset_eq (s : State) (cause : ResetCause) :
    s.runningReset cause = { s with
      lp := LocalPort.initial
      eu := s.eu.runningReset
      da :=
        { table := s.da.table.without .unit
          supplyCeiling := contribution s.settings s.fm.supply.abandonUnit
          extractCeiling := contribution s.settings s.fm.extract.abandonUnit
          plan := resolve s.settings (s.da.table.without .unit) s.fm.abandonUnit.changing
            (min (contribution s.settings s.fm.supply.abandonUnit) (contribution s.settings s.fm.extract.abandonUnit)) }
      fm := s.fm.abandonUnit
      ss := { s.ss with cause := cause } } := by
  unfold State.runningReset
  rw [State.abandonUnitChanges_explicit, State.removeMaster_eq]
  rfl

/-- A running reset acts on the port, the event unit, the demand table and UNIT's changes (R186). -/
theorem State.runningReset_after (s : State) (cause : ResetCause) : s.AfterRunningReset (s.runningReset cause) cause := by
  unfold State.AfterRunningReset
  rw [← EventUnit.runningReset_eq, State.runningReset_eq]
  refine ⟨rfl, rfl, rfl, rfl, rfl, fun side => ?_⟩
  cases side <;> rfl

theorem State.AfterRunningReset.setResetPin {cause : ResetCause} (h : s.AfterRunningReset t cause) (pin : Bool) :
    s.AfterRunningReset (t.setResetPin pin) cause := by
  obtain ⟨heq, hrest⟩ := h
  refine ⟨?_, hrest⟩
  rw [heq]
  rfl

/-- A requested running reset is taken at the transaction's end (R174). -/
theorem exec_transactionEnd_of_reset (hrun : s.phase = .running) (hstage : s.lp.stage ≠ .idle)
    (hreset : s.lp.resetRequested = true) :
    exec .transactionEnd s = .next ((s.setLp { s.lp with stage := .idle }).runningReset .portRunning) := by
  show done (s.whenRunning State.endTransaction) = _
  rw [State.whenRunning_of hrun, done_eq]
  simp [State.endTransaction, hstage, hreset]

/-- The reset at a transaction's end leaves what it leaves of the state in the transaction. -/
theorem State.runningReset_setLp (s : State) (lp : LocalPort) (cause : ResetCause) :
    (s.setLp lp).runningReset cause = s.runningReset cause := rfl

/-! ## The load (R129, R191) -/

theorem EventUnit.load_eq (e : EventUnit) (set : Settings) :
    e.load set = { e with copies := if set.counterSnapshot = true then e.copies else e.live } := by
  unfold EventUnit.load EventUnit.copyAll
  split <;> rfl

theorem Damper.afterLoad_of_rest {d : Damper} {fitted : Bool} (h : fitted = false ∨ d.closedMade = true) (travel : Nat) :
    d.afterLoad fitted travel =
      { d with state := .closed, position := 0, allowance := none, elapsed := none, drive := .off } := by
  have hrest : (!fitted || d.closedMade) = true := by
    rcases h with h | h <;> simp [h]
  unfold Damper.afterLoad
  dsimp only
  rw [if_pos hrest]
  rfl

theorem Damper.afterLoad_of_travel {d : Damper} {fitted : Bool} (hfitted : fitted = true) (hopen : d.closedMade = false)
    (travel : Nat) :
    d.afterLoad fitted travel =
      { d with
        state := .closing
        position := travel
        allowance := some travel
        elapsed := some 0
        drive := .closing } := by
  have hrest : ¬(!fitted || d.closedMade) = true := by simp [hfitted, hopen]
  unfold Damper.afterLoad
  dsimp only
  rw [if_neg hrest]
  simp [Damper.begin, Damper.initial, Damper.switchMade, hopen]

theorem StoredFilter.load_of_not_passes {r : StoredFilter} (h : r.passes = false) : r.load = FilterCore.blank := by
  simp [StoredFilter.load, h]

theorem StoredFilter.load_of_ne {r : StoredFilter} (h : r.passes = true) (hstate : r.contents.state ≠ .changing) :
    r.load = { r.contents with saved := none } := by
  simp only [StoredFilter.load, h, if_true]

theorem StoredFilter.load_of_changing {r : StoredFilter} {st : FilterState} (h : r.passes = true)
    (hstate : r.contents.state = .changing) (hsaved : r.contents.saved = some st) :
    r.load = { r.contents with state := st, saved := none } := by
  simp [StoredFilter.load, h, hstate, hsaved]

/-- The filter monitor that the load leaves (R129). -/
def SettingsStore.loadedFilters (ss : SettingsStore) : Filters where
  supply := FilterRecord.loaded ss.storedSupply.load
  extract := FilterRecord.loaded ss.storedExtract.load

/-- The state after the load, `passes` saying whether the stored copy passed its check. -/
theorem State.loadComplete_eq (s : State) (passes : Bool) :
    ((s.loaded.reportLoad passes).recomputeCeiling).setPhase .running = { s with
      phase := .running
      ss := s.ss.load
      fm := s.ss.loadedFilters
      da :=
        { table := s.da.table
          supplyCeiling := contribution s.ss.stored.load s.ss.loadedFilters.supply
          extractCeiling := contribution s.ss.stored.load s.ss.loadedFilters.extract
          plan := resolve s.ss.stored.load s.da.table s.ss.loadedFilters.changing
            (min (contribution s.ss.stored.load s.ss.loadedFilters.supply)
              (contribution s.ss.stored.load s.ss.loadedFilters.extract)) }
      fg := s.fg.load s.ss.stored.load
      damper := s.damper.afterLoad s.damperFitted s.ss.stored.load.bypassTravel
      season := { s.season with observing := s.ss.stored.load.seasonObserve }
      rl := { s.rl with feed := true }
      eu := if passes then s.eu.load s.ss.stored.load else (s.eu.load s.ss.stored.load).raise .defaultsInUse } := by
  cases passes <;> rfl

end

/-- Settles O1. -/
theorem stepRunsTheFrontCommand : Obligations.StepRunsTheFrontCommand := by
  unfold Obligations.StepRunsTheFrontCommand
  intro c rest s
  rfl

/-- Settles O2: every command answers a next state, and is a run of moves, none of which touches the queue. -/
theorem everyCommandCompletesAndKeepsTheQueue : Obligations.EveryCommandCompletesAndKeepsTheQueue := by
  unfold Obligations.EveryCommandCompletesAndKeepsTheQueue
  intro c s
  obtain ⟨t, ht⟩ := exec_next c s
  exact ⟨t, ht, (exec_moves ht).pending⟩

/-- Settles O3. -/
theorem idleStepMovesTheCountdownsAlone : Obligations.IdleStepMovesTheCountdownsAlone := by
  unfold Obligations.IdleStepMovesTheCountdownsAlone
  intro s hempty
  refine ⟨s.secondPasses, step_of_empty hempty, State.secondPasses_of_held, ?_⟩
  by_cases hheld : s.phase = .held
  · rw [State.secondPasses_of_held hheld]
    exact ⟨rfl, rfl, rfl, rfl, rfl, fun h => absurd hheld h, fun h => absurd hheld h⟩
  · rw [State.secondPasses_of_ne hheld]
    refine ⟨rfl, rfl, rfl, rfl, rfl, fun _ side => ?_, fun _ c => ?_⟩
    · cases side <;> exact ⟨rfl, rfl⟩
    · cases c <;> exact CordRecord.secondPasses_eq _

/-- Settles O4. -/
theorem masterResetClearsEveryChannel : Obligations.MasterResetClearsEveryChannel := by
  unfold Obligations.MasterResetClearsEveryChannel
  refine ⟨fun s c straps cause hcause => ⟨_, hcause.exec_eq s, rfl, fun ch => ?_⟩, fun s => ?_, fun s hrun hstage hreset =>
    ⟨_, exec_transactionEnd_of_reset hrun hstage hreset, by simp [State.runningReset]⟩⟩
  · simp [State.channel, State.masterReset, Measurement.initial, Channel.initial]
  · show ∃ t, execPinRunning s = .next t ∧ t.mc = s.mc
    unfold execPinRunning
    split <;> exact ⟨_, rfl, by simp [State.runningReset]⟩

/-- Settles O5: `State.masterReset` names every block's initial record. -/
theorem masterResetReturnsEveryBlockToItsInitialValues : Obligations.MasterResetReturnsEveryBlockToItsInitialValues := by
  unfold Obligations.MasterResetReturnsEveryBlockToItsInitialValues
  intro s c straps cause fan filter channel cord hcause hfan hfilter hchannel hcord
  subst hfan hfilter hchannel
  refine ⟨_, hcause.exec_eq s, rfl, rfl, ?_⟩
  rw [hcord, hcord]
  rfl

/-- Settles O6: the cut falls on one of the two records of the save, the supply filter's being written first. -/
theorem masterResetCutsOffWhatIsBeingWritten : Obligations.MasterResetCutsOffWhatIsBeingWritten := by
  unfold Obligations.MasterResetCutsOffWhatIsBeingWritten
  intro s c straps cause hcause
  refine ⟨_, hcause.exec_eq s, rfl, rfl, rfl, fun h => SettingsStore.masterReset_stored_passes h _ _, fun h => if_neg h,
    fun h => ?_, fun a b h => ?_⟩
  · simp [State.masterReset, SettingsStore.masterReset, SettingsStore.cutSave, h]
  · cases hcut : Config.freeCut s.freeCount
    · right
      simp [State.masterReset, SettingsStore.masterReset, SettingsStore.cutSave, h, hcut, StoredFilter.passes]
    · left
      simp [State.masterReset, SettingsStore.masterReset, SettingsStore.cutSave, h, hcut, StoredFilter.passes]

/-- Settles O7. -/
theorem masterResetEndBeginsTheLoad : Obligations.MasterResetEndBeginsTheLoad := by
  unfold Obligations.MasterResetEndBeginsTheLoad
  intro s hheld
  have hexec : exec .masterResetEnd s = .next (((s.setPhase .loading).setResetPin s.pinAfterReset).setMc
      { s.mc with kitchen := s.mc.kitchen.leaveReset, bathroom := s.mc.bathroom.leaveReset }) := by
    show execMasterResetEnd s = _
    simp [execMasterResetEnd, hheld]
  refine ⟨_, hexec, rfl, rfl, rfl, rfl, rfl, fun cord => ?_⟩
  cases cord <;> rfl

/-- Settles O8: the load by its parts, each block's own record as its lemma gives it. -/
theorem loadPutsTheStoredOrTheFactoryRecordInForce : Obligations.LoadPutsTheStoredOrTheFactoryRecordInForce := by
  unfold Obligations.LoadPutsTheStoredOrTheFactoryRecordInForce
  intro s hloading
  have hexec : exec .settingsLoadComplete s =
      .next (((s.loaded.reportLoad s.ss.stored.passes).recomputeCeiling).setPhase .running) := by
    show execSettingsLoadComplete s = _
    simp [execSettingsLoadComplete, hloading]
  rw [s.loadComplete_eq] at hexec
  have hcopies : s.eu.load s.ss.stored.load = { s.eu with
      copies := if s.ss.stored.load.counterSnapshot = true then s.eu.copies else s.eu.live } := EventUnit.load_eq _ _
  rw [hcopies] at hexec
  refine ⟨_, hexec, rfl, rfl, ?_, fun hpasses => ?_, fun hfails => ?_, ?_, ?_, fun hrest => ?_, fun hfitted hclosed => ?_,
    rfl, rfl, rfl, rfl, fun side r hr => ?_⟩
  · simp only [FrostRecord.load, FrostRecord.raiseFraction_eq]
    cases s.ss.stored.passes <;> rfl
  · refine ⟨?_, ?_, ?_, hpasses⟩
    · show s.ss.stored.load = _
      simp [StoredSettings.load, hpasses]
    · simp [hpasses]
    · simp [hpasses]
  · refine ⟨?_, hfails, ?_, fun f hf => ?_, fun hcoherent => ?_⟩
    · show s.ss.stored.load = _
      simp [StoredSettings.load, hfails]
    · simp [hfails, EventUnit.isSet_raise]
    · simp only [hfails]
      show EventUnit.isSet (EventUnit.raise _ _) f = _
      rw [EventUnit.isSet_raise, show (f == Flag.defaultsInUse) = false by simpa using hf, Bool.or_false]
      rfl
    · simp only [hfails]
      exact EventUnit.raise_coherent hcoherent.clean _
  · cases hp : s.ss.stored.passes <;> rfl
  · simp only [FrostRecord.load, FrostRecord.raiseFraction_eq]
    rfl
  · exact Damper.afterLoad_of_rest hrest _
  · exact Damper.afterLoad_of_travel hfitted hclosed _
  · have hload : (s.ss.loadedFilters.filter side) = FilterRecord.loaded r.load := by
      subst hr
      cases side <;> rfl
    dsimp only
    rw [hload]
    exact ⟨rfl, rfl, rfl, rfl, rfl, rfl, fun h => StoredFilter.load_of_not_passes h,
      fun h hstate => StoredFilter.load_of_ne h hstate, fun st h hstate hsaved => StoredFilter.load_of_changing h hstate hsaved⟩

/-- Settles O9: PIN_RUNNING and the end of a transaction that asked for it both take `State.runningReset`. -/
theorem runningResetActsOnFourBlocksAlone : Obligations.RunningResetActsOnFourBlocksAlone := by
  unfold Obligations.RunningResetActsOnFourBlocksAlone
  refine ⟨fun s hheld => ?_, fun s hheld => ?_, fun s hrun hstage hreset => ?_⟩
  · refine ⟨(s.runningReset .pinRunning).setResetPin true, ?_, rfl, (s.runningReset_after _).setResetPin true⟩
    show execPinRunning s = _
    unfold execPinRunning
    split
    · contradiction
    · rfl
  · show execPinRunning s = _
    simp [execPinRunning, hheld]
  · refine ⟨s.runningReset .portRunning, ?_, by rw [State.runningReset_eq], s.runningReset_after _⟩
    rw [exec_transactionEnd_of_reset hrun hstage hreset, State.runningReset_setLp]

/-- Settles O54: block by block; no slot is LOST, and no plan is due before the part runs. -/
theorem resetIsSound : Obligations.ResetIsSound := by
  unfold Obligations.ResetIsSound
  exact {
    events := EventUnit.settle_coherent (e := EventUnit.initial) (fun w => by cases w <;> rfl)
    fans := by unfold State.FansCoherent FanRecord.Coherent; decide
    record := ⟨Settings.factory_legal, Settings.factory_legal⟩
    frost := by simp [State.FrostCoherent, FrostRecord.Coherent, FrostRecord.FractionFits, State.reset, FrostRecord.initial]
    heater := State.heaterSafe_of_off rfl
    damper := by simp [State.DamperSafe, Damper.Coherent, State.reset, Damper.initial, Damper.travelling, FrostRecord.initial]
    table := by
      simp [State.TableCoherent, DemandTable.Coherent, SlotNames, State.reset, Arbiter.initial, DemandTable.initial,
        Humidity.initial]
    plan := nofun
    changes := State.changesCoherent_iff.2
      ⟨fun side => by cases side <;> exact FilterRecord.coherent_of_none nofun rfl rfl rfl, nofun, nofun, fun _ hnone => nomatch hnone⟩
    lost := fun i h => by
      have hunknown : ∀ i : Fin 15, RoomLink.initial.slots[i].state ≠ .lost := by decide
      exact absurd h (hunknown i)
    port := ⟨fun _ => rfl, fun _ => ⟨nofun, nofun, nofun⟩⟩ }

end Sys2Proof.Machine

namespace Sys2Proof.Machine

/-! # Measurement channels and pull-cords (R2 to R15) -/

section
variable {s t : State}

/-! ## One sample (R4 to R10) -/

/-- The plausible range of each quantity (R2). -/
theorem inRange_eq_false_iff (ch : Fin 8) (reading : Int) :
    inRange ch reading = false ↔
      (if ch.val < 4 then reading < -400 ∨ 600 < reading
        else if ch.val = 4 then reading < 0 ∨ 1000 < reading else reading < -20 ∨ 500 < reading) := by
  unfold inRange plausible
  split
  · simp; omega
  · split <;> simp <;> omega

theorem historyReading_eq (ch : Fin 8) (reading : Int) :
    historyReading ch reading = if 5 ≤ ch.val then max 0 reading else reading := by
  unfold historyReading isPressure
  by_cases hch : 5 ≤ ch.val
  · simp [hch]; omega
  · simp [hch]

/-- A judgement changes the state, and empties the window of a recovery, alone. -/
theorem Channel.judge_eq (c : Channel) (kFail : Nat) :
    (c.judge kFail).1 = { c with state := (c.judge kFail).1.state, window := (c.judge kFail).1.window } := by
  unfold Channel.judge
  repeat' split
  all_goals rfl

/-- The window stands but for a FAILED channel's recovery. -/
theorem Channel.judge_window_of_ne {c : Channel} (h : c.state ≠ .failed) (kFail : Nat) :
    (c.judge kFail).1.window = c.window := by
  unfold Channel.judge
  split
  · split <;> rfl
  · split
    · rfl
    · split <;> rfl
  · contradiction

@[simp] theorem Channel.judge_raw (c : Channel) (kFail : Nat) : (c.judge kFail).1.raw = c.raw := by
  rw [Channel.judge_eq]
@[simp] theorem Channel.judge_injection (c : Channel) (kFail : Nat) : (c.judge kFail).1.injection = c.injection := by
  rw [Channel.judge_eq]
@[simp] theorem Channel.judge_history (c : Channel) (kFail : Nat) : (c.judge kFail).1.history = c.history := by
  rw [Channel.judge_eq]
@[simp] theorem Channel.judge_filtered (c : Channel) (kFail : Nat) : (c.judge kFail).1.filtered = c.filtered := by
  rw [Channel.judge_eq]
@[simp] theorem Channel.judge_settling (c : Channel) (kFail : Nat) : (c.judge kFail).1.settling = c.settling := by
  rw [Channel.judge_eq]

/-- A VALID channel is judged by its marks (R7). -/
theorem Channel.judge_of_valid {c : Channel} (h : c.state = .valid) (kFail : Nat) :
    c.judge kFail = ({ c with state := if marks c.window = 0 then .valid else .suspect }, .none) := by
  unfold Channel.judge
  rw [h]
  dsimp only
  split
  · rw [← h]
  · rfl

/-- A SUSPECT channel fails at k_fail marks (R8). -/
theorem Channel.judge_of_failing {c : Channel} (h : c.state = .suspect) {kFail : Nat} (hmarks : kFail ≤ marks c.window) :
    c.judge kFail = ({ c with state := .failed }, .failed) := by
  simp [Channel.judge, h, hmarks]

/-- Below them it is judged as a VALID one (R7). -/
theorem Channel.judge_of_suspect {c : Channel} (h : c.state = .suspect) {kFail : Nat} (hmarks : marks c.window < kFail) :
    c.judge kFail = ({ c with state := if marks c.window = 0 then .valid else .suspect }, .none) := by
  unfold Channel.judge
  rw [h]
  dsimp only
  rw [if_neg (by omega)]
  split
  · rfl
  · rw [← h]

/-- A FAILED channel recovers on a full window without marks (R9). -/
theorem Channel.judge_of_recovering {c : Channel} (h : c.state = .failed) (kFail : Nat)
    (hwindow : c.window.length = 8 ∧ marks c.window = 0) :
    c.judge kFail = ({ c with state := .valid, window := [] }, .recovered) := by
  simp [Channel.judge, h, hwindow]

theorem Channel.judge_of_failed {c : Channel} (h : c.state = .failed) (kFail : Nat)
    (hwindow : ¬(c.window.length = 8 ∧ marks c.window = 0)) : c.judge kFail = (c, .none) := by
  simp [Channel.judge, h, hwindow]

theorem State.reportSample_eq (s : State) (e : SampleEvent) : s.reportSample e = { s with eu := (s.reportSample e).eu } := by
  cases e <;> rfl

/-- One sample changes the channels and the event unit alone. -/
theorem State.sampleChannel_eq (s : State) (ch : Fin 8) (reading : Int) :
    s.sampleChannel ch reading = { s with
      mc := s.mc.withSample ch ((s.channel ch).sample ch reading s.settings.kFail).1
      eu := (s.sampleChannel ch reading).eu } := by
  unfold State.sampleChannel
  dsimp only
  rw [State.reportSample_eq]
  rfl

theorem State.sampleChannel_self (s : State) (ch : Fin 8) (reading : Int) :
    (s.sampleChannel ch reading).channel ch = ((s.channel ch).sample ch reading s.settings.kFail).1 := by
  rw [State.sampleChannel_eq]
  exact getElem_setAt_self _ _ _

theorem State.sampleChannel_ne (s : State) {ch other : Fin 8} (h : other ≠ ch) (reading : Int) :
    (s.sampleChannel ch reading).channel other = s.channel other := by
  rw [State.sampleChannel_eq]
  exact getElem_setAt_ne _ h _

theorem State.sampleChannel_ready (s : State) (ch : Fin 8) (reading : Int) :
    (s.sampleChannel ch reading).mc.ready = true ↔ s.mc.ready = true ∨
      ∀ c : Fin 8, ((s.sampleChannel ch reading).channel c).settling = 4 ∨
        ((s.sampleChannel ch reading).channel c).state = .failed := by
  have hready : (s.sampleChannel ch reading).mc.ready =
      (s.mc.ready || (s.sampleChannel ch reading).mc.channels.all Channel.readyOrFailed) := by
    rw [State.sampleChannel_eq]
    rfl
  rw [hready, Bool.or_eq_true, Vector.all_eq_true]
  refine or_congr_right ⟨fun h c => ?_, fun h i hi => ?_⟩
  · simpa [Channel.readyOrFailed, State.channel] using h c.val c.isLt
  · simpa [Channel.readyOrFailed, State.channel] using h ⟨i, hi⟩

theorem State.sampleChannel_eu (s : State) (ch : Fin 8) (reading : Int) :
    (s.sampleChannel ch reading).eu = (s.reportSample ((s.channel ch).sample ch reading s.settings.kFail).2).eu := by
  unfold State.sampleChannel
  dsimp only
  cases ((s.channel ch).sample ch reading s.settings.kFail).2 <;> rfl

theorem exec_channelSample (h : s.phase ≠ .held) (ch : Fin 8) (reading : Int) :
    exec (.channelSample ch reading) s = .next (s.sampleChannel ch reading) :=
  congrArg Host.Outcome.next (State.unlessHeld_of_ne h _)

/-! ## The pull-cords (R12 to R15) -/

theorem exec_pullcordPinChange (h : s.phase ≠ .held) (c : Cord) (high : Bool) :
    exec (.pullcordPinChange c high) s = .next (s.withCord c ((s.mc.cord c).pinChange high)) := by
  show execPullcordPinChange c high s = _
  unfold execPullcordPinChange
  split
  · contradiction
  · rfl

theorem exec_debounceExpiry (h : s.phase ≠ .held) (c : Cord) :
    exec (.debounceExpiry c) s = .next (s.debounceExpired c) :=
  congrArg Host.Outcome.next (State.unlessHeld_of_ne h _)

theorem exec_longHold (h : s.phase ≠ .held) (c : Cord) : exec (.longHold c) s = .next (s.longHold c) :=
  congrArg Host.Outcome.next (State.unlessHeld_of_ne h _)

theorem State.withCord_self (s : State) (c : Cord) : s.withCord c (s.mc.cord c) = s := by
  cases c <;> rfl

@[simp] theorem CordRecord.pinChange_self (r : CordRecord) : r.pinChange r.pinHigh = r := if_pos rfl

theorem CordRecord.pinChange_not (r : CordRecord) :
    r.pinChange (!r.pinHigh) =
      { r with pinHigh := !r.pinHigh, debouncing := !r.armed || ((!r.pinHigh) == r.pressed) } := by
  unfold CordRecord.pinChange
  rw [if_neg (by simp)]

/-- A posting to a cord's slot, the sequence number counted first. -/
theorem DemandTable.post_cord (u : DemandTable) (c : Cord) (kind : DemandKind) (flow : Nat) (remaining : Option Nat) :
    u.post (.cord c) kind flow remaining =
      ({ u with seq := u.seq + 1 } : DemandTable).withSlot (.cord c)
        (some { source := .cord c, kind := kind, flow := flow, remaining := remaining, seq := u.seq + 1 }) := by
  cases c <;> rfl

theorem State.debounceExpired_idle {c : Cord} (h : (s.mc.cord c).debouncing = false) : s.debounceExpired c = s := by
  simp [State.debounceExpired, h]

/-- A low pin (R13): an armed input that is released accepts a press. -/
theorem State.debounceExpired_low {c : Cord} (h : (s.mc.cord c).debouncing = true) (hpin : (s.mc.cord c).pinHigh = false)
    (hpressed : (s.mc.cord c).pressed = false) :
    s.debounceExpired c =
      s.withCord c (if (s.mc.cord c).armed then (s.mc.cord c).accepted else { s.mc.cord c with debouncing := false }) := by
  unfold State.debounceExpired
  cases ha : (s.mc.cord c).armed <;> simp [h, hpin, hpressed, ha]

/-- A high pin at a released input arms it (R12). -/
theorem State.debounceExpired_arms {c : Cord} (h : (s.mc.cord c).debouncing = true) (hpin : (s.mc.cord c).pinHigh = true)
    (hpressed : (s.mc.cord c).pressed = false) :
    s.debounceExpired c = s.withCord c { s.mc.cord c with debouncing := false, armed := true } := by
  simp [State.debounceExpired, h, hpin, hpressed]

/-- A high pin at a pressed input ends its press (R14). -/
theorem State.debounceExpired_release {c : Cord} (h : (s.mc.cord c).debouncing = true) (hpin : (s.mc.cord c).pinHigh = true)
    (hpressed : (s.mc.cord c).pressed = true) :
    s.debounceExpired c =
      if (s.mc.cord c).pressTime < 3000 ∧ (s.mc.cord c).holdTaken = false then
        (s.withCord c (s.mc.cord c).released).shortPress c
      else s.withCord c (s.mc.cord c).released := by
  simp [State.debounceExpired, h, hpin, CordRecord.shortPress, hpressed]

theorem State.shortPress_of_none {c : Cord} (h : s.da.table.slot (.cord c) = none) :
    s.shortPress c = s.post (.cord c) .boost 3 (some s.settings.pullcordDuration) := by
  unfold State.shortPress
  rw [h]

theorem State.shortPress_of_entry {c : Cord} (h : s.da.table.slot (.cord c) ≠ none) :
    s.shortPress c = s.withTable (s.da.table.withSlot (.cord c) none) := by
  unfold State.shortPress
  split
  · contradiction
  · rfl

end

/-- Settles O10: the sample is `Channel.take`, then `Channel.judge` on the window as it stands. -/
theorem sampleUpdatesOneChannel : Obligations.SampleUpdatesOneChannel := by
  unfold Obligations.SampleUpdatesOneChannel
  intro s ch reading out window entry hheld hout hwindow hentry
  have hmark : (!inRange ch reading || (s.channel ch).injection != .none) = out := by
    rw [Bool.eq_iff_iff, hout, ← inRange_eq_false_iff]
    simp [or_comm]
  have htake : (s.channel ch).sample ch reading s.settings.kFail =
      ((s.channel ch).take ch reading out).judge s.settings.kFail := by
    unfold Channel.sample
    rw [hmark]
  have hwin : ((s.channel ch).take ch reading out).window = window := hwindow.symm
  have heu := s.sampleChannel_eu ch reading
  have hself := s.sampleChannel_self ch reading
  rw [htake] at heu hself
  refine ⟨_, exec_channelSample hheld ch reading, ?_, ?_, fun h => ?_, fun h => ?_, fun h => ?_, fun h => ?_, fun h => ?_,
    fun h => ?_, fun h => ?_, fun other h => s.sampleChannel_ne h reading, s.sampleChannel_ready ch reading, ?_, ?_⟩
  · rw [State.sampleChannel_eq]
  · rw [hself, Channel.judge_raw]; rfl
  · rw [hself, Channel.judge_injection]; exact if_pos h
  · rw [hself, Channel.judge_injection]; exact if_neg h
  · subst h
    rw [hself, Channel.judge_history, Channel.judge_filtered, Channel.judge_settling]
    exact ⟨rfl, rfl, rfl⟩
  · subst h
    rw [hself, Channel.judge_history, Channel.judge_filtered, Channel.judge_settling, hentry, ← historyReading_eq]
    exact ⟨rfl, rfl, rfl⟩
  · rw [hself, heu, Channel.judge_of_valid (c := (s.channel ch).take ch reading out) h]
    exact ⟨hwin ▸ rfl, hwin, rfl⟩
  · refine ⟨?_, fun hmarks => ?_, fun hmarks => ?_⟩
    · rw [hself, Channel.judge_window_of_ne (c := (s.channel ch).take ch reading out) (fun hf => nomatch h.symm.trans hf)]
      exact hwin
    · rw [hself, heu, Channel.judge_of_failing (c := (s.channel ch).take ch reading out) h (hwin ▸ hmarks)]
      exact ⟨rfl, rfl⟩
    · rw [hself, heu, Channel.judge_of_suspect (c := (s.channel ch).take ch reading out) h (hwin ▸ hmarks), hwin]
      exact ⟨rfl, rfl⟩
  · refine ⟨fun hfull => ?_, fun hfull => ?_⟩
    · rw [hself, heu, Channel.judge_of_recovering (c := (s.channel ch).take ch reading out) h _ (hwin ▸ hfull)]
      exact ⟨rfl, rfl, rfl⟩
    · rw [hself, heu, Channel.judge_of_failed (c := (s.channel ch).take ch reading out) h _ (hwin ▸ hfull)]
      exact ⟨h, hwin, rfl⟩
  · rw [State.sampleChannel_eq]; rfl
  · rw [State.sampleChannel_eq]; rfl

/-- Settles O12. -/
theorem cordDebounceAndShortPress : Obligations.CordDebounceAndShortPress := by
  unfold Obligations.CordDebounceAndShortPress
  intro s c r hheld hr
  subst hr
  refine ⟨?_, fun harmed => ?_, fun harmed => ?_, fun hidle => ?_, fun hruns hpin hpressed harmed => ?_,
    fun hruns hpin hpressed harmed => ?_, fun hruns hpin hpressed => ?_, fun hruns hpin hpressed =>
      ⟨_, rfl, fun ⟨htime, hhold⟩ => ⟨fun hslot => ?_, fun hslot => ?_⟩, fun hlong => ?_⟩⟩
  · rw [exec_pullcordPinChange hheld, CordRecord.pinChange_self, State.withCord_self]
  · rw [exec_pullcordPinChange hheld, CordRecord.pinChange_not]
    congr 3
    rw [harmed]
    cases (s.mc.cord c).pinHigh <;> cases (s.mc.cord c).pressed <;> rfl
  · rw [exec_pullcordPinChange hheld, CordRecord.pinChange_not]
    congr 3
    simp [harmed]
  · rw [exec_debounceExpiry hheld, State.debounceExpired_idle hidle]
  · rw [exec_debounceExpiry hheld, State.debounceExpired_low hruns hpin hpressed, if_pos harmed]
    rfl
  · rw [exec_debounceExpiry hheld, State.debounceExpired_low hruns hpin hpressed, if_neg (by simp [harmed])]
  · rw [exec_debounceExpiry hheld, State.debounceExpired_arms hruns hpin hpressed]
  · rw [exec_debounceExpiry hheld, State.debounceExpired_release hruns hpin hpressed, if_pos ⟨htime, hhold⟩,
      State.shortPress_of_none (s := s.withCord c _) hslot, State.post, DemandTable.post_cord]
    rfl
  · rw [exec_debounceExpiry hheld, State.debounceExpired_release hruns hpin hpressed, if_pos ⟨htime, hhold⟩,
      State.shortPress_of_entry (s := s.withCord c _) hslot]
    rfl
  · rw [exec_debounceExpiry hheld, State.debounceExpired_release hruns hpin hpressed, if_neg]
    · rfl
    · rintro ⟨htime, hhold⟩
      rcases hlong with hlong | hlong
      · omega
      · exact absurd hhold (by simp [hlong])

/-- Settles O13. -/
theorem longHoldPostsOnePurge : Obligations.LongHoldPostsOnePurge := by
  unfold Obligations.LongHoldPostsOnePurge
  intro s c hheld
  refine ⟨fun hpressed hhold => ?_, fun hnot => ?_⟩
  · have hlong : s.longHold c = (s.withCord c { s.mc.cord c with pressTime := 3000, holdTaken := true }).post (.cord c)
        .purge 4 (some 900) := by
      simp [State.longHold, hpressed, hhold]
    rw [exec_longHold hheld, hlong, State.post, DemandTable.post_cord]
    rfl
  · rw [exec_longHold hheld]
    rcases hnot with hnot | hnot <;> simp [State.longHold, hnot]

end Sys2Proof.Machine

namespace Sys2Proof.Machine

/-! # The request handler (R131 to R139) and the demand table (R18 to R27) -/

section
variable {s t : State}

/-! ## Codes (12.3) -/

theorem RequestKind.ofCode_code (k : RequestKind) : RequestKind.ofCode k.code = some k := by cases k <;> rfl

theorem RequestKind.code_of_ofCode {b : Byte} {k : RequestKind} (h : RequestKind.ofCode b = some k) : k.code = b := by
  have := List.find?_some h
  simpa using this

theorem RequestKind.ofCode_eq_none {b : Byte} (h : ∀ k : RequestKind, k.code ≠ b) : RequestKind.ofCode b = none := by
  refine List.find?_eq_none.2 fun k _ => ?_
  simpa using h k

theorem DemandKind.code_eq (kind : DemandKind) : kind.code = kind.request.code := by cases kind <;> rfl

theorem DemandKind.ofCode_code (kind : DemandKind) : DemandKind.ofCode kind.code = some kind := by cases kind <;> rfl

theorem DemandKind.code_of_ofCode {b : Byte} {kind : DemandKind} (h : DemandKind.ofCode b = some kind) : kind.code = b := by
  unfold DemandKind.ofCode at h
  split at h
  case h_7 => cases h
  all_goals
    cases h
    exact RequestKind.code_of_ofCode ‹_›

theorem InjectMode.ofCode_code (m : InjectMode) : InjectMode.ofCode (byteOf m.code) = some m := by cases m <;> rfl

theorem InjectMode.ofCode_eq_none {b : Byte} (h : 3 ≤ b.toNat) : InjectMode.ofCode b = Option.none := by
  have h0 : b ≠ 0 := by rintro rfl; exact absurd h (by decide)
  have h1 : b ≠ 1 := by rintro rfl; exact absurd h (by decide)
  have h2 : b ≠ 2 := by rintro rfl; exact absurd h (by decide)
  unfold InjectMode.ofCode
  rw [if_neg h0, if_neg h1, if_neg h2]

/-! ## A request handled and answered (R131 to R139) -/

/-- A request command hands its record to the handler. -/
theorem exec_of_requestOf {c : Instr} {r : Request} (h : requestOf c = some r) (s : State) :
    exec c s = .next (s.request r) := by
  cases c <;> simp only [requestOf, Option.some.injEq, reduceCtorEq] at h <;> subst h <;> rfl

theorem State.handle_outcome (s : State) (r : Request) : (s.handle r).2 = (s.answer r).2 := rfl

/-- A request that its block takes is answered with the block's outcome. -/
theorem State.request_of_accepted {r : Request} {k : RequestKind} {o : RequestOutcome} (h : s.CanAsk r.source k)
    (hk : RequestKind.ofCode r.code = some k) (ht : s.route r k = (t, o)) (ho : o.isRefusal = false) :
    s.request r = t.deliver r.source { outcome := o, kindCode := r.code } := by
  obtain ⟨hrun, hmay, hallows⟩ := h
  have hanswer : s.answer r = (t, o) := (State.answer_of_allowed hk hallows).trans ht
  rw [State.request_of hrun hmay, State.submit, State.handle_of_not_refusal (by rw [hanswer]; exact ho), hanswer]

/-- A request that its block refuses is counted and answered (R139). -/
theorem State.request_of_refused {r : Request} {k : RequestKind} {o : RequestOutcome} (h : s.CanAsk r.source k)
    (hk : RequestKind.ofCode r.code = some k) (ht : s.route r k = (s, o)) (ho : o.isRefusal = true) :
    s.request r = (s.count .requestsRefused).deliver r.source { outcome := o, kindCode := r.code } := by
  obtain ⟨hrun, hmay, hallows⟩ := h
  have hanswer : s.answer r = (s, o) := (State.answer_of_allowed hk hallows).trans ht
  rw [State.request_of hrun hmay, State.submit, State.handle_of_refusal (by rw [hanswer]; exact ho), hanswer]

/-- A request command that its block takes. -/
theorem exec_accepted {c : Instr} {r : Request} {k : RequestKind} {o : RequestOutcome} (hc : requestOf c = some r)
    (h : s.CanAsk r.source k) (hk : RequestKind.ofCode r.code = some k) (ht : s.route r k = (t, o))
    (ho : o.isRefusal = false) : exec c s = .next (t.deliver r.source { outcome := o, kindCode := r.code }) := by
  rw [exec_of_requestOf hc, State.request_of_accepted h hk ht ho]

/-- A request command that its block refuses. -/
theorem exec_refused {c : Instr} {r : Request} {k : RequestKind} {o : RequestOutcome} (hc : requestOf c = some r)
    (h : s.CanAsk r.source k) (hk : RequestKind.ofCode r.code = some k) (ht : s.route r k = (s, o))
    (ho : o.isRefusal = true) :
    exec c s = .next ((s.count .requestsRefused).deliver r.source { outcome := o, kindCode := r.code }) := by
  rw [exec_of_requestOf hc, State.request_of_refused h hk ht ho]

/-! ### What a refusal leaves (R139) -/

/-- The live value of REQUESTS_REFUSED. -/
def State.refusals (s : State) : Word16 := s.eu.live[Counter.requestsRefused.index]

/-- A block's answer to a request is fair: a refusal leaves the state, and nothing counts a refusal but the handler. -/
def State.FairAnswer (s : State) (a : State × RequestOutcome) : Prop :=
  (a.2.isRefusal = true → a.1 = s) ∧ a.1.refusals = s.refusals

theorem State.FairAnswer.same (o : RequestOutcome) : s.FairAnswer (s, o) := ⟨fun _ => rfl, rfl⟩

theorem State.FairAnswer.accepted {o : RequestOutcome} (ho : o.isRefusal = false) (ht : t.refusals = s.refusals) :
    s.FairAnswer (t, o) :=
  ⟨fun h => (nomatch ho.symm.trans h), ht⟩

/-- An answer whose outcome says whether a value was clamped is no refusal. -/
theorem RequestOutcome.isRefusal_clamped (p : Prop) [Decidable p] :
    (if p then RequestOutcome.doneClamped else .done).isRefusal = false := by
  split <;> rfl

theorem State.refusals_congr (h : t.eu.live = s.eu.live) : t.refusals = s.refusals := by
  unfold State.refusals
  rw [h]

theorem State.handOn_live (s : State) (side : Side) (f : FilterRecord) : (s.handOn side f).eu.live = s.eu.live := by
  unfold State.handOn
  dsimp only
  split <;> rfl

theorem State.abandonOwned_live (s : State) (side : Side) (m : Master) : (s.abandonOwned side m).eu.live = s.eu.live := by
  unfold State.abandonOwned State.abandonChange
  split
  · dsimp only
    split
    · exact State.handOn_live _ _ _
    · rfl
  · rfl

theorem State.reportLoss_live (s : State) (i : Fin 15) : (s.reportLoss i).eu.live = s.eu.live := by
  have hmaster : ∀ m, (((s.removeMaster m).abandonOwned .supply m).abandonOwned .extract m).eu.live = s.eu.live :=
    fun m => (State.abandonOwned_live _ _ _).trans (State.abandonOwned_live _ _ _)
  unfold State.reportLoss
  dsimp only
  cases slotMaster i with
  | none => split <;> split <;> rfl
  | some m => split <;> split <;> exact hmaster m

theorem State.enterLost_live (s : State) (i : Fin 15) : (s.enterLost i).eu.live = s.eu.live :=
  State.reportLoss_live (s.withSlot i Slot.lost) i

theorem State.listChanged_live (before : BitVec 16) (s : State) (i : Fin 15) :
    (State.listChanged before s i).eu.live = s.eu.live := by
  unfold State.listChanged State.leaveList
  split
  · split
    · rfl
    · split
      · rfl
      · exact State.enterLost_live s i
      · exact State.enterLost_live s i
      · exact State.enterLost_live s i
  · rfl

theorem State.pollListChanged_live (s : State) (before : BitVec 16) : (s.pollListChanged before).eu.live = s.eu.live := by
  unfold State.pollListChanged
  generalize List.finRange 15 = l
  induction l generalizing s with
  | nil => rfl
  | cons i l ih => exact (ih _).trans (State.listChanged_live before s i)

/-- An owner's reaction to a setting counts nothing. -/
theorem State.react_live (s : State) (before : Settings) (id : SettingId) : (s.react before id).eu.live = s.eu.live := by
  unfold State.react
  split
  case h_11 =>
    unfold State.heatAddressChanged
    dsimp only
    split <;> rfl
  case h_12 => split <;> rfl
  case h_13 => exact s.pollListChanged_live _
  all_goals rfl

theorem State.demand_fair (s : State) (src : Master) (kind : DemandKind) (p : DemandParams) :
    s.FairAnswer (s.demand src kind p) := by
  unfold State.demand
  split
  · exact .same _
  dsimp only
  split
  · exact .same _
  · exact .accepted (RequestOutcome.isRefusal_clamped _) rfl
  · exact .accepted (RequestOutcome.isRefusal_clamped _) rfl

theorem State.withdraw_fair (s : State) (src : Master) (code : Byte) : s.FairAnswer (s.withdraw src code) := by
  unfold State.withdraw
  split
  · exact .same _
  split
  · exact .accepted rfl rfl
  · exact .same _

theorem State.filterBegin_fair (s : State) (src : Master) (code : Byte) : s.FairAnswer (s.filterBegin src code) := by
  unfold State.filterBegin
  split
  · exact .same _
  dsimp only
  split
  · exact .accepted rfl (State.refusals_congr (State.handOn_live _ _ _))
  split
  · exact .accepted rfl rfl
  · exact .same _

theorem State.filterAbandon_fair (s : State) (src : Master) (code : Byte) : s.FairAnswer (s.filterAbandon src code) := by
  unfold State.filterAbandon
  split
  · exact .same _
  dsimp only
  split
  · exact .same _
  split
  · exact .same _
  · exact .accepted rfl (State.refusals_congr (State.handOn_live _ _ _))

/-- A count moves its own counter alone. -/
theorem EventUnit.count_live_ne (e : EventUnit) (snapshot : Bool) {c d : Counter} (h : d.index ≠ c.index) :
    (e.count snapshot c).live[d.index] = e.live[d.index] := by
  rw [EventUnit.count_live]
  exact getElem_setAt_ne _ h _

theorem State.filterDone_fair (s : State) (src : Master) (code : Byte) : s.FairAnswer (s.filterDone src code) := by
  unfold State.filterDone
  split
  · exact .same _
  dsimp only
  split
  · exact .same _
  split
  · exact .same _
  · refine .accepted rfl ?_
    unfold State.refusals
    rw [State.saveDue_eu, State.count_eu, EventUnit.count_live_ne _ _ (by decide), State.handOn_live]

theorem State.requestSeason_fair (s : State) (src : Master) (code : Byte) : s.FairAnswer (s.requestSeason src code) := by
  unfold State.requestSeason
  split
  · exact .same _
  split
  · exact .same _
  split
  · exact .same _
  · exact .accepted rfl rfl

theorem State.clearLockout_fair (s : State) (target : Byte) : s.FairAnswer (s.clearLockout target) := by
  have hfan : ∀ side, s.FairAnswer (s.clearLockoutFan side) := fun side => by
    unfold State.clearLockoutFan
    dsimp only
    split
    · exact .accepted rfl rfl
    · exact .same _
  have hbypass : s.FairAnswer s.clearLockoutBypass := by
    unfold State.clearLockoutBypass
    split
    · exact .same _
    split
    · exact .accepted rfl rfl
    · exact .same _
  unfold State.clearLockout
  split
  · exact hfan _
  split
  · exact hfan _
  split
  · exact hbypass
  · exact .same _

theorem State.inject_fair (s : State) (channel mode : Byte) : s.FairAnswer (s.inject channel mode) := by
  unfold State.inject
  split
  · split
    · exact .same _
    dsimp only
    split
    · exact .same _
    · exact .accepted rfl rfl
  · exact .same _

theorem State.writeSetting_fair (s : State) (id value : Word16) : s.FairAnswer (s.writeSetting id value) := by
  unfold State.writeSetting
  split
  · exact .same _
  split
  · exact .same _
  dsimp only
  split
  · exact .same _
  · refine .accepted ?_ (State.refusals_congr (State.react_live _ _ _))
    split <;> rfl

theorem State.storeSettings_fair (s : State) : s.FairAnswer s.storeSettings := by
  unfold State.storeSettings
  split
  · exact .same _
  · exact .accepted rfl rfl

theorem State.need_fair {α : Type} {o : Option α} {f : α → State × RequestOutcome} (h : ∀ x, s.FairAnswer (f x)) :
    s.FairAnswer (need s o f) := by
  cases o
  · exact .same _
  · exact h _

/-- Every block's answer is fair, but that CLEAR_COUNTERS clears the count with the others. -/
theorem State.route_fair (s : State) (r : Request) {k : RequestKind} (h : k ≠ .clearCounters) :
    s.FairAnswer (s.route r k) := by
  cases k
  case withdraw => exact State.need_fair fun _ => s.withdraw_fair _ _
  case filterBegin => exact State.need_fair fun _ => s.filterBegin_fair _ _
  case filterDone => exact State.need_fair fun _ => s.filterDone_fair _ _
  case filterAbandon => exact State.need_fair fun _ => s.filterAbandon_fair _ _
  case setSeason => exact State.need_fair fun _ => s.requestSeason_fair _ _
  case clearLockout => exact State.need_fair fun _ => s.clearLockout_fair _
  case inject => exact State.need_fair fun _ => State.need_fair fun _ => s.inject_fair _ _
  case writeSetting => exact State.need_fair fun _ => State.need_fair fun _ => s.writeSetting_fair _ _
  case storeSettings => exact s.storeSettings_fair
  case clearCounters => exact absurd rfl h
  all_goals exact s.demand_fair _ _ _

theorem State.answer_of_refusal {r : Request} (h : (s.answer r).2.isRefusal = true) : (s.answer r).1 = s := by
  unfold State.answer at h ⊢
  split
  · rfl
  · rename_i k hk
    simp only [hk] at h
    split
    · rename_i hallows
      rw [if_pos hallows] at h
      by_cases hclear : k = .clearCounters
      · subst hclear
        refine absurd h ?_
        show ¬(if s.eu.allZero then RequestOutcome.doneNothing else .done).isRefusal = true
        split <;> decide
      · exact (s.route_fair r hclear).1 h
    · rfl

theorem State.answer_refusals {r : Request} (h : r.code ≠ 0x32) : (s.answer r).1.refusals = s.refusals := by
  unfold State.answer
  split
  · rfl
  · rename_i k hk
    split
    · refine (s.route_fair r ?_).2
      rintro rfl
      exact h (RequestKind.code_of_ofCode hk).symm
    · rfl

/-! ## Demands (R18 to R25) -/

theorem levelFlow_of_getElem? {set : Settings} {i : Fin 5} {flow : Nat} (h : set.levels[i.val]? = some flow) :
    set.levelFlow i = flow := by
  rw [Vector.getElem?_eq_getElem i.isLt] at h
  exact Option.some.inj h

theorem demandFlow_of_asked {set : Settings} {kind : DemandKind} {p : DemandParams} {flow : Nat} {clamped : Bool}
    (h : FlowAsked set kind p flow clamped) : demandFlow set kind p = some ⟨flow, clamped⟩ := by
  unfold FlowAsked at h
  by_cases hkind : kind = .shutdown
  · subst hkind
    obtain ⟨rfl, rfl⟩ := by simpa using h
    rfl
  rw [if_neg hkind] at h
  unfold demandFlow
  split
  · exact absurd rfl hkind
  split
  · rename_i l f hl
    simp only [hl] at h
    obtain ⟨hlt, hlevel, rfl⟩ := h
    rw [dif_pos hlt, levelFlow_of_getElem? hlevel]
  · rename_i f hl hf
    simp only [hl, hf] at h
    obtain ⟨rfl, hclamped⟩ := h
    have hne : (clampFlow set.qmin set.qmax f.toNat != f.toNat) = clamped := by
      rw [Bool.eq_iff_iff, hclamped, bne_iff_ne]
      rfl
    dsimp only
    rw [hne]
    rfl
  · rename_i hl hf
    simp only [hl, hf] at h
    obtain ⟨hlevel, rfl⟩ := h
    rw [levelFlow_of_getElem? hlevel]

/-- A level above 4 names no level (R19). -/
theorem demandFlow_of_bad_level {set : Settings} {kind : DemandKind} {p : DemandParams} {l : Byte} (hl : p.level = some l)
    (hlevel : 5 ≤ l.toNat) (hkind : kind ≠ .shutdown) : demandFlow set kind p = none := by
  unfold demandFlow
  split
  · contradiction
  · rw [hl]
    exact dif_neg (by omega)

theorem demandDuration_of_asked {kind : DemandKind} {duration : Option Word16} {remaining : Option Nat} {clamped : Bool}
    (h : DurationAsked kind duration remaining clamped) : demandDuration kind duration = ⟨remaining, clamped⟩ := by
  unfold DurationAsked at h
  cases duration with
  | none =>
    obtain ⟨rfl, rfl⟩ := by simpa using h
    rfl
  | some d =>
    by_cases hzero : d = 0
    · subst hzero
      obtain ⟨rfl, rfl⟩ := by simpa using h
      rfl
    · rw [if_neg (by simpa using hzero)] at h
      obtain ⟨rfl, hclamped⟩ := h d rfl
      have hpos : d.toNat ≠ 0 := fun h0 => hzero (BitVec.eq_of_toNat_eq h0)
      unfold demandDuration
      split
      · rename_i hd; cases hd
      · rename_i hd; exact absurd (Option.some.inj hd) hpos
      · rename_i n _ hd
        obtain rfl : d.toNat = n := Option.some.inj hd
        split
        · rename_i hle
          rw [Nat.min_eq_left hle, Bool.eq_false_iff.2 fun hc => absurd (hclamped.1 hc) (by omega)]
        · rename_i hlt
          rw [Nat.min_eq_right (by omega), hclamped.2 (by omega)]

/-- The request of a demand command. -/
theorem requestOf_demand (kind : DemandKind) (src : Master) (p : DemandParams) :
    requestOf (demandCommand kind src p) = some { Request.bare kind.code src with demand := p } := by
  cases kind <;> rfl

theorem State.route_demand (s : State) (r : Request) (kind : DemandKind) :
    s.route r kind.request = s.demand r.source kind r.demand := by
  cases kind <;> rfl

/-- A demand accepted: the table that its placement gives, under the flow and the duration asked (R18 to R24). -/
theorem State.demand_of_placed {src : Master} {kind : DemandKind} {p : DemandParams} {flow : Nat} {remaining : Option Nat}
    {c d : Bool} {rest : List Entry} (hflow : FlowAsked s.settings kind p flow c)
    (hduration : DurationAsked kind p.duration remaining d) (hplace : s.da.table.place (.master src) kind = .placed rest) :
    s.demand src kind p =
      (s.withTable (s.da.table.append rest (.master src) kind flow remaining), if c || d then .doneClamped else .done) := by
  unfold State.demand
  simp only [demandFlow_of_asked hflow, demandDuration_of_asked hduration, hplace]

theorem State.demand_of_evicting {src : Master} {kind : DemandKind} {p : DemandParams} {flow : Nat}
    {remaining : Option Nat} {c d : Bool} {rest : List Entry} (hflow : FlowAsked s.settings kind p flow c)
    (hduration : DurationAsked kind p.duration remaining d)
    (hplace : s.da.table.place (.master src) kind = .evicting rest) :
    s.demand src kind p =
      ((s.raise .entryEvicted).withTable (s.da.table.append rest (.master src) kind flow remaining),
        if c || d then .doneClamped else .done) := by
  unfold State.demand
  simp only [demandFlow_of_asked hflow, demandDuration_of_asked hduration, hplace]

theorem State.demand_of_full {src : Master} {kind : DemandKind} {p : DemandParams} {flow : Nat} {c : Bool}
    (hflow : FlowAsked s.settings kind p flow c) (hplace : s.da.table.place (.master src) kind = .full) :
    s.demand src kind p = (s, .tableFull) := by
  unfold State.demand
  simp only [demandFlow_of_asked hflow, hplace]

/-- A demand command that its block takes. -/
theorem State.CanAsk.demand_accepted {src : Master} {kind : DemandKind} (h : s.CanAsk src kind.request) {p : DemandParams}
    {o : RequestOutcome} (ht : s.demand src kind p = (t, o)) (ho : o.isRefusal = false) :
    exec (demandCommand kind src p) s = .next (t.deliver src { outcome := o, kindCode := kind.code }) := by
  exact exec_accepted (k := kind.request) (requestOf_demand kind src p) h (DemandKind.code_eq kind ▸ RequestKind.ofCode_code _)
    ((State.route_demand _ _ _).trans ht) ho

/-- A demand command that its block refuses. -/
theorem State.CanAsk.demand_refused {src : Master} {kind : DemandKind} (h : s.CanAsk src kind.request) {p : DemandParams}
    {o : RequestOutcome} (ht : s.demand src kind p = (s, o)) (ho : o.isRefusal = true) :
    exec (demandCommand kind src p) s =
      .next ((s.count .requestsRefused).deliver src { outcome := o, kindCode := kind.code }) := by
  exact exec_refused (k := kind.request) (requestOf_demand kind src p) h (DemandKind.code_eq kind ▸ RequestKind.ofCode_code _)
    ((State.route_demand _ _ _).trans ht) ho

theorem filter_hasPair (l : List Entry) (src : Source) (kind : DemandKind) :
    (l.filter fun e => !e.hasPair src kind) = l.filter fun e => e.pair ≠ (src, kind) := by
  refine List.filter_congr fun e _ => ?_
  rw [Bool.eq_iff_iff]
  simp [← Entry.hasPair_iff_pair]

theorem any_hasPair_iff {l : List Entry} {src : Source} {kind : DemandKind} :
    (l.any fun e => e.hasPair src kind) = true ↔ ∃ e ∈ l, e.pair = (src, kind) := by
  simp [Entry.hasPair_iff_pair]

theorem filter_pair_of_absent {l : List Entry} {src : Source} {kind : DemandKind} (h : ∀ e ∈ l, e.pair ≠ (src, kind)) :
    (l.filter fun e => e.pair ≠ (src, kind)) = l :=
  List.filter_eq_self.2 fun e he => by simpa using h e he

/-- A pair that is present, or a free place, places a demand (R22). -/
theorem DemandTable.place_of_room {u : DemandTable} {src : Source} {kind : DemandKind}
    (h : (∃ e ∈ u.general, e.pair = (src, kind)) ∨ u.general.length < 12) :
    u.place src kind = .placed (u.general.filter fun e => e.pair ≠ (src, kind)) := by
  unfold DemandTable.place
  split
  · rw [filter_hasPair]
  · rename_i hany
    have habsent : ¬∃ e ∈ u.general, e.pair = (src, kind) := fun hex => hany (any_hasPair_iff.2 hex)
    rw [if_pos (show u.general.length < generalSize from h.resolve_left habsent), filter_pair_of_absent fun e he hp => habsent ⟨e, he, hp⟩]

theorem DemandTable.place_of_absent {u : DemandTable} {src : Source} {kind : DemandKind} (hfull : 12 ≤ u.general.length)
    (habsent : ∀ e ∈ u.general, e.pair ≠ (src, kind)) :
    ¬(u.general.any fun e => e.hasPair src kind) = true ∧ ¬u.general.length < generalSize := by
  refine ⟨fun hany => ?_, Nat.not_lt.2 hfull⟩
  obtain ⟨e, he, hp⟩ := any_hasPair_iff.1 hany
  exact habsent e he hp

/-- A full general part leaves a new pair no place (R23). -/
theorem DemandTable.place_of_full {u : DemandTable} {src : Source} {kind : DemandKind} (hfull : 12 ≤ u.general.length)
    (habsent : ∀ e ∈ u.general, e.pair ≠ (src, kind)) (hkind : kind ≠ .shutdown) : u.place src kind = .full := by
  obtain ⟨hany, hlen⟩ := DemandTable.place_of_absent hfull habsent
  unfold DemandTable.place
  rw [if_neg hany, if_neg hlen, if_neg hkind]

/-- A SHUTDOWN takes the place of the entry that it evicts (R24). -/
theorem DemandTable.place_of_eviction {u : DemandTable} {src : Source} {rest : List Entry} (hfull : 12 ≤ u.general.length)
    (habsent : ∀ e ∈ u.general, e.pair ≠ (src, .shutdown)) (hevict : evictOldest u.general = some rest) :
    u.place src .shutdown = .evicting rest := by
  obtain ⟨hany, hlen⟩ := DemandTable.place_of_absent hfull habsent
  unfold DemandTable.place
  rw [if_neg hany, if_neg hlen, if_pos rfl, hevict]

theorem evictOldest_append {older newer : List Entry} {e : Entry} (h : ∀ x ∈ older, x.kind = .shutdown)
    (he : e.kind ≠ .shutdown) : evictOldest (older ++ e :: newer) = some (older ++ newer) := by
  induction older with
  | nil => simp [evictOldest, he]
  | cons x l ih =>
    simp [evictOldest, h x (List.mem_cons_self ..), ih fun y hy => h y (List.mem_cons_of_mem _ hy)]

/-! ## The expiry of durations (R27) -/

theorem exec_demandExpiry (h : s.phase ≠ .held) :
    exec .demandExpiry s = .next (if s.da.table.expire.entries.length = s.da.table.entries.length then
      s.setDa { s.da with table := s.da.table.expire } else s.withTable s.da.table.expire) :=
  congrArg Host.Outcome.next (State.unlessHeld_of_ne h _)

/-- Nothing leaves exactly when the number of entries stands. -/
theorem length_filterMap_eq_iff {α β : Type} {f : α → Option β} {l : List α} :
    (l.filterMap f).length = l.length ↔ ∀ x ∈ l, f x ≠ none := by
  rw [List.length_filterMap_eq_countP, List.countP_eq_length]
  simp [Option.isSome_iff_ne_none]

end

/-- Settles O11. -/
theorem injectSetsTheModeOfOneChannel : Obligations.InjectSetsTheModeOfOneChannel := by
  unfold Obligations.InjectSetsTheModeOfOneChannel
  intro s src hask
  refine ⟨fun ch m => ?_, fun channel mode hbad => ?_⟩
  · have hch : (byteOf ch.val).toNat = ch.val := by simp [byteOf]; omega
    have hinject : s.inject (byteOf ch.val) (byteOf m.code) =
        if (s.channel ch).injection = m then (s, .doneNothing)
        else (s.setMc { s.mc with channels := setAt s.mc.channels ch { s.channel ch with injection := m } }, .done) := by
      unfold State.inject
      rw [dif_pos (by omega), InjectMode.ofCode_code]
      simp only [hch]
    have hc : requestOf (.inject src (some (byteOf ch.val)) (some (byteOf m.code))) = some _ := rfl
    split
    · rename_i hheld
      exact exec_accepted (k := .inject) hc hask rfl (hinject.trans (if_pos hheld)) rfl
    · rename_i hother
      exact exec_accepted (k := .inject) hc hask rfl (hinject.trans (if_neg hother)) rfl
  · have hroute : need s channel (fun c => need s mode fun m => s.inject c m) = (s, .notApplicable) := by
      cases channel with
      | none => rfl
      | some c =>
        cases mode with
        | none => rfl
        | some m =>
          show s.inject c m = _
          unfold State.inject
          rcases hbad with hbad | hbad
          · exact dif_neg (by have := hbad c rfl; omega)
          · rw [InjectMode.ofCode_eq_none (hbad m rfl)]
            split <;> rfl
    have hc : requestOf (.inject src channel mode) = some _ := rfl
    exact exec_refused (k := .inject) hc hask rfl hroute rfl

/-- Settles O14. -/
theorem acceptedDemandTakesTheNewestPlace : Obligations.AcceptedDemandTakesTheNewestPlace := by
  unfold Obligations.AcceptedDemandTakesTheNewestPlace
  intro s src kind p hask
  refine ⟨fun flow remaining c d hflow hduration hroom => ?_, fun l hl hlevel hkind => ?_⟩
  · rw [hask.demand_accepted (State.demand_of_placed hflow hduration (DemandTable.place_of_room hroom))
      (RequestOutcome.isRefusal_clamped _)]
    rfl
  · refine hask.demand_refused ?_ rfl
    simp [State.demand, demandFlow_of_bad_level hl hlevel hkind]

/-- Settles O15. -/
theorem fullTableRefusesAllButShutdown : Obligations.FullTableRefusesAllButShutdown := by
  unfold Obligations.FullTableRefusesAllButShutdown
  intro s src kind p flow remaining c d hask hflow hduration hfull habsent
  refine ⟨fun hkind => ?_, fun older e newer hkind hgeneral holder he => ?_⟩
  · exact hask.demand_refused (State.demand_of_full hflow (DemandTable.place_of_full hfull habsent hkind)) rfl
  · subst hkind
    obtain ⟨rfl, rfl⟩ : flow = 0 ∧ c = false := by simpa [FlowAsked] using hflow
    have hplace := DemandTable.place_of_eviction hfull habsent (hgeneral ▸ evictOldest_append holder he)
    rw [hask.demand_accepted (State.demand_of_evicting hflow hduration hplace) (RequestOutcome.isRefusal_clamped _)]
    rfl

/-- Settles O16. -/
theorem withdrawRemovesTheSourcesOwnEntry : Obligations.WithdrawRemovesTheSourcesOwnEntry := by
  unfold Obligations.WithdrawRemovesTheSourcesOwnEntry
  intro s src hask
  refine ⟨fun kind => ⟨fun hpresent => ?_, fun habsent => ?_⟩, fun named hnamed => ?_⟩
  · have hwithdraw : s.withdraw src kind.code = (s.withTable { s.da.table with
        general := s.da.table.general.filter fun e => e.pair ≠ (.master src, kind) }, .done) := by
      unfold State.withdraw
      rw [DemandKind.ofCode_code]
      dsimp only
      rw [if_pos (any_hasPair_iff.2 hpresent), filter_hasPair]
    have hc : requestOf (.withdraw src (some kind.code)) = some _ := rfl
    exact exec_accepted (k := .withdraw) hc hask rfl hwithdraw rfl
  · have hwithdraw : s.withdraw src kind.code = (s, .doneNothing) := by
      unfold State.withdraw
      rw [DemandKind.ofCode_code]
      refine if_neg fun hany => ?_
      obtain ⟨e, he, hp⟩ := any_hasPair_iff.1 hany
      exact habsent e he hp
    have hc : requestOf (.withdraw src (some kind.code)) = some _ := rfl
    exact exec_accepted (k := .withdraw) hc hask rfl hwithdraw rfl
  · have hroute : need s named (s.withdraw src) = (s, .notApplicable) := by
      cases named with
      | none => rfl
      | some b =>
        show s.withdraw src b = _
        unfold State.withdraw
        cases hb : DemandKind.ofCode b with
        | none => rfl
        | some kind => exact absurd (congrArg some (DemandKind.code_of_ofCode hb).symm) (hnamed kind)
    have hc : requestOf (.withdraw src named) = some _ := rfl
    exact exec_refused (k := .withdraw) hc hask rfl hroute rfl

/-- Settles O17. -/
theorem expiryCountsEveryDurationDown : Obligations.ExpiryCountsEveryDurationDown := by
  unfold Obligations.ExpiryCountsEveryDurationDown
  intro s tick hheld htick
  obtain rfl : tick = Entry.tick := funext fun e => by
    rw [htick]
    unfold Entry.tick
    cases e.remaining <;> rfl
  have hkept : s.da.table.expire.entries.length = s.da.table.entries.length ↔
      ∀ e ∈ s.da.table.entries, e.tick ≠ none := by
    rw [DemandTable.entries_expire, length_filterMap_eq_iff]
  refine ⟨_, exec_demandExpiry hheld, ?_⟩
  split
  · rename_i hlen
    refine ⟨rfl, rfl, rfl, rfl, rfl, rfl, fun _ => rfl, fun ⟨e, he, hgone⟩ => absurd hgone (hkept.1 hlen e he)⟩
  · rename_i hlen
    exact ⟨rfl, rfl, rfl, rfl, rfl, rfl, fun hall => absurd (hkept.2 hall) hlen, fun _ => rfl⟩

/-- Settles O19. -/
theorem outcomeReachesItsSenderAlone : Obligations.OutcomeReachesItsSenderAlone := by
  unfold Obligations.OutcomeReachesItsSenderAlone
  intro s a
  refine ⟨s.deliver_unit a, fun m i hm => ?_⟩
  have hslot : masterSlot m = some i := by
    rcases hm with ⟨rfl, rfl⟩ | ⟨n, rfl, hi⟩
    · rfl
    · exact congrArg some (Fin.ext hi.symm)
  exact ⟨fun hl => State.deliver_slot hslot hl a, fun hl => State.deliver_lost hslot hl a⟩

/-- Settles O20. -/
theorem unknownKindIsRefusedUnread : Obligations.UnknownKindIsRefusedUnread := by
  unfold Obligations.UnknownKindIsRefusedUnread
  intro s code hcode
  have hhandle : ∀ r : Request, r.code = code → s.handle r = (s.count .requestsRefused, .refusedUnknown) := fun r hr => by
    have hanswer : s.answer r = (s, .refusedUnknown) := by
      unfold State.answer
      rw [hr, RequestKind.ofCode_eq_none hcode]
    rw [State.handle_of_refusal (by rw [hanswer]; rfl), hanswer]
  refine ⟨hhandle, fun src hrun hmay => ?_⟩
  rw [exec_of_requestOf rfl, State.request_of hrun hmay, State.submit, hhandle _ rfl]
  rfl

/-- Settles O21: `State.route_fair` says of each block what its answer leaves. -/
theorem refusedRequestOnlyCounts : Obligations.RefusedRequestOnlyCounts := by
  unfold Obligations.RefusedRequestOnlyCounts
  refine ⟨fun s r hrefused => ?_, fun s r haccepted hcode => ?_, fun s c r hc hrun hmay => ?_, fun s r k hk hallows => ?_,
    fun set => ⟨rfl, rfl, rfl, rfl, rfl, rfl⟩⟩
  · have hrefusal : (s.answer r).2.isRefusal = true := by
      rw [State.handle_outcome] at hrefused
      revert hrefused
      cases (s.answer r).2 <;> decide
    rw [State.handle_of_refusal hrefusal, State.answer_of_refusal hrefusal]
  · have hrefusal : (s.answer r).2.isRefusal = false := by
      rw [State.handle_outcome] at haccepted
      revert haccepted
      cases (s.answer r).2 <;> decide
    rw [State.handle_of_not_refusal hrefusal]
    exact State.answer_refusals hcode
  · rw [exec_of_requestOf hc, State.request_of hrun hmay]
    rfl
  · rw [State.handle_outcome]
    unfold State.answer
    rw [hk]
    exact congrArg Prod.snd (if_neg (by simp [hallows]))

end Sys2Proof.Machine

namespace Sys2Proof.Machine

/-! # The fans' own timers, the curve, and CLEAR_LOCKOUT (R41, R49 to R56, R60) -/

section
variable {s t : State}

/-! ## Stalls and lockouts (R53, R56) -/

theorem FanRecord.enterStalled_of_lt {f : FanRecord} (h : f.retries < 2) (holdoff : Nat) :
    f.enterStalled holdoff = f.atRest .stalled (some (max 30 holdoff)) (f.retries + 1) :=
  if_pos (by omega)

theorem FanRecord.enterStalled_of_le {f : FanRecord} (h : 2 ≤ f.retries) (holdoff : Nat) :
    f.enterStalled holdoff = f.atRest .lockedOut none (f.retries + 1) :=
  if_neg (by omega)

theorem State.stallFan_of_lt {side : Side} (h : (s.ae.fan side).retries < 2) :
    s.stallFan side = ((s.withFan side ((s.ae.fan side).atRest .stalled (some (max 30 s.settings.holdoffTime))
      ((s.ae.fan side).retries + 1))).raise (stallFlag side)).count (stallCounter side) := by
  unfold State.stallFan
  rw [FanRecord.enterStalled_of_lt h]
  exact if_neg nofun

theorem State.stallFan_of_le {side : Side} (h : 2 ≤ (s.ae.fan side).retries) :
    s.stallFan side = (((s.withFan side ((s.ae.fan side).atRest .lockedOut none
      ((s.ae.fan side).retries + 1))).raise (stallFlag side)).count (stallCounter side)).raise (lockoutFlag side) := by
  unfold State.stallFan
  rw [FanRecord.enterStalled_of_le h]
  exact if_pos rfl

/-! ## Ports (R41, R65) -/

theorem State.rightHanded_eq_false_iff : s.rightHanded = false ↔ s.straps.b.val < 2 := by
  unfold State.rightHanded
  simp

theorem State.roleOf_supply_iff (port : FanPort) : s.roleOf port = .supply ↔ (port = .a ↔ s.straps.b.val < 2) := by
  rw [← State.rightHanded_eq_false_iff]
  unfold State.roleOf
  cases port <;> cases s.rightHanded <;> decide

/-- The duties on the ports are those of the fans that they carry. -/
theorem Airflow.drive_duties (ae : Airflow) (s : State) :
    (ae.drive s.rightHanded).dutyA = (ae.fan (s.roleOf .a)).duty ∧
      (ae.drive s.rightHanded).dutyB = (ae.fan (s.roleOf .b)).duty := by
  unfold State.roleOf
  cases s.rightHanded <;> exact ⟨rfl, rfl⟩

/-! ## The commands of the fans' timers (R42, R50, R51, R54) -/

theorem exec_tachoPulse (h : s.phase ≠ .held) (port : FanPort) (micros : Nat) :
    exec (.tachoPulse port micros) s = .next (s.setAe (s.ae.withFan (s.roleOf port)
      { s.ae.fan (s.roleOf port) with tacho := (s.ae.fan (s.roleOf port)).tacho.pulse micros })) :=
  congrArg Host.Outcome.next (State.unlessHeld_of_ne h _)

theorem exec_holdoffExpiry (h : s.phase ≠ .held) (side : Side) :
    exec (.holdoffExpiry side) s = .next (if (s.ae.fan side).state = .holdoff then
      s.withFan side { s.ae.fan side with state := .stopped, wait := none } else s) :=
  congrArg Host.Outcome.next (State.unlessHeld_of_ne h _)

theorem exec_startTimeExpiry (h : s.phase ≠ .held) (side : Side) :
    exec (.startTimeExpiry side) s =
      .next (if (s.ae.fan side).state = .starting then s.stallFan side else s) :=
  congrArg Host.Outcome.next (State.unlessHeld_of_ne h _)

theorem exec_retryWaitExpiry (h : s.phase ≠ .held) (side : Side) :
    exec (.retryWaitExpiry side) s = .next (if (s.ae.fan side).state = .stalled then
      s.withFan side (if 0 < (s.ae.fan side).qc then (s.ae.fan side).enterStarting
        else { s.ae.fan side with state := .stopped, wait := none }) else s) :=
  congrArg Host.Outcome.next (State.unlessHeld_of_ne h _)

/-! ## The curve (R60) -/

/-- The segment that ends at the first point not below the flow is taken. -/
theorem curveFrom_of_getElem {q : Nat} {l : List (Nat × Nat)} {n : Nat} (hn : n < l.length) (p : Nat × Nat)
    (hbelow : ∀ (k : Nat) (hk : k < n), (l[k]'(by omega)).1 < q) (hq : q ≤ l[n].1) :
    curveFrom q p l = (interpolate ((p :: l)[n]'(by simp; omega)) l[n] q, false) := by
  induction l generalizing p n with
  | nil => exact absurd hn (Nat.not_lt_zero n)
  | cons r l ih =>
    cases n with
    | zero => exact if_pos hq
    | succ n =>
      have hr : r.1 < q := hbelow 0 (Nat.succ_pos n)
      calc curveFrom q p (r :: l) = curveFrom q r l := if_neg (by omega)
        _ = _ := ih (Nat.lt_of_succ_lt_succ hn) r (fun k hk => hbelow (k + 1) (Nat.succ_lt_succ hk)) hq

/-- Above every point the last speed stands, with the curve limit. -/
theorem curveFrom_of_above {q : Nat} {l : List (Nat × Nat)} (p : Nat × Nat) (habove : ∀ r ∈ l, r.1 < q) :
    curveFrom q p l = (((p :: l).getLast (by simp)).2, true) := by
  induction l generalizing p with
  | nil => rfl
  | cons r l ih =>
    have hr : r.1 < q := habove r (List.mem_cons_self ..)
    calc curveFrom q p (r :: l) = curveFrom q r l := if_neg (by omega)
      _ = _ := by rw [ih r fun x hx => habove x (List.mem_cons_of_mem _ hx)]; rfl

/-- The point of a curve at a place. -/
def Curve.point (c : Curve) (i : Fin 8) : Nat × Nat := (c.flows[i], c.speeds[i])

theorem Curve.points_eq (c : Curve) :
    c.points = [c.point 0, c.point 1, c.point 2, c.point 3, c.point 4, c.point 5, c.point 6, c.point 7] := by
  apply List.ext_getElem
  · simp [Curve.points]
  · intro i hi hi'
    have : i < 8 := by simpa using hi'
    interval_cases i <;> simp [Curve.points, Curve.point]

/-- The points after the first. -/
def Curve.rest (c : Curve) : List (Nat × Nat) :=
  [c.point 1, c.point 2, c.point 3, c.point 4, c.point 5, c.point 6, c.point 7]

/-- A flow above a curve's first flow is looked up from the first point on. -/
theorem Curve.speedAt_of_lt {c : Curve} {q : Nat} (h : c.flows[0] < q) : c.speedAt q = curveFrom q (c.point 0) c.rest := by
  unfold Curve.speedAt
  rw [c.points_eq]
  exact if_neg (Nat.not_le.2 h)

theorem Curve.getElem_points (c : Curve) {n : Nat} (hn : n < 8) :
    (c.point 0 :: c.rest)[n]'(by simpa [Curve.rest] using hn) = c.point ⟨n, hn⟩ := by
  interval_cases n <;> rfl

theorem Curve.length_rest (c : Curve) : c.rest.length = 7 := rfl

theorem Curve.getElem_rest (c : Curve) {n : Nat} (hn : n < c.rest.length) :
    c.rest[n] = c.point ⟨n + 1, by rw [c.length_rest] at hn; omega⟩ :=
  c.getElem_points (n := n + 1) (by rw [c.length_rest] at hn; omega)

end

/-- Settles O22. -/
theorem fanTimersAndTachoPulses : Obligations.FanTimersAndTachoPulses := by
  unfold Obligations.FanTimersAndTachoPulses
  intro s hheld
  refine ⟨State.roleOf_supply_iff, fun side f => ?_, fun port micros f hf => ?_, fun side f hf => ?_⟩
  · refine ⟨State.withFan_fan_self s side f, fun other hother => ?_, ?_, ?_, rfl⟩
    · exact (Airflow.drive_fan _ _ _).trans (Airflow.fan_withFan_ne _ hother _)
    · exact (Airflow.drive_duties _ s).1.trans (by rw [State.withFan]; simp)
    · exact (Airflow.drive_duties _ s).2.trans (by rw [State.withFan]; simp)
  · subst hf
    rw [exec_tachoPulse hheld]
    refine ⟨fun hnone => ?_, fun before hbefore => ?_⟩
    · simp [Tacho.pulse, hnone]
    · simp [Tacho.pulse, hbefore]
  · subst hf
    refine ⟨fun h => ?_, fun h => ?_, fun h hqc => ?_, fun h hqc => ?_, fun h => ?_, fun h hretries => ?_,
      fun h hretries => ?_, fun h => ?_⟩
    · rw [exec_holdoffExpiry hheld, if_pos h]
    · rw [exec_holdoffExpiry hheld, if_neg h]
    · rw [exec_retryWaitExpiry hheld, if_pos h, if_pos hqc]
      rfl
    · rw [exec_retryWaitExpiry hheld, if_pos h, if_neg (by omega)]
    · rw [exec_retryWaitExpiry hheld, if_neg h]
    · rw [exec_startTimeExpiry hheld, if_pos h, State.stallFan_of_lt hretries]
    · rw [exec_startTimeExpiry hheld, if_pos h, State.stallFan_of_le hretries]
    · rw [exec_startTimeExpiry hheld, if_neg h]

/-- Settles O26: the points before a flow's segment lie below it, as the flows increase. -/
theorem curveInterpolatesBetweenItsPoints : Obligations.CurveInterpolatesBetweenItsPoints := by
  unfold Obligations.CurveInterpolatesBetweenItsPoints
  intro c q hmono
  have hle : ∀ i j : Fin 8, i ≤ j → c.flows[i] ≤ c.flows[j] := fun i j hij => by
    rcases Fin.lt_or_eq_of_le hij with hlt | rfl
    · exact Nat.le_of_lt (hmono i j hlt)
    · exact Nat.le_refl _
  refine ⟨fun hq => ?_, fun i j hij hi hj => ?_, fun hq => ?_⟩
  · unfold Curve.speedAt
    rw [c.points_eq]
    exact if_pos hq
  · obtain ⟨j, hjlt⟩ := j
    obtain rfl : j = i.val + 1 := hij
    have hbelow : ∀ k : Fin 8, k ≤ i → c.flows[k] < q := fun k hk => Nat.lt_of_le_of_lt (hle k i hk) hi
    have hn : i.val < c.rest.length := by rw [c.length_rest]; omega
    have hsegment := curveFrom_of_getElem (l := c.rest) (n := i.val) hn (c.point 0)
      (fun k hk => by
        rw [c.getElem_rest (by omega)]
        exact hbelow ⟨k + 1, by omega⟩ (Fin.mk_le_of_le_val (by omega)))
      (by
        rw [c.getElem_rest hn]
        exact hj)
    rw [Curve.speedAt_of_lt (hbelow 0 (Fin.zero_le i)), hsegment, c.getElem_points i.isLt, c.getElem_rest hn]
    rfl
  · have hbelow : ∀ k : Fin 8, c.flows[k] < q := fun k => Nat.lt_of_le_of_lt (hle k 7 (by omega)) hq
    rw [Curve.speedAt_of_lt (hbelow 0), curveFrom_of_above _ fun r hr => ?_]
    · rfl
    · obtain ⟨n, hn, rfl⟩ := List.getElem_of_mem hr
      rw [c.getElem_rest hn]
      exact hbelow _

/-- Settles O29. -/
theorem clearLockoutFreesAFanOrTheDamper : Obligations.ClearLockoutFreesAFanOrTheDamper := by
  unfold Obligations.ClearLockoutFreesAFanOrTheDamper
  intro s src hask
  have hfan : ∀ side : Side, s.clearLockout (if side = .supply then 0 else 1) = s.clearLockoutFan side := fun side => by
    cases side <;> rfl
  have hbypass : requestOf (.clearLockoutBypass src) = some _ := rfl
  refine ⟨fun side => ?_, fun target htarget => ?_, fun hfitted => ?_, fun hfitted hstate => ?_,
    fun hfitted hstate hopen => ?_, fun hfitted hstate hclosed => ?_⟩
  · have hc : requestOf (.clearLockoutFan src (some (if side = .supply then 0 else 1))) = some _ := rfl
    refine ⟨fun hlocked => ?_, fun hlocked => ?_⟩
    · exact exec_accepted (k := .clearLockout) hc hask rfl ((hfan side).trans (if_pos hlocked)) rfl
    · exact exec_accepted (k := .clearLockout) hc hask rfl ((hfan side).trans (if_neg hlocked)) rfl
  · have hroute : need s target s.clearLockout = (s, .notApplicable) := by
      cases target with
      | none => rfl
      | some b =>
        have hb := htarget b rfl
        have h0 : b ≠ 0 := by rintro rfl; exact absurd hb (by decide)
        have h1 : b ≠ 1 := by rintro rfl; exact absurd hb (by decide)
        have h2 : b ≠ 2 := by rintro rfl; exact absurd hb (by decide)
        show s.clearLockout b = _
        unfold State.clearLockout
        rw [if_neg h0, if_neg h1, if_neg h2]
    have hc : requestOf (.clearLockoutFan src target) = some _ := rfl
    exact exec_refused (k := .clearLockout) hc hask rfl hroute rfl
  · have hroute : s.clearLockoutBypass = (s, .notApplicable) := by simp [State.clearLockoutBypass, hfitted]
    exact exec_refused (k := .clearLockout) hbypass hask rfl hroute rfl
  · have hroute : s.clearLockoutBypass = (s, .doneNothing) := by simp [State.clearLockoutBypass, hfitted, hstate]
    exact exec_accepted (k := .clearLockout) hbypass hask rfl hroute rfl
  · have hroute : s.clearLockoutBypass = (s.setDamper { s.damper with
        state := .closing
        position := s.settings.bypassTravel
        allowance := some s.settings.bypassTravel
        elapsed := some 0
        drive := .closing }, .done) := by
      simp [State.clearLockoutBypass, hfitted, hstate, Damper.begin, Damper.switchMade, hopen]
    exact exec_accepted (k := .clearLockout) hbypass hask rfl hroute rfl
  · have hroute : s.clearLockoutBypass = (s.setDamper { s.damper with
        state := .closed
        position := 0
        allowance := none
        elapsed := none
        drive := .off }, .done) := by
      simp [State.clearLockoutBypass, hfitted, hstate, Damper.begin, Damper.switchMade, hclosed, Damper.complete]
    exact exec_accepted (k := .clearLockout) hbypass hask rfl hroute rfl

end Sys2Proof.Machine

namespace Sys2Proof.Machine

/-! # What a control step makes of each fan (R42 to R64) -/

section
variable {s t : State}

/-! ## Stage 1 (R42, R50, R52) -/

/-- A fan after stage 1, `free` standing for the quotient by a mean period of 0. -/
def FanRecord.afterMeasure (f : FanRecord) (free holdoff provingSpeed : Nat) : FanRecord :=
  if (f.measure free).hasStalled f.tacho.silent then (f.measure free).enterStalled holdoff
  else if (f.measure free).hasProved provingSpeed then (f.measure free).enterRunning
  else f.measure free

theorem State.withFan_fan_ne (s : State) {side other : Side} (h : other ≠ side) (f : FanRecord) :
    (s.withFan side f).ae.fan other = s.ae.fan other :=
  (Airflow.drive_fan _ _ _).trans (Airflow.fan_withFan_ne _ h _)

theorem State.stallFan_ae (s : State) (side : Side) :
    (s.stallFan side).ae = (s.withFan side ((s.ae.fan side).enterStalled s.settings.holdoffTime)).ae := by
  unfold State.stallFan
  dsimp only
  split <;> rfl

theorem State.stageMeasure_fan_self (s : State) (side : Side) :
    (s.stageMeasure side).ae.fan side =
      (s.ae.fan side).afterMeasure (Config.freeSpeed s.freeCount) s.settings.holdoffTime s.settings.provingSpeed := by
  unfold State.stageMeasure FanRecord.afterMeasure
  dsimp only
  split
  · rw [State.stallFan_ae, State.withFan_fan_self]
    show ((s.withFan side _).ae.fan side).enterStalled _ = _
    rw [State.withFan_fan_self]
    rfl
  split
  · exact State.withFan_fan_self _ _ _
  · exact State.withFan_fan_self _ _ _

theorem State.stageMeasure_fan_ne (s : State) {side other : Side} (h : other ≠ side) :
    (s.stageMeasure side).ae.fan other = s.ae.fan other := by
  have hmeasured : ∀ (f : FanRecord) (n : Nat), ((s.withFan side f).setFreeCount n).ae.fan other = s.ae.fan other :=
    fun f _ => s.withFan_fan_ne h f
  unfold State.stageMeasure
  dsimp only
  split
  · rw [State.stallFan_ae, State.withFan_fan_ne _ h, hmeasured]
  split
  · rw [State.withFan_fan_ne _ h, hmeasured]
  · rw [hmeasured]

theorem State.stageMeasure_freeCount (s : State) (side : Side) :
    (s.stageMeasure side).freeCount = if (s.ae.fan side).tacho.meanZero then s.freeCount + 1 else s.freeCount := by
  unfold State.stageMeasure
  dsimp only
  split
  · rw [State.stallFan_freeCount]
    rfl
  · split <;> rfl

/-- The free value that stage 1 has for a fan: the supply fan is measured first. -/
def State.freeFor (s : State) : Side → Nat
  | .supply => Config.freeSpeed s.freeCount
  | .extract => Config.freeSpeed (if s.ae.supply.tacho.meanZero then s.freeCount + 1 else s.freeCount)

/-- A fan after stage 1 of a control step. -/
def State.measuredFan (s : State) (side : Side) : FanRecord :=
  (s.ae.fan side).afterMeasure (s.freeFor side) s.settings.holdoffTime s.settings.provingSpeed

theorem State.stage1_fan (s : State) (side : Side) :
    ((s.stageMeasure .supply).stageMeasure .extract).ae.fan side = s.measuredFan side := by
  cases side with
  | supply =>
    rw [State.stageMeasure_fan_ne _ (by decide), State.stageMeasure_fan_self]
    rfl
  | extract =>
    have hsettings : (s.stageMeasure .supply).settings = s.settings := by simp [State.settings]
    rw [State.stageMeasure_fan_self, State.stageMeasure_fan_ne _ (by decide), State.stageMeasure_freeCount, hsettings]
    rfl

/-! ## Stage 2 (R44, R46 to R48) -/

/-- The extract command of a control step. -/
def State.extractDemand (s : State) : Nat :=
  if s.mc.ready then
    extractCommand s.settings s.da.plan s.fg.state (s.measuredFan .supply).state (s.measuredFan .extract).state
  else 0

/-- The supply command of a control step. -/
def State.supplyDemand (s : State) : Nat :=
  if s.mc.ready then
    supplyCommand s.settings s.fg.state s.fg.fraction (s.measuredFan .supply).state (s.measuredFan .extract).state
      s.extractDemand
  else 0

/-- The command that a control step gives a fan. -/
def State.fanDemand (s : State) : Side → Nat
  | .supply => s.supplyDemand
  | .extract => s.extractDemand

theorem State.stageCommands_fan (s : State) (hready : t.mc.ready = s.mc.ready) (hsettings : t.settings = s.settings)
    (hplan : t.da = s.da) (hfg : t.fg = s.fg) (hfan : ∀ side, t.ae.fan side = s.measuredFan side) (side : Side) :
    t.stageCommands.ae.fan side = { s.measuredFan side with qc := s.fanDemand side } := by
  have hsupply : t.ae.supply = s.measuredFan .supply := hfan .supply
  have hextract : t.ae.extract = s.measuredFan .extract := hfan .extract
  unfold State.stageCommands
  cases side <;> simp only [State.setAe_ae, Airflow.fan, hready, hsettings, hplan, hfg, hsupply, hextract] <;> rfl

theorem State.stepCommands_fan (s : State) (side : Side) :
    s.stepCommands.ae.fan side = { s.measuredFan side with qc := s.fanDemand side } :=
  State.stageCommands_fan s (by simp) (by simp [State.settings]) (by simp) (by simp) s.stage1_fan side

/-! ## Stages 3 to 7 (R49, R51, R55, R58 to R64) -/

/-- A fan after stages 3 and 4 of a control step: moved by its command and ramped. -/
def State.rampedFan (s : State) (side : Side) : FanRecord :=
  (({ s.measuredFan side with qc := s.fanDemand side } : FanRecord).move s.settings.holdoffTime).ramped s.settings.rampRate

/-- A fan after stage 5: the supply flow clipped to the extract flow (R59). -/
def State.clippedFan (s : State) : Side → FanRecord
  | .supply => { s.rampedFan .supply with qr := min (s.rampedFan .supply).qr (s.rampedFan .extract).qr }
  | .extract => s.rampedFan .extract

/-- Stages 6 and 7 on what stage 5 left. -/
theorem State.controlStep_fan (s : State) (side : Side) :
    s.controlStep.ae.fan side =
      ((s.clippedFan side).target s.settings (s.settings.curve side) (s.fm.filter side).dpClean
        (s.channel (filterChannel side))).stageLoop s.settings ((s.ae.fan side).state == .running) := by
  have hsupply : s.stepCommands.ae.supply = _ := s.stepCommands_fan .supply
  have hextract : s.stepCommands.ae.extract = _ := s.stepCommands_fan .extract
  have hsettings : s.stepCommands.settings = s.settings := by simp [State.settings]
  rw [State.controlStep_ae_eq, Airflow.drive_fan, hsettings, State.stepCommands_fm, State.stepCommands_mc]
  generalize s.stepCommands.ae = ae at hsupply hextract
  cases side
  · show FanRecord.stageLoop _ _ _ = _
    rw [hsupply, hextract]
    rfl
  · show FanRecord.stageLoop _ _ _ = _
    rw [hextract]
    rfl

/-- A fan that stages 6 and 7 do not reach. -/
theorem FanRecord.target_stageLoop_of_ne {f : FanRecord} (h : f.state ≠ .running) (set : Settings) (curve : Curve)
    (dp : Option Nat) (pressure : Channel) (was : Bool) : (f.target set curve dp pressure).stageLoop set was = f := by
  have htarget : f.target set curve dp pressure = f := if_neg h
  rw [htarget]
  exact if_pos h

/-- What stages 6 and 7 leave of a fan: its state, its readings, its command and its flow. -/
theorem FanRecord.stageLoop_target_frame (f : FanRecord) (set : Settings) (curve : Curve) (dp : Option Nat)
    (pressure : Channel) (was : Bool) :
    (f.target set curve dp pressure).stageLoop set was = { f with
      duty := ((f.target set curve dp pressure).stageLoop set was).duty
      speedTarget := ((f.target set curve dp pressure).stageLoop set was).speedTarget
      ePrev := ((f.target set curve dp pressure).stageLoop set was).ePrev
      remainder := ((f.target set curve dp pressure).stageLoop set was).remainder
      retries := ((f.target set curve dp pressure).stageLoop set was).retries
      runningTime := ((f.target set curve dp pressure).stageLoop set was).runningTime
      curveLimit := ((f.target set curve dp pressure).stageLoop set was).curveLimit
      saturation := ((f.target set curve dp pressure).stageLoop set was).saturation
      flowLimited := ((f.target set curve dp pressure).stageLoop set was).flowLimited } := by
  by_cases h : f.state = .running
  · cases was <;>
      simp only [FanRecord.target, FanRecord.stageLoop, FanRecord.stepLoop, FanRecord.assessSaturation,
        FanRecord.advanceRunning, h] <;> grind
  · rw [FanRecord.target_stageLoop_of_ne h]

/-! ### One fan, stage by stage -/

theorem FanRecord.afterMeasure_reading (f : FanRecord) (free holdoff provingSpeed : Nat) :
    (f.afterMeasure free holdoff provingSpeed).measured = f.tacho.speed f.measured free ∧
      (f.afterMeasure free holdoff provingSpeed).tacho = f.tacho.shift := by
  unfold FanRecord.afterMeasure
  split
  · unfold FanRecord.enterStalled
    split <;> exact ⟨rfl, rfl⟩
  · split <;> exact ⟨rfl, rfl⟩

/-- A RUNNING fan with no pulse for 2 s at a duty of 150 or more stalls (R52). -/
theorem FanRecord.afterMeasure_of_silent {f : FanRecord} (hstate : f.state = .running) (hsilent : f.tacho.silent = true)
    (hduty : 150 ≤ f.duty) (free holdoff provingSpeed : Nat) :
    f.afterMeasure free holdoff provingSpeed = (f.measure free).enterStalled holdoff :=
  if_pos (by simp [FanRecord.hasStalled, FanRecord.measure, hstate, hsilent, hduty])

/-- A RUNNING fan does not stall while it is heard, or below a duty of 150. -/
theorem FanRecord.afterMeasure_of_heard {f : FanRecord} (hstate : f.state = .running)
    (hheard : f.tacho.silent = false ∨ f.duty < 150) (free holdoff provingSpeed : Nat) :
    f.afterMeasure free holdoff provingSpeed = f.measure free := by
  have hstall : (f.measure free).hasStalled f.tacho.silent = false := by
    rcases hheard with h | h
    · simp [FanRecord.hasStalled, h]
    · have hduty : ¬150 ≤ (f.measure free).duty := Nat.not_le.2 h
      simp [FanRecord.hasStalled, hduty]
  have hprove : (f.measure free).hasProved provingSpeed = false := by
    simp [FanRecord.hasProved, FanRecord.measure, hstate]
  simp [FanRecord.afterMeasure, hstall, hprove]

/-- A fan that does not run is no candidate for a stall by silence. -/
theorem FanRecord.afterMeasure_of_ne {f : FanRecord} (hstate : f.state ≠ .running) (free holdoff provingSpeed : Nat) :
    f.afterMeasure free holdoff provingSpeed =
      if f.state = .starting ∧ provingSpeed ≤ f.tacho.speed f.measured free then (f.measure free).enterRunning
      else f.measure free := by
  have hstall : (f.measure free).hasStalled f.tacho.silent = false := by
    simp [FanRecord.hasStalled, FanRecord.measure, hstate]
  have hprove : (f.measure free).hasProved provingSpeed = true ↔
      f.state = .starting ∧ provingSpeed ≤ f.tacho.speed f.measured free := by
    unfold FanRecord.hasProved
    rw [Bool.and_eq_true, beq_iff_eq, decide_eq_true_iff]
    rfl
  simp [FanRecord.afterMeasure, hstall, hprove]

theorem FanRecord.afterMeasure_of_rest {f : FanRecord} (hrun : f.state ≠ .running) (hstart : f.state ≠ .starting)
    (free holdoff provingSpeed : Nat) : f.afterMeasure free holdoff provingSpeed = f.measure free := by
  rw [FanRecord.afterMeasure_of_ne hrun, if_neg fun h => hstart h.1]

/-- A fan runs after stage 1 where it ran and has not stalled, or has just proved. -/
theorem FanRecord.afterMeasure_running_iff (f : FanRecord) (free holdoff provingSpeed : Nat) :
    (f.afterMeasure free holdoff provingSpeed).state = .running ↔
      (f.state = .running ∧ (f.tacho.silent = false ∨ f.duty < 150)) ∨
        (f.state = .starting ∧ provingSpeed ≤ f.tacho.speed f.measured free) := by
  by_cases hstate : f.state = .running
  · by_cases hheard : f.tacho.silent = false ∨ f.duty < 150
    · rw [FanRecord.afterMeasure_of_heard hstate hheard]
      exact iff_of_true hstate (.inl ⟨hstate, hheard⟩)
    · obtain ⟨hsilent, hduty⟩ := not_or.1 hheard
      rw [FanRecord.afterMeasure_of_silent hstate (by simpa using hsilent) (by omega)]
      refine iff_of_false ?_ ?_
      · unfold FanRecord.enterStalled
        split <;> exact nofun
      · rintro (⟨-, h⟩ | ⟨h, -⟩)
        · exact hheard h
        · exact nomatch hstate.symm.trans h
  · rw [FanRecord.afterMeasure_of_ne hstate]
    split
    · rename_i hproved
      exact iff_of_true rfl (.inr hproved)
    · rename_i hproved
      exact iff_of_false hstate fun h => h.elim (fun h => hstate h.1) hproved

/-- The move by command leaves the readings and the command. -/
theorem FanRecord.move_frame (f : FanRecord) (holdoff : Nat) :
    (f.move holdoff).measured = f.measured ∧ (f.move holdoff).tacho = f.tacho ∧ (f.move holdoff).qc = f.qc := by
  unfold FanRecord.move
  split
  case h_4 => exact ⟨rfl, rfl, rfl⟩
  all_goals split <;> exact ⟨rfl, rfl, rfl⟩

/-- A fan under way whose command is 0 enters HOLDOFF (R51). -/
theorem FanRecord.move_of_zero {f : FanRecord} (hstate : f.state = .running ∨ f.state = .starting) (hqc : f.qc = 0)
    (holdoff : Nat) : f.move holdoff = f.enterHoldoff holdoff := by
  unfold FanRecord.move
  rcases hstate with h | h <;> rw [h] <;> exact if_pos hqc

/-- A fan under way whose command is above 0 goes on. -/
theorem FanRecord.move_of_pos {f : FanRecord} (hstate : f.state = .running ∨ f.state = .starting) (hqc : 0 < f.qc)
    (holdoff : Nat) : f.move holdoff = f := by
  unfold FanRecord.move
  rcases hstate with h | h <;> rw [h] <;> exact if_neg (by omega)

/-- A STOPPED fan starts on a command above 0 (R49). -/
theorem FanRecord.move_of_stopped {f : FanRecord} (hstate : f.state = .stopped) (holdoff : Nat) :
    f.move holdoff = if 0 < f.qc then f.enterStarting else f := by
  unfold FanRecord.move
  rw [hstate]

/-- A fan in HOLDOFF, STALLED or LOCKED_OUT takes no action on its command (R51, R53, R56). -/
theorem FanRecord.move_of_waiting {f : FanRecord} (hstate : f.state ∈ [.holdoff, .stalled, .lockedOut]) (holdoff : Nat) :
    f.move holdoff = f := by
  unfold FanRecord.move
  split <;> simp_all

theorem FanRecord.move_lockedOut_iff (f : FanRecord) (holdoff : Nat) :
    (f.move holdoff).state = .lockedOut ↔ f.state = .lockedOut := by
  unfold FanRecord.move
  split
  · split <;> simp_all [FanRecord.enterHoldoff]
  · split <;> simp_all [FanRecord.enterHoldoff]
  · split <;> simp_all [FanRecord.enterStarting]
  · exact Iff.rfl

theorem FanRecord.ramped_eq (f : FanRecord) (rate : Nat) :
    f.ramped rate = { f with qr := if f.state = .running then ramp rate f.qr f.qc else f.qr } := by
  unfold FanRecord.ramped
  split <;> rfl

/-! ### The fans of a control step -/

/-- A fan after stage 3 of a control step. -/
def State.movedFan (s : State) (side : Side) : FanRecord :=
  ({ s.measuredFan side with qc := s.fanDemand side } : FanRecord).move s.settings.holdoffTime

theorem State.rampedFan_eq (s : State) (side : Side) :
    s.rampedFan side = { s.movedFan side with
      qr := if (s.movedFan side).state = .running then
          ramp s.settings.rampRate (s.movedFan side).qr (s.movedFan side).qc
        else (s.movedFan side).qr } :=
  FanRecord.ramped_eq _ _

theorem State.clippedFan_eq (s : State) (side : Side) :
    s.clippedFan side = { s.movedFan side with qr := (s.clippedFan side).qr } := by
  have hframe : s.rampedFan side = { s.movedFan side with qr := (s.rampedFan side).qr } := by rw [State.rampedFan_eq]
  cases side
  · show ({ s.rampedFan .supply with qr := min (s.rampedFan .supply).qr (s.rampedFan .extract).qr } : FanRecord) =
      { s.movedFan .supply with qr := min (s.rampedFan .supply).qr (s.rampedFan .extract).qr }
    rw [hframe]
  · exact hframe

theorem State.clippedFan_qr_le (s : State) (side : Side) : (s.clippedFan side).qr ≤ (s.rampedFan side).qr := by
  cases side
  · exact Nat.min_le_left _ _
  · exact Nat.le_refl _

/-- What stages 4 to 7 leave of a fan. -/
theorem State.controlStep_fan_frame (s : State) (side : Side) :
    (s.controlStep.ae.fan side).state = (s.movedFan side).state ∧
      (s.controlStep.ae.fan side).wait = (s.movedFan side).wait ∧
      (s.controlStep.ae.fan side).startTime = (s.movedFan side).startTime ∧
      (s.controlStep.ae.fan side).qr = (s.clippedFan side).qr ∧
      (s.controlStep.ae.fan side).measured = (s.movedFan side).measured ∧
      (s.controlStep.ae.fan side).tacho = (s.movedFan side).tacho ∧
      (s.controlStep.ae.fan side).qc = (s.movedFan side).qc := by
  rw [State.controlStep_fan, FanRecord.stageLoop_target_frame, State.clippedFan_eq]
  exact ⟨rfl, rfl, rfl, rfl, rfl, rfl, rfl⟩

/-- A fan's state after a control step is that of stage 3. -/
theorem State.controlStep_state (s : State) (side : Side) :
    (s.controlStep.ae.fan side).state = (s.movedFan side).state := (s.controlStep_fan_frame side).1

/-- The command that a control step writes. -/
theorem State.controlStep_qc (s : State) (side : Side) : (s.controlStep.ae.fan side).qc = s.fanDemand side := by
  obtain ⟨-, -, -, -, -, -, hqc⟩ := s.controlStep_fan_frame side
  exact hqc.trans (FanRecord.move_frame _ _).2.2

/-- The measured speed of a control step (R42). -/
theorem State.controlStep_measured (s : State) (side : Side) :
    (s.controlStep.ae.fan side).measured = (s.ae.fan side).tacho.speed (s.ae.fan side).measured (s.freeFor side) := by
  obtain ⟨-, -, -, -, hmeasured, -, -⟩ := s.controlStep_fan_frame side
  exact hmeasured.trans ((FanRecord.move_frame _ _).1.trans (FanRecord.afterMeasure_reading _ _ _ _).1)

theorem State.controlStep_tacho (s : State) (side : Side) :
    (s.controlStep.ae.fan side).tacho = (s.ae.fan side).tacho.shift := by
  obtain ⟨-, -, -, -, -, htacho, -⟩ := s.controlStep_fan_frame side
  exact htacho.trans ((FanRecord.move_frame _ _).2.1.trans (FanRecord.afterMeasure_reading _ _ _ _).2)

theorem State.controlStep_qr (s : State) (side : Side) : (s.controlStep.ae.fan side).qr = (s.clippedFan side).qr := by
  obtain ⟨-, -, -, hqr, -⟩ := s.controlStep_fan_frame side
  exact hqr

/-- A fan that does not run after stage 3 is as that stage leaves it, but for the clip. -/
theorem State.controlStep_fan_of_ne {side : Side} (h : (s.movedFan side).state ≠ .running) :
    s.controlStep.ae.fan side = { s.movedFan side with qr := (s.clippedFan side).qr } := by
  have hstate : (s.clippedFan side).state ≠ .running := by rw [State.clippedFan_eq]; exact h
  rw [State.controlStep_fan, FanRecord.target_stageLoop_of_ne hstate, ← State.clippedFan_eq]

/-- A flow of 0 outside RUNNING stays 0. -/
theorem State.clippedFan_qr_of_ne {side : Side} (h : (s.movedFan side).state ≠ .running) (hqr : (s.movedFan side).qr = 0) :
    (s.clippedFan side).qr = 0 := by
  have hle := s.clippedFan_qr_le side
  have hramped : (s.rampedFan side).qr = 0 := by
    rw [State.rampedFan_eq]
    exact (if_neg h).trans hqr
  omega

/-- A fan whose command is 0, and that runs or starts after stage 1, is at rest in HOLDOFF (R51). -/
theorem State.controlStep_fan_of_zero {side : Side} (hqc : s.fanDemand side = 0)
    (hstate : (s.measuredFan side).state = .running ∨ (s.measuredFan side).state = .starting) :
    s.controlStep.ae.fan side =
      ({ s.measuredFan side with qc := 0 } : FanRecord).enterHoldoff s.settings.holdoffTime := by
  have hmoved : s.movedFan side = ({ s.measuredFan side with qc := 0 } : FanRecord).enterHoldoff s.settings.holdoffTime := by
    unfold State.movedFan
    rw [hqc]
    exact FanRecord.move_of_zero (f := { s.measuredFan side with qc := 0 }) hstate rfl _
  have hne : (s.movedFan side).state ≠ .running := by rw [hmoved]; exact nofun
  rw [State.controlStep_fan_of_ne hne, State.clippedFan_qr_of_ne hne (by rw [hmoved]; rfl), hmoved]
  rfl

theorem exec_controlStep (h : s.phase ≠ .held) : exec .controlStep s = .next s.controlStep :=
  congrArg Host.Outcome.next (State.unlessHeld_of_ne h _)

end

end Sys2Proof.Machine

namespace Sys2Proof.Machine

/-! # The control step: measurement, stalls, commands and ramps (R42 to R59) -/

section
variable {s t : State}

theorem Tacho.silent_iff {o : Tacho} :
    o.silent = true ↔ ∀ at0, o.latest = some at0 → at0 + 2000000 ≤ 1000000 := by
  unfold Tacho.silent stepMicros
  cases o.latest with
  | none => simp
  | some a => simp; omega

/-! ## What a control step reports (R53, R64) -/

theorem State.raise_isSet_of {f x : Flag} (h : s.eu.isSet x = true) : (s.raise f).eu.isSet x = true := by
  rw [State.raise_eu, EventUnit.isSet_raise, h, Bool.true_or]

theorem State.count_isSet_of {c : Counter} {x : Flag} (h : s.eu.isSet x = true) : (s.count c).eu.isSet x = true := by
  rw [State.count_eu, EventUnit.isSet_count, h, Bool.true_or]

theorem State.raise_isSet_self (s : State) (f : Flag) : (s.raise f).eu.isSet f = true := by
  rw [State.raise_eu, EventUnit.isSet_raise]
  simp

theorem State.count_live (s : State) (c d : Counter) :
    (s.count c).eu.live[d.index] = if d = c then s.eu.live[d.index] + 1 else s.eu.live[d.index] := by
  rw [State.count_eu]
  split
  · subst_vars
    rw [EventUnit.count_live]
    exact getElem_setAt_self _ _ _
  · rename_i hne
    refine EventUnit.count_live_ne _ _ fun hindex => hne ?_
    revert hindex
    cases c <;> cases d <;> decide

/-- A stall raises its flag and counts once; a lockout raises its flag too (R53). -/
theorem State.stallFan_reports (s : State) (side : Side) :
    (s.stallFan side).eu.isSet (stallFlag side) = true ∧
      (∀ x, s.eu.isSet x = true → (s.stallFan side).eu.isSet x = true) ∧
      (2 ≤ (s.ae.fan side).retries → (s.stallFan side).eu.isSet (lockoutFlag side) = true) ∧
      ∀ d : Counter, (s.stallFan side).eu.live[d.index] =
        if d = stallCounter side then s.eu.live[d.index] + 1 else s.eu.live[d.index] := by
  have hwith : ∀ f, s.eu = (s.withFan side f).eu := fun _ => rfl
  by_cases hretries : (s.ae.fan side).retries < 2
  · rw [State.stallFan_of_lt hretries, hwith]
    generalize s.withFan side _ = u
    exact ⟨State.count_isSet_of (State.raise_isSet_self _ _), fun x hx => State.count_isSet_of (State.raise_isSet_of hx),
      fun h => absurd hretries (by omega), fun d => State.count_live (u.raise _) _ _⟩
  · rw [State.stallFan_of_le (Nat.not_lt.1 hretries), hwith]
    generalize s.withFan side _ = u
    exact ⟨State.raise_isSet_of (State.count_isSet_of (State.raise_isSet_self _ _)),
      fun x hx => State.raise_isSet_of (State.count_isSet_of (State.raise_isSet_of hx)),
      fun _ => State.raise_isSet_self _ _, fun d => State.count_live (u.raise _) _ _⟩

/-- What stage 1 reports: a silent fan's stall. -/
theorem State.stageMeasure_of_silent {side : Side} (hstate : (s.ae.fan side).state = .running)
    (hsilent : (s.ae.fan side).tacho.silent = true) (hduty : 150 ≤ (s.ae.fan side).duty) :
    (s.stageMeasure side).eu.isSet (stallFlag side) = true ∧
      (2 ≤ (s.ae.fan side).retries → (s.stageMeasure side).eu.isSet (lockoutFlag side) = true) ∧
      (s.stageMeasure side).eu.live[(stallCounter side).index] = s.eu.live[(stallCounter side).index] + 1 := by
  have hstall : ∀ free, ((s.ae.fan side).measure free).hasStalled (s.ae.fan side).tacho.silent = true := fun free => by
    simp [FanRecord.hasStalled, FanRecord.measure, hstate, hsilent, hduty]
  have hstage : ∃ free n, s.stageMeasure side =
      ((s.withFan side ((s.ae.fan side).measure free)).setFreeCount n).stallFan side :=
    ⟨Config.freeSpeed s.freeCount, _, if_pos (hstall _)⟩
  obtain ⟨free, n, hstage⟩ := hstage
  obtain ⟨hset, -, hlock, hlive⟩ :=
    ((s.withFan side ((s.ae.fan side).measure free)).setFreeCount n).stallFan_reports side
  rw [hstage]
  refine ⟨hset, fun hretries => hlock ?_, ?_⟩
  · rw [State.setFreeCount_ae, State.withFan_fan_self]
    exact hretries
  · rw [hlive, if_pos rfl]
    rfl

theorem State.stageMeasure_reports (s : State) (side : Side) :
    (∀ x, s.eu.isSet x = true → (s.stageMeasure side).eu.isSet x = true) ∧
      ∀ d : Counter, d ≠ stallCounter side → (s.stageMeasure side).eu.live[d.index] = s.eu.live[d.index] := by
  unfold State.stageMeasure
  dsimp only
  split
  · obtain ⟨-, hset, -, hlive⟩ := State.stallFan_reports (State.setFreeCount (s.withFan side _) _) side
    exact ⟨hset, fun d hd => (hlive d).trans (if_neg hd)⟩
  · split <;> exact ⟨fun x hx => hx, fun d _ => rfl⟩

theorem State.reportLimited_reports (s : State) (f g : FanRecord) :
    (s.reportLimited f g).eu.live = s.eu.live ∧
      (∀ x, s.eu.isSet x = true → (s.reportLimited f g).eu.isSet x = true) ∧
      (g.flowLimited = true → f.flowLimited = false → (s.reportLimited f g).eu.isSet .flowLimited = true) := by
  unfold State.reportLimited
  split
  · exact ⟨rfl, fun x hx => State.raise_isSet_of hx, fun _ _ => State.raise_isSet_self _ _⟩
  · rename_i hnew
    exact ⟨rfl, fun x hx => hx, fun hg hf => absurd (by simp [hg, hf]) hnew⟩

/-- What a control step reports after stage 2: an indication just set, and nothing taken back. -/
theorem State.controlStep_reports (s : State) :
    s.controlStep.eu.live = s.stepCommands.eu.live ∧
      (∀ x, s.stepCommands.eu.isSet x = true → s.controlStep.eu.isSet x = true) ∧
      ∀ side, (s.controlStep.ae.fan side).flowLimited = true → (s.measuredFan side).flowLimited = false →
        s.controlStep.eu.isSet .flowLimited = true := by
  have hbefore : ∀ side, (s.stepCommands.ae.fan side).flowLimited = (s.measuredFan side).flowLimited := fun side => by
    rw [State.stepCommands_fan]
  have heu : s.controlStep.eu = (((s.stepCommands.setAe s.controlStep.ae).reportLimited s.stepCommands.ae.supply
      s.controlStep.ae.supply).reportLimited s.stepCommands.ae.extract s.controlStep.ae.extract).eu := by
    have hright : s.stepCommands.rightHanded = s.rightHanded := by
      unfold State.rightHanded; rw [State.stepCommands_straps]
    rw [s.controlStep_ae_eq, ← hright]
    unfold State.controlStep State.stepFlows
    dsimp only
    rw [State.followSupply_eu]
    rfl
  obtain ⟨hlive, hset, hnew⟩ := State.reportLimited_reports (s.stepCommands.setAe s.controlStep.ae)
    s.stepCommands.ae.supply s.controlStep.ae.supply
  rw [heu]
  generalize State.reportLimited (s.stepCommands.setAe s.controlStep.ae) _ _ = u at *
  obtain ⟨hlive', hset', hnew'⟩ := State.reportLimited_reports u s.stepCommands.ae.extract s.controlStep.ae.extract
  refine ⟨hlive'.trans hlive, fun x hx => hset' x (hset x hx), fun side hside hwas => ?_⟩
  rw [← hbefore] at hwas
  generalize s.stepCommands.ae = before at *
  generalize s.controlStep.ae = after at *
  cases side
  · exact hset' _ (hnew hside hwas)
  · exact hnew' hside hwas

theorem State.stepCommands_eu (s : State) :
    s.stepCommands.eu = ((s.stageMeasure .supply).stageMeasure .extract).eu := rfl

/-- A silent fan's stall is reported by the control step (R52, R53). -/
theorem State.controlStep_reports_stall {side : Side} (hstate : (s.ae.fan side).state = .running)
    (hsilent : (s.ae.fan side).tacho.silent = true) (hduty : 150 ≤ (s.ae.fan side).duty) :
    s.controlStep.eu.isSet (stallFlag side) = true ∧
      (2 ≤ (s.ae.fan side).retries → s.controlStep.eu.isSet (lockoutFlag side) = true) ∧
      s.controlStep.eu.live[(stallCounter side).index] = s.eu.live[(stallCounter side).index] + 1 := by
  obtain ⟨hlive, hset, -⟩ := s.controlStep_reports
  rw [State.stepCommands_eu] at hlive hset
  rw [hlive]
  cases side with
  | supply =>
    obtain ⟨hflag, hlock, hcount⟩ := State.stageMeasure_of_silent hstate hsilent hduty
    obtain ⟨hmono, hother⟩ := (s.stageMeasure .supply).stageMeasure_reports .extract
    exact ⟨hset _ (hmono _ hflag), fun h => hset _ (hmono _ (hlock h)), (hother _ (by decide)).trans hcount⟩
  | extract =>
    have hfan := s.stageMeasure_fan_ne (side := .supply) (other := .extract) (by decide)
    obtain ⟨hflag, hlock, hcount⟩ := State.stageMeasure_of_silent (s := s.stageMeasure .supply) (side := .extract)
      (hfan ▸ hstate) (hfan ▸ hsilent) (hfan ▸ hduty)
    obtain ⟨-, hother⟩ := s.stageMeasure_reports .supply
    exact ⟨hset _ hflag, fun h => hset _ (hlock (hfan ▸ h)), hcount.trans (by rw [hother _ (by decide)])⟩

/-- A fan that waits after stage 1 is as that stage leaves it, but for its command and the clip. -/
theorem State.controlStep_fan_of_waiting {side : Side} (h : (s.measuredFan side).state ∈ [.holdoff, .stalled, .lockedOut]) :
    s.controlStep.ae.fan side =
      { s.measuredFan side with qc := s.fanDemand side, qr := (s.clippedFan side).qr } ∧
      ((s.measuredFan side).qr = 0 → (s.clippedFan side).qr = 0) := by
  have hmoved : s.movedFan side = { s.measuredFan side with qc := s.fanDemand side } :=
    FanRecord.move_of_waiting (f := { s.measuredFan side with qc := s.fanDemand side }) h _
  have hne : (s.movedFan side).state ≠ .running := by
    rw [hmoved]
    intro hrun
    rw [show (s.measuredFan side).state = .running from hrun] at h
    exact absurd h (by decide)
  refine ⟨?_, fun hqr => State.clippedFan_qr_of_ne hne (by rw [hmoved]; exact hqr)⟩
  rw [State.controlStep_fan_of_ne hne, hmoved]

end

/-- Settles O23. -/
theorem controlStepMeasuresBothFans : Obligations.ControlStepMeasuresBothFans := by
  unfold Obligations.ControlStepMeasuresBothFans
  intro s hheld
  refine ⟨_, exec_controlStep hheld, ?_, fun side o ho => ⟨fun hcount hmean => ?_, fun hcount hsilent => ?_,
    fun hcount hheard => ?_, ?_⟩⟩
  · exact s.controlStep_eq
  · rw [State.controlStep_measured, ← ho]
    have hzero : o.meanZero = false := by simp [Tacho.meanZero, hmean]
    simp [Tacho.speed, hcount, hzero]
  · rw [State.controlStep_measured, ← ho]
    simp [Tacho.speed, hcount, Tacho.silent_iff.2 hsilent]
  · rw [State.controlStep_measured, ← ho]
    have hnot : o.silent = false := by
      obtain ⟨at0, hat, hlate⟩ := hheard
      exact Bool.eq_false_iff.2 fun hs => absurd (Tacho.silent_iff.1 hs at0 hat) (by omega)
    simp [Tacho.speed, hcount, hnot]
  · rw [State.controlStep_tacho, ← ho]
    rfl

/-- Settles O28. -/
theorem silentRunningFanStalls : Obligations.SilentRunningFanStalls := by
  unfold Obligations.SilentRunningFanStalls
  intro s side hheld hstate hduty hlatest
  have hsilent := Tacho.silent_iff.2 hlatest
  obtain ⟨hflag, hlock, hcount⟩ := State.controlStep_reports_stall hstate hsilent hduty
  have hstall : s.measuredFan side = ((s.ae.fan side).measure (s.freeFor side)).enterStalled s.settings.holdoffTime :=
    FanRecord.afterMeasure_of_silent hstate hsilent hduty _ _ _
  by_cases hretries : (s.ae.fan side).retries < 2
  · rw [FanRecord.enterStalled_of_lt (f := (s.ae.fan side).measure (s.freeFor side)) hretries] at hstall
    obtain ⟨hfan, hqr⟩ := State.controlStep_fan_of_waiting (s := s) (side := side) (by rw [hstall]; simp [FanRecord.atRest])
    rw [hqr (by rw [hstall]; rfl), hstall] at hfan
    refine ⟨_, exec_controlStep hheld, ?_⟩
    rw [hfan]
    exact ⟨rfl, rfl, rfl, rfl, rfl, rfl, rfl, rfl, rfl, hflag, hcount, fun _ => ⟨rfl, rfl⟩,
      fun h => absurd hretries (by omega)⟩
  · have hle := Nat.not_lt.1 hretries
    rw [FanRecord.enterStalled_of_le (f := (s.ae.fan side).measure (s.freeFor side)) hle] at hstall
    obtain ⟨hfan, hqr⟩ := State.controlStep_fan_of_waiting (s := s) (side := side) (by rw [hstall]; simp [FanRecord.atRest])
    rw [hqr (by rw [hstall]; rfl), hstall] at hfan
    refine ⟨_, exec_controlStep hheld, ?_⟩
    rw [hfan]
    exact ⟨rfl, rfl, rfl, rfl, rfl, rfl, rfl, rfl, rfl, hflag, hcount, fun h => absurd h hretries,
      fun _ => ⟨rfl, rfl, hlock hle⟩⟩

end Sys2Proof.Machine

namespace Sys2Proof.Machine

/-! # The control step: commands, starts, ramps and the speed loop (R44 to R64) -/

section
variable {s t : State}

/-! ## The commands (R44, R46 to R48) -/

/-- The plan's target, raised in DEFROST (R46). -/
def State.raisedTarget (s : State) : Nat :=
  if s.fg.state = .defrost ∧ 0 < s.da.plan.target then
    max s.da.plan.target (min s.settings.defrostExtract s.da.plan.ceiling)
  else s.da.plan.target

theorem State.extractDemand_of_ready (h : s.mc.ready = true) :
    s.extractDemand =
      if (s.measuredFan .extract).state = .lockedOut then 0
      else if (s.measuredFan .supply).state = .lockedOut ∨ s.fg.state = .frostHold then
        min s.raisedTarget s.settings.unbalancedCeiling
      else s.raisedTarget := by
  unfold State.extractDemand
  rw [if_pos h]
  rfl

theorem State.supplyDemand_of_ready (h : s.mc.ready = true) :
    s.supplyDemand =
      if (s.measuredFan .extract).state ≠ .running ∨ (s.measuredFan .supply).state = .lockedOut ∨
          s.fg.state = .defrost ∨ s.fg.state = .frostHold ∨
          s.extractDemand * s.settings.balance * s.fg.fraction / 1000000 < s.settings.supplyCurve.flows[0] then 0
      else s.extractDemand * s.settings.balance * s.fg.fraction / 1000000 := by
  unfold State.supplyDemand supplyCommand supplyProduct
  rw [if_pos h]
  dsimp only
  generalize s.extractDemand * s.settings.balance * s.fg.fraction / 1000000 = product
  by_cases hstop : (s.measuredFan .extract).state ≠ .running ∨ (s.measuredFan .supply).state = .lockedOut ∨
      s.fg.state = .defrost ∨ s.fg.state = .frostHold
  · rw [if_pos hstop, ite_self, if_pos (by tauto)]
  · rw [if_neg hstop]
    by_cases hbelow : product < s.settings.supplyCurve.flows[0]
    · rw [if_pos hbelow, if_pos (by tauto)]
    · rw [if_neg hbelow, if_neg (by tauto)]

/-- Before the measurements are ready, and with a plan of 0, both commands are 0 (R44, R46, R47). -/
theorem State.fanDemand_of_still (h : s.da.plan.target = 0 ∨ s.mc.ready = false) (side : Side) : s.fanDemand side = 0 := by
  cases hready : s.mc.ready with
  | false => cases side <;> simp [State.fanDemand, State.extractDemand, State.supplyDemand, hready]
  | true =>
    have htarget : s.raisedTarget = 0 := by
      have := h.resolve_right (by simp [hready])
      simp [State.raisedTarget, this]
    have hextract : s.extractDemand = 0 := by
      rw [State.extractDemand_of_ready hready, htarget]
      simp
    cases side with
    | extract => exact hextract
    | supply =>
      show s.supplyDemand = 0
      rw [State.supplyDemand_of_ready hready, hextract]
      simp

/-- A plan above 0 commands the extract fan, unless it is LOCKED_OUT (R46). -/
theorem State.extractDemand_pos (hready : s.mc.ready = true) (hplan : 0 < s.da.plan.target)
    (hceiling : 0 < s.settings.unbalancedCeiling) (hextract : (s.measuredFan .extract).state ≠ .lockedOut) :
    0 < s.extractDemand := by
  have hraised : 0 < s.raisedTarget := by
    unfold State.raisedTarget
    split
    · exact Nat.lt_of_lt_of_le hplan (Nat.le_max_left _ _)
    · exact hplan
  rw [State.extractDemand_of_ready hready, if_neg hextract]
  split
  · exact Nat.lt_min.2 ⟨hraised, hceiling⟩
  · exact hraised

/-! ## Starts and stops (R49 to R51) -/

theorem State.measuredFan_of_heard {side : Side} (hstate : (s.ae.fan side).state = .running)
    (hheard : (s.ae.fan side).tacho.silent = false ∨ (s.ae.fan side).duty < 150) :
    s.measuredFan side = (s.ae.fan side).measure (s.freeFor side) :=
  FanRecord.afterMeasure_of_heard hstate hheard _ _ _

theorem State.measuredFan_of_rest {side : Side} (hrun : (s.ae.fan side).state ≠ .running)
    (hstart : (s.ae.fan side).state ≠ .starting) : s.measuredFan side = (s.ae.fan side).measure (s.freeFor side) :=
  FanRecord.afterMeasure_of_rest hrun hstart _ _ _

/-- A STARTING fan that has reached proving_speed runs after stage 1 (R50). -/
theorem State.measuredFan_of_proved {side : Side} (hstate : (s.ae.fan side).state = .starting)
    (hproved : s.settings.provingSpeed ≤ (s.controlStep.ae.fan side).measured) :
    s.measuredFan side = ((s.ae.fan side).measure (s.freeFor side)).enterRunning := by
  rw [State.controlStep_measured] at hproved
  exact (FanRecord.afterMeasure_of_ne (by simp [hstate]) _ _ _).trans (if_pos ⟨hstate, hproved⟩)

theorem State.measuredFan_of_unproved {side : Side} (hstate : (s.ae.fan side).state = .starting)
    (hproved : (s.controlStep.ae.fan side).measured < s.settings.provingSpeed) :
    s.measuredFan side = (s.ae.fan side).measure (s.freeFor side) := by
  rw [State.controlStep_measured] at hproved
  exact (FanRecord.afterMeasure_of_ne (by simp [hstate]) _ _ _).trans (if_neg fun h => absurd h.2 (by omega))

theorem State.measuredFan_running_iff (s : State) (side : Side) :
    (s.measuredFan side).state = .running ↔
      ((s.ae.fan side).state = .running ∧ ((s.ae.fan side).tacho.silent = false ∨ (s.ae.fan side).duty < 150)) ∨
        ((s.ae.fan side).state = .starting ∧ s.settings.provingSpeed ≤ (s.controlStep.ae.fan side).measured) := by
  rw [State.controlStep_measured]
  exact FanRecord.afterMeasure_running_iff _ _ _ _

/-- A fan is LOCKED_OUT after a control step exactly where stage 1 leaves it so. -/
theorem State.controlStep_lockedOut_iff (s : State) (side : Side) :
    (s.controlStep.ae.fan side).state = .lockedOut ↔ (s.measuredFan side).state = .lockedOut := by
  rw [State.controlStep_state]
  exact FanRecord.move_lockedOut_iff _ _

/-- A fan under way, STARTING or RUNNING and not stalling, is under way after stage 1. -/
theorem State.measuredFan_under_way {side : Side}
    (h : (s.ae.fan side).state = .starting ∨
      ((s.ae.fan side).state = .running ∧ ((s.ae.fan side).tacho.silent = false ∨ (s.ae.fan side).duty < 150))) :
    ((s.measuredFan side).state = .running ∨ (s.measuredFan side).state = .starting) ∧
      (s.measuredFan side).retries = (s.ae.fan side).retries := by
  rcases h with hstart | ⟨hrun, hheard⟩
  · rcases Nat.lt_or_ge (s.controlStep.ae.fan side).measured s.settings.provingSpeed with hslow | hproved
    · rw [State.measuredFan_of_unproved hstart hslow]
      exact ⟨.inr hstart, rfl⟩
    · rw [State.measuredFan_of_proved hstart hproved]
      exact ⟨.inl rfl, rfl⟩
  · rw [State.measuredFan_of_heard hrun hheard]
    exact ⟨.inl hrun, rfl⟩

/-- A fan that runs after stage 1 on a command above 0 is ramped, clipped, and taken through stages 6 and 7. -/
theorem State.clippedFan_of_pos {side : Side} (hrun : (s.measuredFan side).state = .running) (hqc : 0 < s.fanDemand side) :
    s.clippedFan side = { s.measuredFan side with qc := s.fanDemand side, qr := (s.clippedFan side).qr } ∧
      (s.rampedFan side).qr = ramp s.settings.rampRate (s.measuredFan side).qr (s.fanDemand side) ∧
      (s.controlStep.ae.fan side).state = .running := by
  have hmoved : s.movedFan side = { s.measuredFan side with qc := s.fanDemand side } :=
    FanRecord.move_of_pos (f := { s.measuredFan side with qc := s.fanDemand side }) (.inl hrun) hqc _
  refine ⟨?_, ?_, ?_⟩
  · rw [State.clippedFan_eq, hmoved]
  · rw [State.rampedFan_eq, hmoved]
    exact if_pos hrun
  · rw [State.controlStep_state, hmoved]
    exact hrun

/-- A fan that starts or goes on starting. -/
theorem State.controlStep_fan_of_starting {side : Side} {f : FanRecord} (hmoved : s.movedFan side = f)
    (hstate : f.state = .starting) (hqr : f.qr = 0) : s.controlStep.ae.fan side = f := by
  have hne : (s.movedFan side).state ≠ .running := by rw [hmoved, hstate]; exact nofun
  rw [State.controlStep_fan_of_ne hne, State.clippedFan_qr_of_ne hne (by rw [hmoved]; exact hqr), hmoved, ← hqr]

theorem Airflow.fan_supply (ae : Airflow) : ae.fan .supply = ae.supply := rfl
theorem Airflow.fan_extract (ae : Airflow) : ae.fan .extract = ae.extract := rfl

theorem State.clippedFan_supply_qr (s : State) :
    (s.clippedFan .supply).qr = min (s.rampedFan .supply).qr (s.controlStep.ae.fan .extract).qr := by
  rw [State.controlStep_qr]
  rfl

theorem State.controlStep_duties (s : State) :
    s.controlStep.ae.dutyA = (s.controlStep.ae.fan (s.roleOf .a)).duty ∧
      s.controlStep.ae.dutyB = (s.controlStep.ae.fan (s.roleOf .b)).duty := by
  rw [State.controlStep_ae_eq, Airflow.drive_fan, Airflow.drive_fan]
  exact Airflow.drive_duties _ s

theorem ramp_of_lt {rate q qc : Nat} (h : q < qc) : ramp rate q qc = min (q + rate) qc := if_pos h
theorem ramp_of_le {rate q qc : Nat} (h : qc ≤ q) : ramp rate q qc = max (q - rate) qc := if_neg (by omega)

end

/-- Settles O24. -/
theorem controlStepCommandsAndRamps : Obligations.ControlStepCommandsAndRamps := by
  unfold Obligations.ControlStepCommandsAndRamps
  refine ⟨fun s raised qce product qcs hacts hrun hraised hqce hproduct hqcs => ?_, fun s raised hacts hraised => ?_⟩
  · obtain ⟨hheld, hready⟩ := hacts
    have hmeasured : ∀ side, s.measuredFan side = (s.ae.fan side).measure (s.freeFor side) := fun side =>
      State.measuredFan_of_heard (hrun side).1 (hrun side).2
    have hstate : ∀ side, (s.measuredFan side).state = .running := fun side => by
      rw [hmeasured]; exact (hrun side).1
    have hextract : s.extractDemand = qce := by
      rw [State.extractDemand_of_ready hready, hqce, hstate, hstate, hraised]
      simp
      rfl
    have hsupply : s.supplyDemand = qcs := by
      rw [State.supplyDemand_of_ready hready, hqcs, hstate, hstate, hextract, ← hproduct]
      simp
    have hqr : ∀ side, (s.measuredFan side).qr = (s.ae.fan side).qr := fun side => by rw [hmeasured]; rfl
    have hext : s.fanDemand .extract = qce := hextract
    have hsup : s.fanDemand .supply = qcs := hsupply
    refine ⟨_, exec_controlStep hheld, ?_⟩
    simp only [← Airflow.fan_extract, ← Airflow.fan_supply, State.controlStep_qc]
    refine ⟨hext, hsup, fun hpos => ?_, fun hpos => ?_, fun side hzero => ?_, s.controlStep_duties⟩
    · obtain ⟨-, hramp, hruns⟩ := State.clippedFan_of_pos (hstate .extract) (hext ▸ hpos)
      have hflow : (s.controlStep.ae.fan .extract).qr = (s.rampedFan .extract).qr := s.controlStep_qr .extract
      rw [hflow, hramp, hqr, hext]
      exact ⟨hruns, ramp_of_lt, ramp_of_le⟩
    · obtain ⟨-, hramp, hruns⟩ := State.clippedFan_of_pos (hstate .supply) (hsup ▸ hpos)
      rw [State.controlStep_qr _ .supply, State.clippedFan_supply_qr, hramp, hqr, hsup]
      exact ⟨hruns, fun h => by rw [ramp_of_lt h], fun h => by rw [ramp_of_le h]⟩
    · rw [State.controlStep_fan_of_zero hzero (.inl (hstate side))]
      exact ⟨rfl, rfl, rfl, rfl⟩
  · obtain ⟨hheld, hready⟩ := hacts
    refine ⟨_, exec_controlStep hheld, fun runs qce product hruns hqce hproduct => ?_⟩
    simp only [← Airflow.fan_extract, ← Airflow.fan_supply, State.controlStep_qc, State.controlStep_lockedOut_iff] at *
    rw [← State.measuredFan_running_iff] at hruns
    have hextract : s.fanDemand .extract = qce := by
      rw [hqce, hraised]
      exact State.extractDemand_of_ready hready
    refine ⟨hextract, ?_⟩
    have hstopped : runs = false ↔ (s.measuredFan .extract).state ≠ .running := by
      rw [Ne, ← hruns, Bool.not_eq_true]
    have hsupply := State.supplyDemand_of_ready hready
    rw [show s.extractDemand = qce from hextract, ← hproduct] at hsupply
    simp only [hstopped]
    exact hsupply

section
variable {s t : State}

/-- A fan's command of 0 keeps it from running and from starting (R49, R51). -/
theorem State.controlStep_still {side : Side} (hqc : s.fanDemand side = 0) :
    (s.controlStep.ae.fan side).state ≠ .running ∧ (s.controlStep.ae.fan side).state ≠ .starting := by
  rw [State.controlStep_state]
  unfold State.movedFan
  rw [hqc]
  unfold FanRecord.move
  split
  case h_4 hrun hstart hstopped => exact ⟨hrun, hstart⟩
  · rw [if_pos rfl]; exact ⟨nofun, nofun⟩
  · rw [if_pos rfl]; exact ⟨nofun, nofun⟩
  · rename_i hstopped
    rw [if_neg (Nat.lt_irrefl 0), hstopped]
    exact ⟨nofun, nofun⟩

/-- A fan under way at a step whose command is 0 is at rest in HOLDOFF (R51). -/
theorem State.controlStep_fan_of_stop {side : Side} (hqc : s.fanDemand side = 0)
    (h : (s.ae.fan side).state = .starting ∨
      ((s.ae.fan side).state = .running ∧ ((s.ae.fan side).tacho.silent = false ∨ (s.ae.fan side).duty < 150))) :
    s.controlStep.ae.fan side =
      { s.ae.fan side with
        state := .holdoff
        duty := 0
        measured := (s.controlStep.ae.fan side).measured
        qc := 0
        qr := 0
        speedTarget := 0
        ePrev := 0
        remainder := 0
        wait := some s.settings.holdoffTime
        startTime := none
        runningTime := 0
        curveLimit := false
        saturation := 0
        flowLimited := false
        tacho := (s.controlStep.ae.fan side).tacho } := by
  obtain ⟨hway, hretries⟩ := State.measuredFan_under_way h
  have hmeasured : (s.measuredFan side).measured = (s.controlStep.ae.fan side).measured :=
    (FanRecord.afterMeasure_reading _ _ _ _).1.trans (s.controlStep_measured side).symm
  have htacho : (s.measuredFan side).tacho = (s.controlStep.ae.fan side).tacho :=
    (FanRecord.afterMeasure_reading _ _ _ _).2.trans (s.controlStep_tacho side).symm
  rw [← hmeasured, ← htacho, State.controlStep_fan_of_zero hqc hway]
  simp only [FanRecord.enterHoldoff, FanRecord.cleared, hretries]

/-- A STOPPED fan starts on its command (R49). -/
theorem State.controlStep_fan_of_start {side : Side} (hqc : 0 < s.fanDemand side)
    (hstopped : (s.ae.fan side).state = .stopped) :
    s.controlStep.ae.fan side =
      ({ s.measuredFan side with qc := s.fanDemand side } : FanRecord).enterStarting := by
  have hmeasured := s.measuredFan_of_rest (side := side) (by simp [hstopped]) (by simp [hstopped])
  have hmoved : s.movedFan side = ({ s.measuredFan side with qc := s.fanDemand side } : FanRecord).enterStarting := by
    have hstate : (s.measuredFan side).state = .stopped := by rw [hmeasured]; exact hstopped
    exact (FanRecord.move_of_stopped (f := { s.measuredFan side with qc := s.fanDemand side }) hstate _).trans (if_pos hqc)
  exact State.controlStep_fan_of_starting hmoved rfl rfl

/-- A STARTING fan that has proved runs, takes its error and keeps its duty (R50). -/
theorem State.controlStep_fan_of_proved {side : Side} (hqc : 0 < s.fanDemand side)
    (hstate : (s.ae.fan side).state = .starting)
    (hproved : s.settings.provingSpeed ≤ (s.controlStep.ae.fan side).measured) :
    (s.controlStep.ae.fan side).state = .running ∧ (s.controlStep.ae.fan side).startTime = none ∧
      (s.controlStep.ae.fan side).duty = (s.ae.fan side).duty ∧ (s.controlStep.ae.fan side).runningTime = 0 ∧
      (s.controlStep.ae.fan side).remainder = 0 ∧
      (s.rampedFan side).qr = ramp s.settings.rampRate (s.ae.fan side).qr (s.fanDemand side) ∧
      (s.controlStep.ae.fan side).ePrev =
        ((s.controlStep.ae.fan side).speedTarget : Int) - (s.controlStep.ae.fan side).measured := by
  have hmeasured := State.measuredFan_of_proved hstate hproved
  have hrun : (s.measuredFan side).state = .running := by rw [hmeasured]; rfl
  obtain ⟨hclipped, hramp, hruns⟩ := State.clippedFan_of_pos hrun hqc
  rw [hmeasured] at hclipped hramp
  have hloop : s.controlStep.ae.fan side =
      { (s.clippedFan side).target s.settings (s.settings.curve side) (s.fm.filter side).dpClean
          (s.channel (filterChannel side)) with
        ePrev := ((s.clippedFan side).target s.settings (s.settings.curve side) (s.fm.filter side).dpClean
          (s.channel (filterChannel side))).error } := by
    have hstate' : (s.clippedFan side).state = .running := by rw [hclipped]; rfl
    rw [State.controlStep_fan, hstate]
    simp [FanRecord.stageLoop, FanRecord.target, hstate']
  have hfan : ∃ target limit, s.controlStep.ae.fan side =
      { s.clippedFan side with
        speedTarget := target
        curveLimit := limit
        ePrev := (target : Int) - (s.clippedFan side).measured } := by
    have hstate' : (s.clippedFan side).state = .running := by rw [hclipped]; rfl
    rw [hloop]
    simp only [FanRecord.target, hstate', if_true]
    exact ⟨_, _, rfl⟩
  obtain ⟨target, limit, hfan⟩ := hfan
  refine ⟨hruns, ?_⟩
  rw [hfan, hclipped]
  exact ⟨rfl, rfl, rfl, rfl, hramp, rfl⟩

theorem State.controlStep_fan_of_unproved {side : Side} (hqc : 0 < s.fanDemand side)
    (hstate : (s.ae.fan side).state = .starting)
    (hproved : (s.controlStep.ae.fan side).measured < s.settings.provingSpeed) :
    (s.controlStep.ae.fan side).state = .starting := by
  have hmeasured : (s.measuredFan side).state = .starting := by
    rw [State.measuredFan_of_unproved hstate hproved]; exact hstate
  rw [State.controlStep_state, State.movedFan,
    FanRecord.move_of_pos (f := { s.measuredFan side with qc := s.fanDemand side }) (.inr hmeasured) hqc]
  exact hmeasured

end

/-- Settles O27. -/
theorem commandsStartAndStopTheFans : Obligations.CommandsStartAndStopTheFans := by
  unfold Obligations.CommandsStartAndStopTheFans
  intro s hheld
  refine ⟨_, exec_controlStep hheld, ?_⟩
  simp only [← Airflow.fan_extract, ← Airflow.fan_supply, State.controlStep_qc]
  refine ⟨fun hstill side => ?_, fun hready hplan hceiling => ?_, fun hpos => ?_, fun side => ⟨fun hzero hstopped => ?_,
    fun hzero hway => State.controlStep_fan_of_stop hzero hway, fun hwaits => ?_⟩⟩
  · have hzero := State.fanDemand_of_still hstill side
    obtain ⟨hrun, hstart⟩ := State.controlStep_still hzero
    refine ⟨hzero, hrun, hstart, fun hway => ?_⟩
    rw [State.controlStep_fan_of_stop hzero hway]
    exact ⟨rfl, rfl, rfl, rfl, rfl, rfl⟩
  · have hpos : (s.measuredFan .extract).state ≠ .lockedOut → 0 < s.fanDemand .extract :=
      State.extractDemand_pos hready hplan hceiling
    refine ⟨fun hstopped => ?_, fun hstarting hproved => ?_, fun hstarting hslow => ?_⟩
    · have hne : (s.measuredFan .extract).state ≠ .lockedOut := by
        rw [State.measuredFan_of_rest (by simp [hstopped]) (by simp [hstopped])]
        exact fun h => nomatch hstopped.symm.trans h
      rw [State.controlStep_fan_of_start (hpos hne) hstopped]
      exact ⟨rfl, rfl, rfl, rfl⟩
    · have hne : (s.measuredFan .extract).state ≠ .lockedOut := by
        rw [State.measuredFan_of_proved hstarting hproved]
        exact nofun
      obtain ⟨hrun, hstart, hduty, htime, hrem, hramp, herror⟩ :=
        State.controlStep_fan_of_proved (hpos hne) hstarting hproved
      refine ⟨hrun, hstart, hduty, htime, hrem, fun hqr => ?_, herror⟩
      have hflow : (s.controlStep.ae.fan .extract).qr = (s.rampedFan .extract).qr := s.controlStep_qr .extract
      rw [hflow, hramp, hqr, ramp_of_lt (hpos hne), Nat.zero_add]
    · have hne : (s.measuredFan .extract).state ≠ .lockedOut := by
        rw [State.measuredFan_of_unproved hstarting hslow]
        exact fun h => nomatch hstarting.symm.trans h
      exact State.controlStep_fan_of_unproved (hpos hne) hstarting hslow
  · refine ⟨fun hstopped => ?_, fun hstarting hproved => ?_, fun hstarting hslow => ?_⟩
    · rw [State.controlStep_fan_of_start hpos hstopped]
      exact ⟨rfl, rfl, rfl, rfl⟩
    · obtain ⟨hrun, hstart, hduty, htime, hrem, hramp, herror⟩ :=
        State.controlStep_fan_of_proved hpos hstarting hproved
      refine ⟨hrun, hstart, hduty, htime, hrem, fun hqr => ?_, herror⟩
      rw [State.controlStep_qr _ .supply, State.clippedFan_supply_qr, hramp, hqr, ramp_of_lt hpos, Nat.zero_add]
    · exact State.controlStep_fan_of_unproved hpos hstarting hslow
  · have hmeasured := s.measuredFan_of_rest (side := side) (by simp [hstopped]) (by simp [hstopped])
    rw [State.controlStep_state, State.movedFan, FanRecord.move_of_stopped (f := { s.measuredFan side with
      qc := s.fanDemand side }) (by rw [hmeasured]; exact hstopped), hzero, if_neg (Nat.lt_irrefl 0), hmeasured]
    exact hstopped
  · have hmeasured : s.measuredFan side = (s.ae.fan side).measure (s.freeFor side) := by
      refine State.measuredFan_of_rest ?_ ?_ <;> intro h <;> rw [h] at hwaits <;> exact absurd hwaits (by decide)
    obtain ⟨hfan, hqr⟩ := State.controlStep_fan_of_waiting (s := s) (side := side) (by rw [hmeasured]; exact hwaits)
    rw [hmeasured] at hfan hqr
    rw [hfan]
    exact ⟨rfl, hqr⟩

section
variable {s : State}

/-! ## The speed loop (R60 to R64) -/

/-- The loop moves the duty, the remainder and the error alone, the duty kept from 100 to 1000 (R62, R63). -/
theorem FanRecord.stepLoop_cases (m : FanRecord) (kp ki : Nat) {num duty : Int}
    (hnum : num = kp * (((m.speedTarget : Int) - m.measured) - m.ePrev) + ki * ((m.speedTarget : Int) - m.measured) +
      m.remainder) (hduty : duty = m.duty + num.tdiv 1024) :
    ∃ d r, m.stepLoop kp ki = { m with duty := d, remainder := r, ePrev := (m.speedTarget : Int) - m.measured } ∧
      (100 ≤ duty → duty ≤ 1000 → (d : Int) = duty ∧ r = num - num.tdiv 1024 * 1024) ∧
      (1000 < duty → d = 1000 ∧ r = 0) ∧ (duty < 100 → d = 100 ∧ r = 0) := by
  have hsum : loopSum kp ki m.error m.ePrev m.remainder = num := hnum.symm
  unfold FanRecord.stepLoop
  simp only [hsum, ← hduty]
  split
  · exact ⟨1000, 0, rfl, fun _ _ => by omega, fun _ => ⟨rfl, rfl⟩, fun _ => by omega⟩
  split
  · exact ⟨100, 0, rfl, fun _ _ => by omega, fun _ => by omega, fun _ => ⟨rfl, rfl⟩⟩
  · exact ⟨duty.toNat, num - num.tdiv 1024 * 1024, rfl, fun _ _ => ⟨by omega, rfl⟩, fun _ => by omega, fun _ => by omega⟩

/-- The saturation is counted at full duty below the target (R64). -/
theorem FanRecord.assessSaturation_cases (m : FanRecord) :
    ∃ n b, m.assessSaturation = { m with saturation := n, flowLimited := b } ∧
      (m.duty = 1000 ∧ m.measured < m.speedTarget →
        n = min 30 (m.saturation + 1) ∧ (b = true ↔ m.flowLimited = true ∨ n = 30)) ∧
      (¬(m.duty = 1000 ∧ m.measured < m.speedTarget) → n = 0 ∧ b = false) := by
  unfold FanRecord.assessSaturation
  split
  · rename_i h
    exact ⟨_, _, rfl, fun _ => ⟨rfl, by simp⟩, fun hnot => absurd h hnot⟩
  · rename_i h
    exact ⟨_, _, rfl, fun hsat => absurd hsat h, fun _ => ⟨rfl, rfl⟩⟩

theorem FanRecord.stageLoop_of_running {m : FanRecord} (h : m.state = .running) (set : Settings) :
    m.stageLoop set true = (m.stepLoop set.kp set.ki).assessSaturation.advanceRunning := by
  simp [FanRecord.stageLoop, h]

theorem FanRecord.target_of_running {f : FanRecord} (h : f.state = .running) (set : Settings) (curve : Curve)
    (dp : Option Nat) (pressure : Channel) :
    f.target set curve dp pressure = { f with
      speedTarget := compensate set.compGain (curve.speedAt f.qr).1 (excessPressure set.qref dp pressure f.qr)
      curveLimit := (curve.speedAt f.qr).2 } :=
  if_pos h

/-- A fan that runs after a control step ran after stage 1, and its command is above 0. -/
theorem State.measuredFan_of_running {side : Side} (h : (s.controlStep.ae.fan side).state = .running) :
    (s.measuredFan side).state = .running ∧ 0 < s.fanDemand side := by
  have hpos : 0 < s.fanDemand side :=
    Nat.pos_of_ne_zero fun hzero => (State.controlStep_still hzero).1 h
  refine ⟨?_, hpos⟩
  rw [State.controlStep_state] at h
  unfold State.movedFan FanRecord.move at h
  split at h
  case h_1 hrun => exact hrun
  case h_2 => rw [if_neg (show ¬s.fanDemand side = 0 by omega)] at h; exact h
  case h_3 => rw [if_pos hpos] at h; cases h
  case h_4 => exact h

end

/-- Settles O25. -/
theorem controlStepDrivesTheSpeedLoop : Obligations.ControlStepDrivesTheSpeedLoop := by
  unfold Obligations.ControlStepDrivesTheSpeedLoop
  intro s side hheld hstate
  refine ⟨_, exec_controlStep hheld, fun hruns f g pressure excess target n num duty hf hg hpressure hnone hsome htarget
    hnum hduty hn => ?_⟩
  obtain ⟨hrun, hpos⟩ := State.measuredFan_of_running hruns
  have hheard : f.tacho.silent = false ∨ f.duty < 150 := by
    rcases (s.measuredFan_running_iff side).1 hrun with ⟨-, hheard⟩ | ⟨hstart, -⟩
    · rw [hf]; exact hheard
    · exact nomatch hstate.symm.trans hstart
  have hmeasured : s.measuredFan side = f.measure (s.freeFor side) := by
    rw [hf] at hheard ⊢
    exact State.measuredFan_of_heard hstate hheard
  obtain ⟨hclipped, -, -⟩ := State.clippedFan_of_pos hrun hpos
  have hgqr : (s.clippedFan side).qr = g.qr := by rw [hg, State.controlStep_qr]
  have hgmeasured : (f.measure (s.freeFor side)).measured = g.measured := by
    rw [hg, hf, State.controlStep_measured]; rfl
  rw [hmeasured, hgqr] at hclipped
  have hstate' : (s.clippedFan side).state = .running := by
    rw [hclipped, hf]; exact hstate
  have hexcess : excessPressure s.settings.qref (s.fm.filter side).dpClean pressure g.qr = excess := by
    unfold excessPressure
    split
    · rename_i hdp
      exact (hnone (.inr hdp)).symm
    · rename_i dp hdp
      split
      · rename_i hfailed
        exact (hnone (.inl hfailed)).symm
      · rename_i hfailed
        exact (hsome dp hfailed hdp).symm
  have hfan : g = FanRecord.advanceRunning (FanRecord.assessSaturation (FanRecord.stepLoop
      { s.clippedFan side with
        speedTarget := target
        curveLimit := ((s.settings.curve side).speedAt g.qr).2 } s.settings.kp s.settings.ki)) := by
    have hloop := s.controlStep_fan side
    rw [← hg, FanRecord.target_of_running hstate', hstate, ← hpressure] at hloop
    rw [show (FanState.running == FanState.running) = true from rfl,
      FanRecord.stageLoop_of_running (by exact hstate')] at hloop
    rw [hclipped] at hloop ⊢
    dsimp only at hloop ⊢
    rw [hexcess, compensate, ← htarget] at hloop
    exact hloop
  rw [hclipped] at hfan
  obtain ⟨d, r, hstep, hinside, habove, hbelow⟩ := FanRecord.stepLoop_cases
    { f.measure (s.freeFor side) with
      qc := s.fanDemand side
      qr := g.qr
      speedTarget := target
      curveLimit := ((s.settings.curve side).speedAt g.qr).2 } s.settings.kp s.settings.ki (num := num)
    (by rw [hnum, ← hgmeasured]; rfl) hduty
  dsimp only at hstep
  obtain ⟨k, b, hsaturation, hfull, hless⟩ := FanRecord.assessSaturation_cases
    { f.measure (s.freeFor side) with
      duty := d
      qc := s.fanDemand side
      qr := g.qr
      speedTarget := target
      ePrev := (target : Int) - (f.measure (s.freeFor side)).measured
      remainder := r
      curveLimit := ((s.settings.curve side).speedAt g.qr).2 }
  dsimp only at hsaturation hfull hless hfan
  rw [hstep, hsaturation] at hfan
  have hgduty : g.duty = d := congrArg FanRecord.duty hfan
  have hgrem : g.remainder = r := congrArg FanRecord.remainder hfan
  have hgsat : g.saturation = k := congrArg FanRecord.saturation hfan
  have hglim : g.flowLimited = b := congrArg FanRecord.flowLimited hfan
  have hgtime : g.runningTime = n := (congrArg FanRecord.runningTime hfan).trans hn.symm
  have hgretries : g.retries = if n = 600 then 0 else f.retries := by
    rw [hn]; exact congrArg FanRecord.retries hfan
  rw [hgmeasured] at hfull hless hfan
  rw [hgduty, hgrem, hgsat, hglim, hgtime, hgretries]
  refine ⟨congrArg FanRecord.speedTarget hfan, congrArg FanRecord.curveLimit hfan, congrArg FanRecord.ePrev hfan, hinside,
    habove, hbelow, fun hsat => ?_, hless, rfl, fun h => if_pos h, fun h => if_neg (by omega)⟩
  obtain ⟨hcount, hlimited⟩ := hfull hsat
  refine ⟨hcount, hlimited, fun hnow hwas => ?_⟩
  obtain ⟨-, -, hnew⟩ := s.controlStep_reports
  refine hnew side (by rw [← hg, hglim]; exact hnow) ?_
  rw [hmeasured]
  exact hwas

end Sys2Proof.Machine

namespace Sys2Proof.Machine

/-! # The frost guard outside its cold windows (R68 to R70, R72, R73, R77 to R84) -/

section
variable {s : State}

/-! ## One evaluation at the state -/

/-- T_lim of an evaluation (R70). -/
def State.frostLimit (s : State) : Int := s.settings.frostBaseLimit + s.frostInputs.adder

/-- An evaluation moves the guard, the damper, the PREHEAT output and the events alone. -/
theorem State.evaluateFrost_eq (s : State) :
    s.evaluateFrost =
      { s with
        fg := s.evaluateFrost.fg
        damper := s.damperAfter s.evaluateFrost.fg.state
        preheat := s.preheat.published s.evaluateFrost.fg.proportion
        eu := s.evaluateFrost.eu } := by
  have hevents : ∃ e, (s.raiseAll (s.frostInputs.evaluate s.fg).flags).countDefrost (s.frostInputs.evaluate s.fg).flags =
      s.setEu e := by
    rw [State.raiseAll_eq_setEu]
    unfold State.countDefrost
    split <;> exact ⟨_, rfl⟩
  obtain ⟨e, he⟩ := hevents
  unfold State.evaluateFrost
  dsimp only
  rw [he]
  rfl

theorem State.evaluateFrost_damper (s : State) :
    s.evaluateFrost.damper = s.damperAfter s.evaluateFrost.fg.state := by rw [State.evaluateFrost_eq]

theorem State.evaluateFrost_preheat (s : State) :
    s.evaluateFrost.preheat = s.preheat.published s.evaluateFrost.fg.proportion := by rw [State.evaluateFrost_eq]

theorem State.evaluateFrost_of {g : Guarded} (h : s.frostInputs.evaluate s.fg = g) :
    s.evaluateFrost.fg = { g.record with wantedOpen := s.wantedOpen g.record.state } ∧
    s.evaluateFrost.eu = g.events s.eu s.settings.counterSnapshot := by
  subst h
  exact ⟨s.evaluateFrost_fg, s.evaluateFrost_eu⟩

/-- Before the measurements are ready an evaluation changes nothing (R68). -/
theorem exec_frostEvaluation_of_not_ready (h : s.mc.ready = false) : exec .frostEvaluation s = .next s := by
  change execFrostEvaluation s = _
  refine congrArg Host.Outcome.next ?_
  by_cases hheld : s.phase = .held
  · exact State.unlessHeld_held hheld _
  · simp [State.unlessHeld_of_ne hheld, h]

@[simp] theorem FrostRecord.judged_origin (r : FrostRecord) (limit) (window) :
    (r.judged limit window).origin = r.origin := rfl
@[simp] theorem FrostRecord.judged_defrostElapsed (r : FrostRecord) (limit) (window) :
    (r.judged limit window).defrostElapsed = r.defrostElapsed.map (· + 10) := rfl
@[simp] theorem FrostRecord.judged_holdElapsed (r : FrostRecord) (limit) (window) :
    (r.judged limit window).holdElapsed = r.holdElapsed.map (· + 10) := rfl
@[simp] theorem FrostRecord.judged_holdEntryOda (r : FrostRecord) (limit) (window) :
    (r.judged limit window).holdEntryOda = r.holdEntryOda := rfl
@[simp] theorem FrostRecord.judged_fallbackCycle (r : FrostRecord) (limit) (window) :
    (r.judged limit window).fallbackCycle = r.fallbackCycle.map (· + 10) := rfl
@[simp] theorem FrostRecord.judged_paused (r : FrostRecord) (limit) (window) :
    (r.judged limit window).paused = false := rfl

@[simp] theorem State.frostInputs_eha (s : State) : s.frostInputs.eha = s.channel chEha := rfl
@[simp] theorem State.frostInputs_preheater (s : State) : s.frostInputs.preheater = s.preheaterFitted := rfl

theorem State.frostInputs_extractRunning (h : s.ae.extract.state = .running) : s.frostInputs.extractRunning = true := by
  simp [State.frostInputs, h]

theorem State.frostInputs_not_extractRunning (h : s.ae.extract.state ≠ .running) :
    s.frostInputs.extractRunning = false := by simpa [State.frostInputs] using h

/-- The record that the rule of a state without cold marks judges. -/
def State.unmarked (s : State) : FrostRecord := s.fg.judged s.frostLimit s.fg.window

/-- Without extract flow and outside FROST_HOLD the guard pauses (R80). -/
theorem State.evaluate_eq_pause (hflow : s.ae.extract.state ≠ .running) (hhold : s.fg.state ≠ .frostHold) :
    s.frostInputs.evaluate s.fg = quietly (s.frostInputs.pause s.unmarked) := by
  have hstate : (s.frostInputs.withLimit s.fg.age).state = s.fg.state := rfl
  have hpause : (!s.frostInputs.extractRunning && (s.frostInputs.withLimit s.fg.age).state != .frostHold) = true := by
    simp [State.frostInputs_not_extractRunning hflow, hstate, hhold]
  unfold FrostInputs.evaluate FrostInputs.stages
  rw [if_pos hpause]
  rfl

/-- In a state without cold marks the rule decides on the aged record. -/
theorem State.evaluate_eq_rule_unmarked (hflow : s.ae.extract.state = .running ∨ s.fg.state = .frostHold)
    (hjudges : s.fg.state.judgesMarks = false) : s.frostInputs.evaluate s.fg = s.frostInputs.rule s.unmarked := by
  have hstate : (s.frostInputs.withLimit s.fg.age).state = s.fg.state := rfl
  have hpause : ¬(!s.frostInputs.extractRunning && (s.frostInputs.withLimit s.fg.age).state != .frostHold) = true := by
    rw [hstate]
    rcases hflow with h | h
    · simp [State.frostInputs_extractRunning h]
    · simp [h]
  unfold FrostInputs.evaluate FrostInputs.stages
  rw [if_neg hpause]
  exact if_neg (by simp [hstate, hjudges])

/-- With T_EHA FAILED a state that judges cold marks is left for FALLBACK (R81). -/
theorem State.evaluate_eq_enterFallback (hflow : s.ae.extract.state = .running)
    (hjudges : s.fg.state.judgesMarks = true) (heha : (s.channel chEha).state = .failed) :
    s.frostInputs.evaluate s.fg = ⟨s.frostInputs.enterFallback s.unmarked, [.guardFallback]⟩ := by
  have hstate : (s.frostInputs.withLimit s.fg.age).state = s.fg.state := rfl
  have hfailed : s.frostInputs.eha.isFailed = true := by simpa using heha
  unfold FrostInputs.evaluate FrostInputs.stages
  rw [if_neg (by simp [State.frostInputs_extractRunning hflow])]
  refine (if_pos (by simp [hstate, hjudges])).trans ?_
  rw [if_pos hfailed]
  rfl

end

/-! ## What every rule keeps -/

namespace FrostInputs

section
variable (i : FrostInputs) (r : FrostRecord)

@[simp] theorem escalate_paused : (i.escalate r).record.paused = r.paused := by
  unfold escalate defrostDue; split_ifs <;> rfl

/-- An escalation leads to no FALLBACK. -/
theorem escalate_state_ne (h : r.state ≠ .fallback) : (i.escalate r).record.state ≠ .fallback := by
  unfold escalate defrostDue
  split_ifs
  · exact h
  · exact h
  · exact fun hne => nomatch hne
  · exact fun hne => nomatch hne

@[simp] theorem stepBack_limit : (i.stepBack r).limit = r.limit := by unfold stepBack; dsimp only; split_ifs <;> rfl
@[simp] theorem stepBack_paused : (i.stepBack r).paused = r.paused := by unfold stepBack; dsimp only; split_ifs <;> rfl

theorem stepBack_state_ne (h : r.state ≠ .fallback) : (i.stepBack r).state ≠ .fallback := by
  unfold stepBack
  dsimp only
  split_ifs
  · exact fun hne => nomatch hne
  · exact h
  · exact fun hne => nomatch hne
  · exact h

@[simp] theorem enterProtect_limit : (i.enterProtect r).record.limit = r.limit := by simp [enterProtect]
@[simp] theorem enterProtect_paused : (i.enterProtect r).record.paused = r.paused := by simp [enterProtect]

/-- No rule moves T_lim. -/
theorem rule_limit : (i.rule r).record.limit = r.limit := by
  unfold rule
  split
  · unfold ruleInactive; split_ifs <;> rfl
  · unfold ruleWatch; split_ifs <;> simp [enterInactive]
  · unfold ruleProtect; split_ifs <;> simp
  · unfold ruleDefrostFallback ruleDefrostNormal; dsimp only; split_ifs <;> rfl
  · unfold ruleRecover; dsimp only; split_ifs <;> simp [enterWatch]
  · unfold ruleHold; dsimp only; split_ifs <;> rfl
  · unfold ruleFallback
    dsimp only
    cases (i.fallbackValues r).fallbackCycle <;> dsimp only <;> split_ifs <;> rfl

variable {i} in
/-- With extract flow no rule pauses the guard. -/
theorem rule_paused (hflow : i.extractRunning = true) : (i.rule r).record.paused = r.paused := by
  unfold rule
  split
  · unfold ruleInactive; split_ifs <;> rfl
  · unfold ruleWatch; split_ifs <;> simp [enterInactive]
  · unfold ruleProtect; split_ifs <;> simp
  · unfold ruleDefrostFallback ruleDefrostNormal; dsimp only; split_ifs <;> rfl
  · unfold ruleRecover; dsimp only; split_ifs <;> simp [enterWatch]
  · unfold ruleHold; simp only [hflow, Bool.not_true, Bool.false_eq_true, if_false]; split_ifs <;> rfl
  · unfold ruleFallback
    dsimp only
    cases (i.fallbackValues r).fallbackCycle <;> dsimp only <;> split_ifs <;> rfl

/-! ## FALLBACK's fraction and proportion (R82) -/

/-- In FALLBACK the record holds the fraction and the proportion of the table. -/
def FallbackFits (i : FrostInputs) (r : FrostRecord) : Prop :=
  r.state = .fallback → r.fraction = (i.fallbackValues r).fraction ∧ r.proportion = (i.fallbackValues r).proportion

variable {i r} in
theorem fallbackFits_of_ne (h : r.state ≠ .fallback) : i.FallbackFits r := fun hr => absurd hr h

theorem enterFallback_fits : i.FallbackFits (i.enterFallback r) := fun _ => ⟨rfl, rfl⟩

theorem pause_fits : i.FallbackFits (i.pause r) := by
  refine fallbackFits_of_ne ?_
  simp only [pause]
  split <;> exact fun h => nomatch h

/-- Whatever the rule, a record that it leaves in FALLBACK holds the values of the table. -/
theorem rule_fits : i.FallbackFits (i.rule r).record := by
  unfold rule
  split
  next hstate =>
    unfold ruleInactive
    split_ifs
    · exact i.enterFallback_fits r
    · exact fallbackFits_of_ne fun h => nomatch h
    · exact fallbackFits_of_ne fun h => nomatch hstate.symm.trans h
  next hstate =>
    unfold ruleWatch
    split_ifs
    · exact fallbackFits_of_ne (i.escalate_state_ne _ fun h => nomatch h)
    · exact fallbackFits_of_ne fun h => nomatch h
    · exact fallbackFits_of_ne fun h => nomatch hstate.symm.trans h
  next hstate =>
    have hne : r.state ≠ .fallback := fun h => nomatch hstate.symm.trans h
    unfold ruleProtect
    split_ifs
    · exact fallbackFits_of_ne (i.escalate_state_ne r hne)
    · exact fallbackFits_of_ne (i.stepBack_state_ne r hne)
    · exact fallbackFits_of_ne hne
  next hstate =>
    have hne : r.state ≠ .fallback := fun h => nomatch hstate.symm.trans h
    unfold ruleDefrostFallback ruleDefrostNormal
    dsimp only
    split_ifs
    · exact fallbackFits_of_ne hne
    · exact fallbackFits_of_ne fun h => nomatch h
    · exact fallbackFits_of_ne fun h => nomatch h
    · exact i.enterFallback_fits _
    · exact fallbackFits_of_ne fun h => nomatch h
    · exact i.enterFallback_fits _
    · exact fallbackFits_of_ne fun h => nomatch h
    · exact fallbackFits_of_ne hne
  next hstate =>
    have hne : r.state ≠ .fallback := fun h => nomatch hstate.symm.trans h
    unfold ruleRecover
    dsimp only
    split_ifs
    · exact fallbackFits_of_ne (i.escalate_state_ne _ fun h => nomatch h)
    · exact fallbackFits_of_ne fun h => nomatch h
    · exact fallbackFits_of_ne hne
    · exact fallbackFits_of_ne hne
  next hstate =>
    have hne : r.state ≠ .fallback := fun h => nomatch hstate.symm.trans h
    unfold ruleHold
    dsimp only
    split_ifs
    · exact i.pause_fits _
    · exact i.enterFallback_fits _
    · exact fallbackFits_of_ne fun h => nomatch h
    · exact fallbackFits_of_ne hne
  next hstate =>
    unfold ruleFallback
    dsimp only
    cases (i.fallbackValues r).fallbackCycle with
    | none =>
      split_ifs
      · exact fallbackFits_of_ne fun h => nomatch h
      · exact fallbackFits_of_ne fun h => nomatch h
      · exact fun _ => ⟨rfl, rfl⟩
      · exact fun _ => ⟨rfl, rfl⟩
    | some n =>
      dsimp only
      split_ifs
      · exact fallbackFits_of_ne fun h => nomatch h
      · exact fallbackFits_of_ne fun h => nomatch h
      · exact fallbackFits_of_ne fun h => nomatch h
      · exact fun _ => ⟨rfl, rfl⟩
      · exact fun _ => ⟨rfl, rfl⟩

end

/-! ## The rule of each state, case by case -/

section
variable {i : FrostInputs} {r : FrostRecord}

theorem cold_iff : i.cold = true ↔ i.oda.state = .failed ∨ i.oda.filtered < i.set.frostEnable := by simp [cold]

theorem warm_iff : i.warm = true ↔ i.oda.state ≠ .failed ∧ i.set.frostEnable + 10 ≤ i.oda.filtered := by
  simp [warm, Channel.isFailed]

theorem not_warm (h : i.oda.state = .failed ∨ i.oda.filtered < i.set.frostEnable + 10) : i.warm = false := by
  rw [Bool.eq_false_iff, Ne, warm_iff]
  grind

theorem rule_inactive_of_cold (hstate : r.state = .inactive) (heha : i.eha.state ≠ .failed)
    (h : i.oda.state = .failed ∨ i.oda.filtered < i.set.frostEnable) : i.rule r = quietly (i.enterWatch r) := by
  have hcold : i.cold = true := cold_iff.2 h
  simp [rule, hstate, ruleInactive, hcold, heha]

theorem rule_inactive_of_failed (hstate : r.state = .inactive) (heha : i.eha.state = .failed)
    (h : i.oda.state = .failed ∨ i.oda.filtered < i.set.frostEnable) :
    i.rule r = ⟨i.enterFallback r, [.guardFallback]⟩ := by
  have hcold : i.cold = true := cold_iff.2 h
  simp [rule, hstate, ruleInactive, hcold, heha]

theorem rule_inactive_of_not_cold (hstate : r.state = .inactive) (hoda : i.oda.state ≠ .failed)
    (h : i.set.frostEnable ≤ i.oda.filtered) : i.rule r = quietly r := by
  have hcold : i.cold = false := by
    rw [Bool.eq_false_iff, Ne, cold_iff]
    grind
  simp [rule, hstate, ruleInactive, hcold]

theorem rule_watch_of_warm (hstate : r.state = .watch) (hmeets : marks r.window < i.set.kFrost)
    (hoda : i.oda.state ≠ .failed) (h : i.set.frostEnable + 10 ≤ i.oda.filtered) (hclear : marks r.window = 0) :
    i.rule r = quietly (enterInactive r) := by
  have hmeets : i.meets r = false := by simpa [meets] using hmeets
  have hwarm : i.warm = true := warm_iff.2 ⟨hoda, h⟩
  simp [rule, hstate, ruleWatch, hmeets, hwarm, isClear, hclear]

theorem rule_watch_of_not_warm (hstate : r.state = .watch) (hmeets : marks r.window < i.set.kFrost)
    (h : i.oda.state = .failed ∨ i.oda.filtered < i.set.frostEnable + 10 ∨ marks r.window ≠ 0) :
    i.rule r = quietly r := by
  have hmeets : i.meets r = false := by simpa [meets] using hmeets
  have hstays : (i.warm && isClear r.window) = false := by
    rcases or_assoc.2 h with h | h
    · simp [not_warm h]
    · simp [isClear, h]
  simp [rule, hstate, ruleWatch, hmeets, hstays]

end

end FrostInputs

section
variable {s : State}

/-- With extract flow a rule decides, or a failed T_EHA leads to FALLBACK. -/
theorem State.evaluate_cases (hflow : s.ae.extract.state = .running) :
    ∃ r : FrostRecord, r.limit = s.frostLimit ∧ r.paused = false ∧
      (s.frostInputs.evaluate s.fg = s.frostInputs.rule r ∨
        s.frostInputs.evaluate s.fg = ⟨s.frostInputs.enterFallback r, [.guardFallback]⟩) := by
  by_cases hjudges : s.fg.state.judgesMarks = true
  · by_cases heha : (s.channel chEha).state = .failed
    · exact ⟨s.unmarked, rfl, rfl, .inr (State.evaluate_eq_enterFallback hflow hjudges heha)⟩
    · exact ⟨_, rfl, rfl, .inl (State.evaluate_eq_rule_judged hflow hjudges heha rfl
        (FrostInputs.coldMark_iff s.frostInputs { s.fg with limit := s.frostLimit }))⟩
  · exact ⟨s.unmarked, rfl, rfl, .inl (State.evaluate_eq_rule_unmarked (.inl hflow) (by simpa using hjudges))⟩

theorem State.evaluateFrost_limit (s : State) : s.evaluateFrost.fg.limit = s.frostLimit := by
  rw [State.evaluateFrost_fg]
  by_cases hflow : s.ae.extract.state = .running
  · obtain ⟨r, hlimit, _, h | h⟩ := State.evaluate_cases hflow
    · rw [h, ← hlimit]
      exact s.frostInputs.rule_limit r
    · rw [h, ← hlimit]
      rfl
  · by_cases hhold : s.fg.state = .frostHold
    · rw [State.evaluate_eq_rule_unmarked (.inr hhold) (by rw [hhold]; rfl)]
      exact s.frostInputs.rule_limit s.unmarked
    · rw [State.evaluate_eq_pause hflow hhold]
      rfl

theorem State.evaluateFrost_paused (hflow : s.ae.extract.state = .running) : s.evaluateFrost.fg.paused = false := by
  rw [State.evaluateFrost_fg]
  obtain ⟨r, _, hpaused, h | h⟩ := State.evaluate_cases hflow
  · rw [h, ← hpaused]
    exact FrostInputs.rule_paused r (State.frostInputs_extractRunning hflow)
  · rw [h, ← hpaused]
    rfl

/-- In FALLBACK the guard shows the values of the table (R82). -/
theorem State.evaluateFrost_fits (hflow : s.ae.extract.state = .running) :
    s.frostInputs.FallbackFits s.evaluateFrost.fg := by
  rw [State.evaluateFrost_fg]
  obtain ⟨r, _, _, h | h⟩ := State.evaluate_cases hflow
  · rw [h]
    exact s.frostInputs.rule_fits r
  · rw [h]
    exact s.frostInputs.enterFallback_fits r

/-- The adder of R70 by its two cases. -/
theorem State.adder_eq {adder : Int}
    (hnone : (s.channel chRh).state = .failed ∨ (s.channel chEta).state = .failed ∨ s.hm.dewPoint = none → adder = 20)
    (hsome : ∀ td, (s.channel chRh).state ≠ .failed → (s.channel chEta).state ≠ .failed → s.hm.dewPoint = some td →
      adder = (if 100 ≤ td then min 20 ((td - 100).tdiv 4) else 0)) :
    s.frostInputs.adder = adder := by
  have hrh : s.frostInputs.rh = s.channel chRh := rfl
  have heta : s.frostInputs.eta = s.channel chEta := rfl
  have hdew : s.frostInputs.dewPoint = s.hm.dewPoint := rfl
  unfold FrostInputs.adder
  by_cases hfailed : (s.channel chRh).state = .failed ∨ (s.channel chEta).state = .failed
  · rw [if_pos (by simpa [hrh, heta] using hfailed), hnone (hfailed.imp_right .inl)]
  · obtain ⟨hrhok, hetaok⟩ := not_or.1 hfailed
    rw [if_neg (by simpa [hrh, heta] using hfailed), hdew]
    cases htd : s.hm.dewPoint with
    | none => exact (hnone (.inr (.inr htd))).symm
    | some td => exact (hsome td hrhok hetaok htd).symm

/-- The two conditions on T_ODA exclude each other at the pause (R80). -/
theorem FrostInputs.pause_state (i : FrostInputs) (r : FrostRecord) :
    (i.pause r).state =
      if i.oda.state ≠ .failed ∧ i.set.frostEnable ≤ i.oda.filtered then .inactive else .watch := by
  simp [FrostInputs.pause, Channel.isFailed]

end

/-- Settles O30: the frame of an evaluation, the pause, and the rules of INACTIVE and WATCH. -/
theorem evaluationSetsTheLimitAndPauses : Obligations.EvaluationSetsTheLimitAndPauses := by
  refine ⟨fun s => exec_frostEvaluation_of_not_ready, ?_, ?_⟩
  · intro s adder hacts hnone hsome
    refine ⟨s.evaluateFrost, exec_frostEvaluation_of_acts hacts, ?_, ?_, s.evaluateFrost_preheat,
      State.evaluateFrost_paused, fun hflow hhold => ?_⟩
    · exact s.evaluateFrost_eq.trans (by rw [← s.evaluateFrost_damper, ← s.evaluateFrost_preheat])
    · rw [s.evaluateFrost_limit, State.frostLimit, State.adder_eq hnone hsome]
    · obtain ⟨hfg, heu⟩ := State.evaluateFrost_of_quietly (State.evaluate_eq_pause hflow hhold)
      have hstate : s.evaluateFrost.fg.state =
          if (s.channel chOda).state ≠ .failed ∧ s.settings.frostEnable ≤ (s.channel chOda).filtered then .inactive
          else .watch := by rw [hfg]; exact FrostInputs.pause_state s.frostInputs s.unmarked
      refine ⟨by rw [hfg]; rfl, heu, fun h => hstate.trans (if_pos h), fun h => hstate.trans (if_neg ?_)⟩
      grind
  · intro s limit cold window reference hacts hflow heha hlimit hcold hwindow hreference
    refine ⟨s.evaluateFrost, exec_frostEvaluation_of_acts hacts, fun hstate => ?_, fun hstate hmarks => ?_⟩
    · have hrule := State.evaluate_eq_rule_unmarked (.inl hflow) (by rw [hstate]; rfl)
      by_cases hoda : (s.channel chOda).state = .failed ∨ (s.channel chOda).filtered < s.settings.frostEnable
      · obtain ⟨hfg, heu⟩ := State.evaluateFrost_of_quietly
          (hrule.trans (FrostInputs.rule_inactive_of_cold hstate heha hoda))
        have href := FrostInputs.reference_of_running (r := s.unmarked) (State.frostInputs_extractRunning hflow)
        refine ⟨by rw [hfg]; rfl, heu, fun _ => ⟨by rw [hfg]; rfl, by rw [hfg]; rfl, by rw [hfg]; rfl, ?_⟩, ?_⟩
        · rw [hfg, hreference]
          exact href
        · intro h1 h2
          grind
      · obtain ⟨hodaok, hnotcold⟩ := not_or.1 hoda
        obtain ⟨hfg, heu⟩ := State.evaluateFrost_of_quietly
          (hrule.trans (FrostInputs.rule_inactive_of_not_cold hstate hodaok (Int.not_lt.1 hnotcold)))
        exact ⟨by rw [hfg]; rfl, heu, fun h => absurd h hoda, fun _ _ =>
          ⟨by rw [hfg]; exact hstate, by rw [hfg]; rfl, by rw [hfg]; rfl, by rw [hfg]; rfl⟩⟩
    · have hrule := State.evaluate_eq_rule_judged hflow (by rw [hstate]; rfl) heha hlimit hcold
      rw [← hwindow] at hrule
      by_cases hleaves : (s.channel chOda).state ≠ .failed ∧ s.settings.frostEnable + 10 ≤ (s.channel chOda).filtered ∧
          marks window = 0
      · obtain ⟨hoda, hwarm, hclear⟩ := hleaves
        obtain ⟨hfg, heu⟩ := State.evaluateFrost_of_quietly
          (hrule.trans (FrostInputs.rule_watch_of_warm hstate hmarks hoda hwarm hclear))
        refine ⟨by rw [hfg]; rfl, heu, fun _ _ _ =>
          ⟨by rw [hfg]; rfl, by rw [hfg]; rfl, by rw [hfg]; rfl, by rw [hfg]; rfl⟩, fun h => ?_⟩
        grind
      · have hstays : (s.channel chOda).state = .failed ∨
            (s.channel chOda).filtered < s.settings.frostEnable + 10 ∨ marks window ≠ 0 := by grind
        obtain ⟨hfg, heu⟩ := State.evaluateFrost_of_quietly
          (hrule.trans (FrostInputs.rule_watch_of_not_warm hstate hmarks hstays))
        exact ⟨by rw [hfg]; rfl, heu, fun h1 h2 h3 => absurd ⟨h1, h2, h3⟩ hleaves, fun _ =>
          ⟨by rw [hfg]; exact hstate, by rw [hfg]; rfl, by rw [hfg]; rfl, by rw [hfg]; rfl⟩⟩

end Sys2Proof.Machine

namespace Sys2Proof.Machine

/-! # The ends of defrosts and frost holds, and FALLBACK (R77 to R84) -/

namespace FrostInputs

section
variable {i : FrostInputs} {r : FrostRecord} {elapsed : Nat}

/-! ## The defrost of origin NORMAL (R77) -/

theorem rule_defrost_normal (hstate : r.state = .defrost) (horigin : r.origin = some .normal) :
    i.rule r = i.ruleDefrostNormal r := by simp [rule, hstate, horigin]

theorem ruleDefrostNormal_unresolved (helapsed : r.defrostElapsed = some elapsed)
    (h : 3 * i.set.defrostTime ≤ elapsed) :
    i.ruleDefrostNormal r = ⟨i.enterRecover (endDefrost r), [.defrostUnresolved]⟩ := by
  simp [ruleDefrostNormal, helapsed, h]

theorem ruleDefrostNormal_failed (helapsed : r.defrostElapsed = some elapsed)
    (hresolves : elapsed < 3 * i.set.defrostTime) (h : i.set.defrostTime ≤ elapsed) (heha : i.eha.state = .failed) :
    i.ruleDefrostNormal r = ⟨i.enterFallback (endDefrost r), [.guardFallback]⟩ := by
  simp [ruleDefrostNormal, helapsed, Nat.not_le.2 hresolves, h, heha]

theorem ruleDefrostNormal_resolved (helapsed : r.defrostElapsed = some elapsed)
    (hresolves : elapsed < 3 * i.set.defrostTime) (h : i.set.defrostTime ≤ elapsed) (heha : i.eha.state ≠ .failed)
    (hwarm : r.limit + i.set.exitMargin ≤ i.eha.filtered) :
    i.ruleDefrostNormal r = quietly (i.enterRecover (endDefrost r)) := by
  simp [ruleDefrostNormal, helapsed, Nat.not_le.2 hresolves, h, heha, hwarm]

theorem ruleDefrostNormal_stays (helapsed : r.defrostElapsed = some elapsed)
    (hresolves : elapsed < 3 * i.set.defrostTime)
    (h : elapsed < i.set.defrostTime ∨ (i.eha.state ≠ .failed ∧ i.eha.filtered < r.limit + i.set.exitMargin)) :
    i.ruleDefrostNormal r = quietly r := by
  rcases h with h | ⟨heha, hcold⟩
  · simp [ruleDefrostNormal, helapsed, Nat.not_le.2 hresolves, Nat.not_le.2 h]
  · simp [ruleDefrostNormal, helapsed, Nat.not_le.2 hresolves, heha, Int.not_le.2 hcold]

/-! ## The frost hold (R79) -/

theorem rule_hold (hstate : r.state = .frostHold) : i.rule r = i.ruleHold r := by simp [rule, hstate]

theorem holdEnds_iff (helapsed : r.holdElapsed = some elapsed) :
    i.holdEnds r = true ↔ 14400 ≤ elapsed ∨ (3600 ≤ elapsed ∧ i.oda.state ≠ .failed ∧
      ∃ entry, r.holdEntryOda = some entry ∧ entry + 20 ≤ i.oda.filtered) := by
  cases hentry : r.holdEntryOda <;> simp [holdEnds, helapsed, hentry, Channel.isFailed, and_assoc]

/-- The record as a hold leaves it. -/
def endHold (r : FrostRecord) : FrostRecord := { r with holdElapsed := none, holdEntryOda := none }

theorem ruleHold_stays (hends : ¬i.holdEnds r = true) : i.ruleHold r = quietly r := if_neg hends

theorem ruleHold_still (hends : i.holdEnds r = true) (hflow : i.extractRunning = false) :
    i.ruleHold r = ⟨i.pause (endHold r), [.frostHoldLeft]⟩ := by simp [ruleHold, hends, hflow, endHold]

theorem ruleHold_failed (hends : i.holdEnds r = true) (hflow : i.extractRunning = true) (heha : i.eha.state = .failed) :
    i.ruleHold r = ⟨i.enterFallback (endHold r), [.frostHoldLeft, .guardFallback]⟩ := by
  simp [ruleHold, hends, hflow, heha, endHold]

theorem ruleHold_recover (hends : i.holdEnds r = true) (hflow : i.extractRunning = true)
    (heha : i.eha.state ≠ .failed) : i.ruleHold r = ⟨i.enterRecover (endHold r), [.frostHoldLeft]⟩ := by
  simp [ruleHold, hends, hflow, heha, endHold]

/-! ## FALLBACK and its defrosts (R82 to R84) -/

/-- The record as a defrost or FALLBACK leaves it for WATCH. -/
def leaveFallback (r : FrostRecord) : FrostRecord := { r with window := [], fallbackCycle := none }

theorem rule_defrost_fallback (hstate : r.state = .defrost) (horigin : r.origin = some .fallback) :
    i.rule r = i.ruleDefrostFallback r := by simp [rule, hstate, horigin]

theorem ruleDefrostFallback_stays (helapsed : r.defrostElapsed = some elapsed) (h : elapsed < 600) :
    i.ruleDefrostFallback r = quietly r := by simp [ruleDefrostFallback, helapsed, h]

theorem ruleDefrostFallback_warm (helapsed : r.defrostElapsed = some elapsed) (h : 600 ≤ elapsed)
    (hwarm : i.warm = true) : i.ruleDefrostFallback r = quietly (enterInactive (endDefrost r)) := by
  simp [ruleDefrostFallback, helapsed, Nat.not_lt.2 h, hwarm]

theorem ruleDefrostFallback_reads (helapsed : r.defrostElapsed = some elapsed) (h : 600 ≤ elapsed)
    (hwarm : i.warm = false) (heha : i.eha.state ≠ .failed) :
    i.ruleDefrostFallback r = quietly (i.enterWatch (leaveFallback (endDefrost r))) := by
  simp [ruleDefrostFallback, helapsed, Nat.not_lt.2 h, hwarm, heha, Channel.isFailed, leaveFallback]

theorem ruleDefrostFallback_failed (helapsed : r.defrostElapsed = some elapsed) (h : 600 ≤ elapsed)
    (hwarm : i.warm = false) (heha : i.eha.state = .failed) :
    i.ruleDefrostFallback r = quietly (i.enterFallback (endDefrost r)) := by
  simp [ruleDefrostFallback, helapsed, Nat.not_lt.2 h, hwarm, heha, Channel.isFailed]

theorem rule_fallback (hstate : r.state = .fallback) : i.rule r = i.ruleFallback r := by simp [rule, hstate]

theorem ruleFallback_warm (hwarm : i.warm = true) : i.ruleFallback r = quietly (enterInactive r) := if_pos hwarm

theorem ruleFallback_reads (hwarm : i.warm = false) (heha : i.eha.state ≠ .failed) :
    i.ruleFallback r = quietly (i.enterWatch (leaveFallback r)) := by
  simp [ruleFallback, hwarm, heha, Channel.isFailed, leaveFallback]

/-- FALLBACK's record with its count of the cycle. -/
def cycling (i : FrostInputs) (r : FrostRecord) (cycle : Option Nat) : FrostRecord :=
  { i.fallbackValues r with fallbackCycle := cycle }

theorem coldRegime_iff : i.coldRegime = true ↔ i.oda.state = .failed ∨ i.oda.filtered < -100 := by simp [coldRegime]

theorem ruleFallback_mild (hwarm : i.warm = false) (heha : i.eha.state = .failed) (hregime : i.coldRegime = false) :
    i.ruleFallback r = quietly (i.cycling r none) := by
  simp [ruleFallback, hwarm, heha, hregime, Channel.isFailed, cycling]

theorem ruleFallback_begins (hwarm : i.warm = false) (heha : i.eha.state = .failed) (hregime : i.coldRegime = true)
    (hcycle : r.fallbackCycle = none) : i.ruleFallback r = quietly (i.cycling r (some 0)) := by
  have hf : (i.fallbackValues r).fallbackCycle = none := hcycle
  simp [ruleFallback, hwarm, heha, hregime, hf, Channel.isFailed, cycling]

theorem ruleFallback_cycles (hwarm : i.warm = false) (heha : i.eha.state = .failed) (hregime : i.coldRegime = true)
    {n : Nat} (hcycle : r.fallbackCycle = some n) (hn : n < 3600) : i.ruleFallback r = quietly (i.cycling r (some n)) := by
  have hf : (i.fallbackValues r).fallbackCycle = some n := hcycle
  have hsame : i.cycling r (some n) = i.fallbackValues r := by rw [cycling, ← hf]
  simp [ruleFallback, hwarm, heha, hregime, hf, Nat.not_le.2 hn, Channel.isFailed, hsame]

theorem ruleFallback_defrosts (hwarm : i.warm = false) (heha : i.eha.state = .failed) (hregime : i.coldRegime = true)
    {n : Nat} (hcycle : r.fallbackCycle = some n) (hn : 3600 ≤ n) :
    i.ruleFallback r = ⟨enterDefrost .fallback (i.cycling r (some 0)), [.defrostStarted]⟩ := by
  have hf : (i.fallbackValues r).fallbackCycle = some n := hcycle
  simp [ruleFallback, hwarm, heha, hregime, hf, hn, Channel.isFailed, cycling]

end

end FrostInputs

section
variable {s : State} {elapsed : Nat}

/-! ## At the state -/

theorem State.unmarked_defrostElapsed (h : s.fg.defrostElapsed = some elapsed) :
    s.unmarked.defrostElapsed = some (elapsed + 10) := by simp [State.unmarked, h]

theorem State.unmarked_holdElapsed (h : s.fg.holdElapsed = some elapsed) :
    s.unmarked.holdElapsed = some (elapsed + 10) := by simp [State.unmarked, h]

/-- One flag other than the start of a defrost is raised alone. -/
theorem Guarded.events_single {f : Flag} (hf : f ≠ .defrostStarted) (r : FrostRecord) (e : EventUnit)
    (snapshot : Bool) : Guarded.events ⟨r, [f]⟩ e snapshot = e.raise f := Guarded.events_cons hf r [] e snapshot

/-- A normal defrost's evaluation is its rule. -/
theorem State.evaluateFrost_defrost_normal (hflow : s.ae.extract.state = .running) (hstate : s.fg.state = .defrost)
    (horigin : s.fg.origin = some .normal) {g : Guarded} (h : s.frostInputs.ruleDefrostNormal s.unmarked = g) :
    s.evaluateFrost.fg = { g.record with wantedOpen := s.wantedOpen g.record.state } ∧
    s.evaluateFrost.eu = g.events s.eu s.settings.counterSnapshot :=
  State.evaluateFrost_of (((State.evaluate_eq_rule_unmarked (.inl hflow) (by rw [hstate]; rfl)).trans
    (FrostInputs.rule_defrost_normal hstate horigin)).trans h)

theorem State.evaluateFrost_hold (hstate : s.fg.state = .frostHold) {g : Guarded}
    (h : s.frostInputs.ruleHold s.unmarked = g) :
    s.evaluateFrost.fg = { g.record with wantedOpen := s.wantedOpen g.record.state } ∧
    s.evaluateFrost.eu = g.events s.eu s.settings.counterSnapshot :=
  State.evaluateFrost_of (((State.evaluate_eq_rule_unmarked (.inr hstate) (by rw [hstate]; rfl)).trans
    (FrostInputs.rule_hold hstate)).trans h)

theorem State.evaluateFrost_defrost_fallback (hflow : s.ae.extract.state = .running) (hstate : s.fg.state = .defrost)
    (horigin : s.fg.origin = some .fallback) {g : Guarded} (h : s.frostInputs.ruleDefrostFallback s.unmarked = g) :
    s.evaluateFrost.fg = { g.record with wantedOpen := s.wantedOpen g.record.state } ∧
    s.evaluateFrost.eu = g.events s.eu s.settings.counterSnapshot :=
  State.evaluateFrost_of (((State.evaluate_eq_rule_unmarked (.inl hflow) (by rw [hstate]; rfl)).trans
    (FrostInputs.rule_defrost_fallback hstate horigin)).trans h)

theorem State.evaluateFrost_fallback (hflow : s.ae.extract.state = .running) (hstate : s.fg.state = .fallback)
    {g : Guarded} (h : s.frostInputs.ruleFallback s.unmarked = g) :
    s.evaluateFrost.fg = { g.record with wantedOpen := s.wantedOpen g.record.state } ∧
    s.evaluateFrost.eu = g.events s.eu s.settings.counterSnapshot :=
  State.evaluateFrost_of (((State.evaluate_eq_rule_unmarked (.inl hflow) (by rw [hstate]; rfl)).trans
    (FrostInputs.rule_fallback hstate)).trans h)

/-- The end of a hold (R79) as the inputs of the state give it. -/
def State.HoldEnds (s : State) (elapsed : Nat) : Prop :=
  14400 ≤ elapsed + 10 ∨
    (3600 ≤ elapsed + 10 ∧ (s.channel chOda).state ≠ .failed ∧
      ∃ entry, s.fg.holdEntryOda = some entry ∧ entry + 20 ≤ (s.channel chOda).filtered)

theorem State.holdEnds_iff (h : s.fg.holdElapsed = some elapsed) :
    s.frostInputs.holdEnds s.unmarked = true ↔ s.HoldEnds elapsed :=
  FrostInputs.holdEnds_iff (State.unmarked_holdElapsed h)

theorem State.not_holdEnds (hshort : elapsed + 10 < 14400)
    (h : elapsed + 10 < 3600 ∨ (s.channel chOda).state = .failed ∨
      ∀ entry, s.fg.holdEntryOda = some entry → (s.channel chOda).filtered < entry + 20) : ¬s.HoldEnds elapsed := by
  rintro (hlong | ⟨hhour, hok, entry, hentry, hrisen⟩)
  · omega
  · rcases h with h | h | h
    · omega
    · exact hok h
    · exact absurd (h entry hentry) (by omega)

/-- A hold that does not end goes on as it is. -/
theorem State.evaluateFrost_holds (hstate : s.fg.state = .frostHold) (helapsed : s.fg.holdElapsed = some elapsed)
    (hends : ¬s.HoldEnds elapsed) :
    s.evaluateFrost.fg.state = .frostHold ∧ s.evaluateFrost.fg.holdElapsed = some (elapsed + 10) ∧
    s.evaluateFrost.fg.holdEntryOda = s.fg.holdEntryOda ∧ s.evaluateFrost.fg.fraction = s.fg.fraction ∧
    s.evaluateFrost.fg.proportion = s.fg.proportion ∧ s.evaluateFrost.fg.paused = false ∧
    s.evaluateFrost.eu = s.eu := by
  obtain ⟨hfg, heu⟩ := State.evaluateFrost_hold hstate
    (FrostInputs.ruleHold_stays (mt (State.holdEnds_iff helapsed).1 hends))
  simp [hfg, heu, State.unmarked, hstate, helapsed]

/-- FALLBACK, or a defrost of its own past its 600 s, is left for INACTIVE with a warm T_ODA (R83, R84). -/
theorem State.evaluateFrost_fallback_warm (hflow : s.ae.extract.state = .running)
    (h : s.fg.state = .fallback ∨ (s.fg.state = .defrost ∧ s.fg.origin = some .fallback ∧
      ∃ elapsed, s.fg.defrostElapsed = some elapsed ∧ 600 ≤ elapsed + 10))
    (hwarm : s.frostInputs.warm = true) :
    ∃ r : FrostRecord, r.coreRef = s.fg.coreRef ∧
      s.evaluateFrost.fg = { enterInactive r with wantedOpen := s.wantedOpen .inactive } ∧ s.evaluateFrost.eu = s.eu := by
  rcases h with hstate | ⟨hstate, horigin, elapsed, helapsed, hlong⟩
  · exact ⟨s.unmarked, rfl, State.evaluateFrost_fallback hflow hstate (FrostInputs.ruleFallback_warm hwarm)⟩
  · exact ⟨endDefrost s.unmarked, rfl, State.evaluateFrost_defrost_fallback hflow hstate horigin
      (FrostInputs.ruleDefrostFallback_warm (State.unmarked_defrostElapsed helapsed) hlong hwarm)⟩

/-- It is left for WATCH, with the core reference recorded, when T_EHA reads again. -/
theorem State.evaluateFrost_fallback_reads (hflow : s.ae.extract.state = .running)
    (h : s.fg.state = .fallback ∨ (s.fg.state = .defrost ∧ s.fg.origin = some .fallback ∧
      ∃ elapsed, s.fg.defrostElapsed = some elapsed ∧ 600 ≤ elapsed + 10))
    (hwarm : s.frostInputs.warm = false) (heha : (s.channel chEha).state ≠ .failed) :
    ∃ r : FrostRecord, r.coreRef = s.fg.coreRef ∧
      s.evaluateFrost.fg =
        { s.frostInputs.enterWatch (FrostInputs.leaveFallback r) with wantedOpen := s.wantedOpen .watch } ∧
      s.evaluateFrost.eu = s.eu := by
  rcases h with hstate | ⟨hstate, horigin, elapsed, helapsed, hlong⟩
  · exact ⟨s.unmarked, rfl, State.evaluateFrost_fallback hflow hstate (FrostInputs.ruleFallback_reads hwarm heha)⟩
  · exact ⟨endDefrost s.unmarked, rfl, State.evaluateFrost_defrost_fallback hflow hstate horigin
      (FrostInputs.ruleDefrostFallback_reads (State.unmarked_defrostElapsed helapsed) hlong hwarm heha)⟩

/-- No end of a defrost of FALLBACK's own raises a flag. -/
theorem FrostInputs.ruleDefrostFallback_quietly (i : FrostInputs) (r : FrostRecord) :
    ∃ r', i.ruleDefrostFallback r = quietly r' := by
  unfold FrostInputs.ruleDefrostFallback
  split_ifs <;> exact ⟨_, rfl⟩

end

/-- R82's values by the filtered T_ODA. -/
theorem State.fallbackValues_eq (s : State) (r : FrostRecord) {table : Nat}
    (htable : table = (if (s.channel chOda).state = .failed then s.settings.minFraction
      else if 0 ≤ (s.channel chOda).filtered then 1000 else if -50 ≤ (s.channel chOda).filtered then 800
      else if -100 ≤ (s.channel chOda).filtered then 600 else s.settings.minFraction)) :
    (s.frostInputs.fallbackValues r).fraction = max table s.settings.minFraction ∧
    (s.frostInputs.fallbackValues r).proportion = if s.preheaterFitted = true ∧ table < 1000 then 1000 else 0 := by
  have ht : s.frostInputs.tableFraction = table := by
    rw [htable]
    unfold FrostInputs.tableFraction
    by_cases hfailed : (s.channel chOda).state = .failed
    · rw [if_pos hfailed, if_pos (by simpa using hfailed)]
      rfl
    · rw [if_neg hfailed, if_neg (by simpa using hfailed)]
      rfl
  simp [FrostInputs.fallbackValues, ht]

/-- The normal defrost's three ends and its going on, at the state (R77, R78, R81). -/
theorem State.evaluateFrost_defrost_ends {s : State} {elapsed : Nat} (hflow : s.ae.extract.state = .running)
    (hstate : s.fg.state = .defrost) (horigin : s.fg.origin = some .normal)
    (helapsed : s.fg.defrostElapsed = some elapsed) :
    (3 * s.settings.defrostTime ≤ elapsed + 10 →
      s.evaluateFrost.fg.state = .recover ∧ s.evaluateFrost.fg.fraction = s.settings.minFraction ∧
      s.evaluateFrost.fg.proportion = 0 ∧ s.evaluateFrost.fg.window = [] ∧ s.evaluateFrost.fg.origin = none ∧
      s.evaluateFrost.fg.defrostElapsed = none ∧ s.evaluateFrost.eu = s.eu.raise .defrostUnresolved) ∧
    (elapsed + 10 < 3 * s.settings.defrostTime → s.settings.defrostTime ≤ elapsed + 10 →
      ((s.channel chEha).state = .failed →
        s.evaluateFrost.fg.state = .fallback ∧ s.evaluateFrost.fg.origin = none ∧
        s.evaluateFrost.fg.defrostElapsed = none ∧ s.evaluateFrost.fg.window = [] ∧
        s.evaluateFrost.eu = s.eu.raise .guardFallback) ∧
      ((s.channel chEha).state ≠ .failed →
        s.evaluateFrost.fg.limit + s.settings.exitMargin ≤ (s.channel chEha).filtered →
        s.evaluateFrost.fg.state = .recover ∧ s.evaluateFrost.fg.fraction = s.settings.minFraction ∧
        s.evaluateFrost.fg.proportion = 0 ∧ s.evaluateFrost.fg.window = [] ∧ s.evaluateFrost.fg.origin = none ∧
        s.evaluateFrost.fg.defrostElapsed = none ∧ s.evaluateFrost.eu = s.eu)) ∧
    (elapsed + 10 < 3 * s.settings.defrostTime →
      (elapsed + 10 < s.settings.defrostTime ∨ ((s.channel chEha).state ≠ .failed ∧
        (s.channel chEha).filtered < s.evaluateFrost.fg.limit + s.settings.exitMargin)) →
      s.evaluateFrost.fg.state = .defrost ∧ s.evaluateFrost.fg.fraction = s.fg.fraction ∧
      s.evaluateFrost.fg.defrostElapsed = some (elapsed + 10) ∧ s.evaluateFrost.eu = s.eu) := by
  have hE := State.unmarked_defrostElapsed helapsed
  rw [s.evaluateFrost_limit]
  refine ⟨fun hlong => ?_, fun hresolves htime => ⟨fun heha => ?_, fun heha hwarm => ?_⟩, fun hresolves hon => ?_⟩
  · obtain ⟨hfg, heu⟩ := State.evaluateFrost_defrost_normal hflow hstate horigin
      (FrostInputs.ruleDefrostNormal_unresolved hE hlong)
    rw [Guarded.events_single (by decide)] at heu
    rw [hfg, heu]
    exact ⟨rfl, rfl, rfl, rfl, rfl, rfl, rfl⟩
  · obtain ⟨hfg, heu⟩ := State.evaluateFrost_defrost_normal hflow hstate horigin
      (FrostInputs.ruleDefrostNormal_failed hE hresolves htime heha)
    rw [Guarded.events_single (by decide)] at heu
    rw [hfg, heu]
    exact ⟨rfl, rfl, rfl, rfl, rfl⟩
  · obtain ⟨hfg, heu⟩ := State.evaluateFrost_defrost_normal hflow hstate horigin
      (FrostInputs.ruleDefrostNormal_resolved hE hresolves htime heha hwarm)
    rw [hfg, heu]
    exact ⟨rfl, rfl, rfl, rfl, rfl, rfl, rfl⟩
  · obtain ⟨hfg, heu⟩ := State.evaluateFrost_defrost_normal hflow hstate horigin
      (FrostInputs.ruleDefrostNormal_stays hE hresolves hon)
    simp [hfg, heu, hE]
    exact ⟨hstate, rfl⟩

/-- The end of a frost hold with extract flow (R79, R81). -/
theorem State.evaluateFrost_hold_ends {s : State} {elapsed : Nat} (hflow : s.ae.extract.state = .running)
    (hstate : s.fg.state = .frostHold) (helapsed : s.fg.holdElapsed = some elapsed) (hends : s.HoldEnds elapsed) :
    s.evaluateFrost.fg.holdElapsed = none ∧ s.evaluateFrost.fg.holdEntryOda = none ∧
    ((s.channel chEha).state ≠ .failed →
      s.evaluateFrost.fg.state = .recover ∧ s.evaluateFrost.fg.fraction = s.settings.minFraction ∧
      s.evaluateFrost.eu = s.eu.raise .frostHoldLeft) ∧
    ((s.channel chEha).state = .failed →
      s.evaluateFrost.fg.state = .fallback ∧
      s.evaluateFrost.eu = (s.eu.raise .frostHoldLeft).raise .guardFallback) := by
  have hends := (State.holdEnds_iff helapsed).2 hends
  have hflow := State.frostInputs_extractRunning hflow
  by_cases heha : (s.channel chEha).state = .failed
  · obtain ⟨hfg, heu⟩ := State.evaluateFrost_hold hstate (FrostInputs.ruleHold_failed hends hflow heha)
    rw [Guarded.events_cons (by decide), Guarded.events_single (by decide)] at heu
    exact ⟨by rw [hfg]; rfl, by rw [hfg]; rfl, fun h => absurd heha h, fun _ => ⟨by rw [hfg]; rfl, heu⟩⟩
  · obtain ⟨hfg, heu⟩ := State.evaluateFrost_hold hstate (FrostInputs.ruleHold_recover hends hflow heha)
    rw [Guarded.events_single (by decide)] at heu
    exact ⟨by rw [hfg]; rfl, by rw [hfg]; rfl, fun _ => ⟨by rw [hfg]; rfl, by rw [hfg]; rfl, heu⟩,
      fun h => absurd h heha⟩

/-- The end of a frost hold without extract flow is a pause (R79, R80). -/
theorem State.evaluateFrost_hold_pauses {s : State} {elapsed : Nat} (hflow : s.ae.extract.state ≠ .running)
    (hstate : s.fg.state = .frostHold) (helapsed : s.fg.holdElapsed = some elapsed) (hends : s.HoldEnds elapsed) :
    s.evaluateFrost.fg.holdElapsed = none ∧ s.evaluateFrost.fg.holdEntryOda = none ∧
    s.evaluateFrost.fg.fraction = 1000 ∧ s.evaluateFrost.fg.proportion = 0 ∧ s.evaluateFrost.fg.window = [] ∧
    s.evaluateFrost.fg.paused = true ∧ s.evaluateFrost.eu = s.eu.raise .frostHoldLeft ∧
    s.evaluateFrost.fg.state = (if (s.channel chOda).state ≠ .failed ∧
      s.settings.frostEnable ≤ (s.channel chOda).filtered then .inactive else .watch) := by
  obtain ⟨hfg, heu⟩ := State.evaluateFrost_hold hstate
    (FrostInputs.ruleHold_still ((State.holdEnds_iff helapsed).2 hends) (State.frostInputs_not_extractRunning hflow))
  rw [Guarded.events_single (by decide)] at heu
  rw [hfg, heu]
  exact ⟨rfl, rfl, rfl, rfl, rfl, rfl, rfl, FrostInputs.pause_state s.frostInputs (FrostInputs.endHold s.unmarked)⟩

/-- FALLBACK is entered with GUARD_FALLBACK from a state that judges marks, or from INACTIVE in the cold (R81). -/
theorem State.evaluateFrost_enters_fallback {s : State} (hflow : s.ae.extract.state = .running)
    (heha : (s.channel chEha).state = .failed)
    (h : s.fg.state ∈ [.watch, .protect, .recover] ∨
      (s.fg.state = .inactive ∧
        ((s.channel chOda).state = .failed ∨ (s.channel chOda).filtered < s.settings.frostEnable))) :
    s.evaluateFrost.fg =
      { s.frostInputs.enterFallback s.unmarked with wantedOpen := s.wantedOpen .fallback } ∧
    s.evaluateFrost.eu = s.eu.raise .guardFallback := by
  have hevaluate : s.frostInputs.evaluate s.fg = ⟨s.frostInputs.enterFallback s.unmarked, [.guardFallback]⟩ := by
    rcases h with h | ⟨hstate, hcold⟩
    · exact State.evaluate_eq_enterFallback hflow (FrostState.judgesMarks_iff.2 h) heha
    · exact (State.evaluate_eq_rule_unmarked (.inl hflow) (by rw [hstate]; rfl)).trans
        (FrostInputs.rule_inactive_of_failed hstate heha hcold)
  obtain ⟨hfg, heu⟩ := State.evaluateFrost_of hevaluate
  rw [Guarded.events_single (by decide)] at heu
  exact ⟨hfg, heu⟩

/-- FALLBACK's own cycle (R83). -/
theorem State.evaluateFrost_cycles {s : State} (hflow : s.ae.extract.state = .running) (hstate : s.fg.state = .fallback)
    (hwarm : s.frostInputs.warm = false) (heha : (s.channel chEha).state = .failed)
    (hregime : s.frostInputs.coldRegime = true) :
    (s.fg.fallbackCycle = none →
      s.evaluateFrost.fg.state = .fallback ∧ s.evaluateFrost.fg.fallbackCycle = some 0 ∧
      s.evaluateFrost.eu = s.eu) ∧
    (∀ n, s.fg.fallbackCycle = some n → n + 10 < 3600 →
      s.evaluateFrost.fg.state = .fallback ∧ s.evaluateFrost.fg.fallbackCycle = some (n + 10) ∧
      s.evaluateFrost.eu = s.eu) ∧
    (∀ n, s.fg.fallbackCycle = some n → 3600 ≤ n + 10 →
      s.evaluateFrost.fg.state = .defrost ∧ s.evaluateFrost.fg.origin = some .fallback ∧
      s.evaluateFrost.fg.fraction = 0 ∧ s.evaluateFrost.fg.proportion = 0 ∧ s.evaluateFrost.fg.window = [] ∧
      s.evaluateFrost.fg.defrostElapsed = some 0 ∧ s.evaluateFrost.fg.fallbackCycle = some 0 ∧
      s.evaluateFrost.fg.history = pushWindow 4 0 s.unmarked.history ∧
      s.evaluateFrost.eu = (s.eu.raise .defrostStarted).count s.settings.counterSnapshot .defrosts) := by
  refine ⟨fun hcycle => ?_, fun n hcycle hn => ?_, fun n hcycle hn => ?_⟩
  · obtain ⟨hfg, heu⟩ := State.evaluateFrost_fallback hflow hstate
      (FrostInputs.ruleFallback_begins hwarm heha hregime (by simp [State.unmarked, hcycle]))
    exact ⟨by rw [hfg]; exact hstate, by rw [hfg]; rfl, heu⟩
  · obtain ⟨hfg, heu⟩ := State.evaluateFrost_fallback hflow hstate
      (FrostInputs.ruleFallback_cycles hwarm heha hregime (n := n + 10) (by simp [State.unmarked, hcycle]) hn)
    exact ⟨by rw [hfg]; exact hstate, by rw [hfg]; rfl, heu⟩
  · obtain ⟨hfg, heu⟩ := State.evaluateFrost_fallback hflow hstate
      (FrostInputs.ruleFallback_defrosts hwarm heha hregime (n := n + 10) (by simp [State.unmarked, hcycle]) hn)
    rw [Guarded.events_defrostStarted] at heu
    rw [hfg, heu]
    exact ⟨rfl, rfl, rfl, rfl, rfl, rfl, rfl, rfl, rfl⟩

/-- A defrost of FALLBACK's own goes on for 600 s, quietly, and with T_EHA still FAILED in the cold leads back (R83). -/
theorem State.evaluateFrost_fallback_defrost {s : State} {elapsed : Nat} (hflow : s.ae.extract.state = .running)
    (hstate : s.fg.state = .defrost) (horigin : s.fg.origin = some .fallback)
    (helapsed : s.fg.defrostElapsed = some elapsed) :
    s.evaluateFrost.eu = s.eu ∧
    (elapsed + 10 < 600 →
      s.evaluateFrost.fg.state = .defrost ∧ s.evaluateFrost.fg.origin = some .fallback ∧
      s.evaluateFrost.fg.defrostElapsed = some (elapsed + 10) ∧
      s.evaluateFrost.fg.fraction = s.fg.fraction ∧ s.evaluateFrost.fg.proportion = s.fg.proportion ∧
      s.evaluateFrost.fg.fallbackCycle = s.fg.fallbackCycle.map fun n => n + 10) ∧
    (600 ≤ elapsed + 10 → s.evaluateFrost.fg.origin = none ∧ s.evaluateFrost.fg.defrostElapsed = none ∧
      ((s.channel chEha).state = .failed → s.frostInputs.warm = false →
        s.evaluateFrost.fg.state = .fallback ∧ s.evaluateFrost.fg.window = [] ∧
        s.evaluateFrost.fg.fallbackCycle = s.fg.fallbackCycle.map fun n => n + 10)) := by
  have hE := State.unmarked_defrostElapsed helapsed
  refine ⟨?_, fun hshort => ?_, fun hlong => ?_⟩
  · obtain ⟨r, hr⟩ := s.frostInputs.ruleDefrostFallback_quietly s.unmarked
    exact (State.evaluateFrost_defrost_fallback hflow hstate horigin hr).2
  · obtain ⟨hfg, -⟩ := State.evaluateFrost_defrost_fallback hflow hstate horigin
      (FrostInputs.ruleDefrostFallback_stays hE hshort)
    rw [hfg]
    exact ⟨hstate, horigin, hE, rfl, rfl, rfl⟩
  · cases hwarm : s.frostInputs.warm with
    | true =>
      obtain ⟨hfg, -⟩ := State.evaluateFrost_defrost_fallback hflow hstate horigin
        (FrostInputs.ruleDefrostFallback_warm hE hlong hwarm)
      rw [hfg]
      exact ⟨rfl, rfl, fun _ h => nomatch h⟩
    | false =>
      by_cases heha : (s.channel chEha).state = .failed
      · obtain ⟨hfg, -⟩ := State.evaluateFrost_defrost_fallback hflow hstate horigin
          (FrostInputs.ruleDefrostFallback_failed hE hlong hwarm heha)
        rw [hfg]
        exact ⟨rfl, rfl, fun _ _ => ⟨rfl, rfl, rfl⟩⟩
      · obtain ⟨hfg, -⟩ := State.evaluateFrost_defrost_fallback hflow hstate horigin
          (FrostInputs.ruleDefrostFallback_reads hE hlong hwarm heha)
        rw [hfg]
        exact ⟨rfl, rfl, fun h => absurd h heha⟩

/-- Settles O32: the ends of the normal defrost and of the hold, then FALLBACK by its entries, its cycle and its ways
out. -/
theorem defrostsAndHoldsEnd : Obligations.DefrostsAndHoldsEnd := by
  refine ⟨fun s elapsed hacts hflow => ?_, fun s elapsed hacts hflow hstate helapsed => ?_, ?_⟩
  · refine ⟨s.evaluateFrost, exec_frostEvaluation_of_acts hacts, State.evaluateFrost_defrost_ends hflow,
      fun hstate helapsed => ⟨State.evaluateFrost_hold_ends hflow hstate helapsed, fun hshort hon => ?_⟩⟩
    obtain ⟨h1, h2, h3, h4, h5, -, h6⟩ :=
      State.evaluateFrost_holds hstate helapsed (State.not_holdEnds hshort hon)
    exact ⟨h1, h2, h3, h4, h5, h6⟩
  · refine ⟨s.evaluateFrost, exec_frostEvaluation_of_acts hacts,
      State.evaluateFrost_hold_pauses hflow hstate helapsed, fun hshort hon => ?_⟩
    obtain ⟨h1, h2, -, -, -, h3, h4⟩ :=
      State.evaluateFrost_holds hstate helapsed (State.not_holdEnds hshort hon)
    exact ⟨h1, h2, h3, h4⟩
  · intro s oda table fraction proportion history reference started hacts hflow hoda htable hfraction hproportion
      hhistory hreference hstarted
    subst hoda hfraction hproportion hstarted
    have hwarm_false (h : (s.channel chOda).state = .failed ∨
        (s.channel chOda).filtered < s.settings.frostEnable + 10) : s.frostInputs.warm = false :=
      FrostInputs.not_warm h
    have hagedHistory : s.unmarked.history = history := by rw [hhistory]; rfl
    refine ⟨s.evaluateFrost, exec_frostEvaluation_of_acts hacts, fun hfallback => ?_, fun heha hfrom => ?_,
      fun hfrom => ⟨fun hok hwarm => ?_, fun hcold heha => ?_⟩,
      fun hstate hcold heha => ⟨fun hok hmild => ?_, fun hregime => ?_⟩,
      fun elapsed hstate horigin helapsed => ?_⟩
    · obtain ⟨hf, hp⟩ := State.evaluateFrost_fits hflow hfallback
      obtain ⟨hf', hp'⟩ := s.fallbackValues_eq s.evaluateFrost.fg htable
      exact ⟨hf.trans hf', hp.trans hp'⟩
    · obtain ⟨hfg, heu⟩ := State.evaluateFrost_enters_fallback hflow heha hfrom
      rw [hfg, heu]
      exact ⟨rfl, rfl, rfl, hagedHistory, rfl, rfl⟩
    · obtain ⟨r, hr, hfg, heu⟩ :=
        State.evaluateFrost_fallback_warm hflow hfrom (FrostInputs.warm_iff.2 ⟨hok, hwarm⟩)
      rw [hfg, heu]
      exact ⟨rfl, rfl, rfl, rfl, rfl, hr, rfl⟩
    · obtain ⟨r, hr, hfg, heu⟩ := State.evaluateFrost_fallback_reads hflow hfrom (hwarm_false hcold) heha
      have href := FrostInputs.reference_of_running (r := FrostInputs.leaveFallback r)
        (State.frostInputs_extractRunning hflow)
      have hkept : (FrostInputs.leaveFallback r).coreRef = s.fg.coreRef := hr
      rw [hkept] at href
      rw [hfg, heu, hreference]
      exact ⟨rfl, rfl, rfl, rfl, rfl, href, rfl⟩
    · have hregime : s.frostInputs.coldRegime = false := by
        rw [Bool.eq_false_iff, Ne, FrostInputs.coldRegime_iff]
        exact not_or.2 ⟨hok, Int.not_lt.2 hmild⟩
      obtain ⟨hfg, heu⟩ := State.evaluateFrost_fallback hflow hstate
        (FrostInputs.ruleFallback_mild (hwarm_false hcold) heha hregime)
      exact ⟨by rw [hfg]; exact hstate, by rw [hfg]; rfl, heu⟩
    · rw [← hagedHistory]
      exact State.evaluateFrost_cycles hflow hstate (hwarm_false hcold) heha (FrostInputs.coldRegime_iff.2 hregime)
    · obtain ⟨heu, hshort, hlong⟩ := State.evaluateFrost_fallback_defrost hflow hstate horigin helapsed
      refine ⟨heu, hshort, fun h => ?_⟩
      obtain ⟨h1, h2, h3⟩ := hlong h
      exact ⟨h1, h2, fun heha hcold => h3 heha (hwarm_false hcold)⟩

end Sys2Proof.Machine

namespace Sys2Proof.Machine

/-! # The pre-heater's windows and the damper's travels (R87 to R96) -/

/-! ## The pre-heater -/

section
variable {s : State}

theorem exec_preheatWindowStart_of_running (h : s.phase ≠ .held) (hrun : s.ae.supply.state = .running)
    (hfitted : s.preheaterFitted = true) :
    exec .preheatWindowStart s = .next (s.setPreheat (Preheat.startWindow s.fg.proportion)) :=
  congrArg Host.Outcome.next ((State.unlessHeld_of_ne h _).trans (if_pos (by simp [hrun, hfitted])))

theorem exec_preheatWindowStart_of_not (h : s.phase ≠ .held)
    (hnot : s.ae.supply.state ≠ .running ∨ s.preheaterFitted = false) : exec .preheatWindowStart s = .next s := by
  refine congrArg Host.Outcome.next ((State.unlessHeld_of_ne h _).trans (if_neg ?_))
  rcases hnot with hnot | hnot <;> simp [hnot]

theorem exec_preheatOnTimeEnd_of_window (h : s.phase ≠ .held) (hwindow : s.preheat.windowRunning = true)
    (htime : s.preheat.onTime < 60) :
    exec .preheatOnTimeEnd s = .next (s.setPreheat { s.preheat with output := false }) :=
  congrArg Host.Outcome.next ((State.unlessHeld_of_ne h _).trans (if_pos (by simp [hwindow, htime])))

theorem exec_preheatOnTimeEnd_of_not (h : s.phase ≠ .held)
    (hnot : s.preheat.windowRunning = false ∨ 60 ≤ s.preheat.onTime) : exec .preheatOnTimeEnd s = .next s := by
  refine congrArg Host.Outcome.next ((State.unlessHeld_of_ne h _).trans (if_neg ?_))
  rcases hnot with hnot | hnot
  · simp [hnot]
  · simp [Nat.not_lt.2 hnot]

end

/-- Settles O33: the two timers by their cases, and the control step's following of the supply fan. -/
theorem preheaterRunsInWindows : Obligations.PreheaterRunsInWindows := by
  intro s window hheld hwindow
  have hstart : window = Preheat.startWindow s.fg.proportion := hwindow
  rw [hstart]
  refine ⟨exec_preheatWindowStart_of_running hheld, exec_preheatWindowStart_of_not hheld,
    exec_preheatOnTimeEnd_of_window hheld, exec_preheatOnTimeEnd_of_not hheld, s.controlStep, exec_controlStep hheld, ?_⟩
  rw [s.controlStep_preheat_eq]
  refine ⟨fun hoff => if_pos hoff, fun hon hwas hfitted => ?_, fun hon hwas => ?_⟩
  · rw [if_neg (not_not.2 hon), if_pos (by simp [hwas, hfitted])]
  · rw [if_neg (not_not.2 hon), if_neg (by simp [hwas])]

/-! ## The damper's timer (R92, R94) -/

section
variable {s : State} {d : Damper} {travel elapsed allowance moved : Nat}

/-- A travel's estimate advances toward its end. -/
theorem Damper.tick_eq (helapsed : d.elapsed = some elapsed) (hallowance : d.allowance = some allowance)
    (hmoved : d.state = .opening ∧ moved = min (d.position + 1) travel ∨
      d.state = .closing ∧ moved = min (d.position - 1) travel) :
    d.tick travel =
      if allowance + 30 ≤ elapsed + 1 then { d with elapsed := some (elapsed + 1), position := moved }.fail
      else { d with elapsed := some (elapsed + 1), position := moved } := by
  rcases hmoved with ⟨hstate, rfl⟩ | ⟨hstate, rfl⟩ <;> simp [Damper.tick, helapsed, hallowance, hstate]

theorem exec_damperTimerExpiry_of_travel (h : s.phase ≠ .held) (htravel : s.damper.travelling = true) :
    exec .damperTimerExpiry s =
      .next (if (s.damper.tick s.settings.bypassTravel).state = .fault then
        (s.setDamper (s.damper.tick s.settings.bypassTravel)).raise .bypassFault
        else s.setDamper (s.damper.tick s.settings.bypassTravel)) :=
  congrArg Host.Outcome.next ((State.unlessHeld_of_ne h _).trans (if_pos htravel))

theorem exec_damperTimerExpiry_of_rest (h : s.damper.travelling = false) : exec .damperTimerExpiry s = .next s := by
  refine congrArg Host.Outcome.next ?_
  by_cases hheld : s.phase = .held
  · exact State.unlessHeld_held hheld _
  · exact (State.unlessHeld_of_ne hheld _).trans (if_neg (by simp [h]))

/-! ## The end switches (R92, R94) -/

theorem exec_endSwitchMade (sw : DamperEnd) (made : Bool) (s : State) :
    exec (.endSwitchMade sw made) s =
      .next (s.setDamper (s.damper.switched sw made s.settings.bypassTravel s.damperFitted)) := rfl

theorem Damper.switched_opened (made : Bool) (fitted : Bool)
    (h : fitted = false ∨ d.state ≠ .opening ∨ made = false) :
    d.switched .opened made travel fitted = { d with openMade := made } := by
  unfold Damper.switched
  rcases h with rfl | h | rfl
  · simp
  · cases hstate : d.state <;> simp_all
  · simp

theorem Damper.switched_closed (made : Bool) (fitted : Bool)
    (h : fitted = false ∨ (d.state ≠ .closing ∧ d.state ≠ .fault) ∨ made = false) :
    d.switched .closed made travel fitted = { d with closedMade := made } := by
  unfold Damper.switched
  rcases h with rfl | h | rfl
  · simp
  · cases hstate : d.state <;> simp_all
  · simp

/-! ## The wanted-open indication and the travels it begins (R91 to R93, R96) -/

theorem Damper.follow_true (d : Damper) (travel : Nat) :
    d.follow true travel = if d.state = .closed ∨ d.state = .closing then d.begin .opened travel else d := by
  unfold Damper.follow
  cases d.state <;> simp

theorem Damper.follow_false (d : Damper) (travel : Nat) :
    d.follow false travel = if d.state = .opened ∨ d.state = .opening then d.begin .closed travel else d := by
  unfold Damper.follow
  cases d.state <;> simp

theorem Damper.takeover_eq_follow (d : Damper) (travel : Nat) : d.takeover travel = d.follow false travel := by
  unfold Damper.takeover Damper.follow
  cases d.state <;> rfl

/-- A travel home, once begun, is not begun again. -/
theorem Damper.follow_false_twice (d : Damper) (travel : Nat) :
    (d.follow false travel).follow false travel = d.follow false travel := by
  obtain ⟨hopened, hopening⟩ := d.follow_false_state travel
  rw [Damper.follow_false (d.follow false travel), if_neg (not_or.2 ⟨hopened, hopening⟩)]

/-- The takeover is the travel home that the indication, which is no outside INACTIVE, begins as well. -/
theorem State.damperAfter_eq (hfitted : s.damperFitted = true) (frost : FrostState) :
    s.damperAfter frost = s.damper.follow (s.wantedOpen frost) s.settings.bypassTravel := by
  unfold State.damperAfter
  simp only [hfitted, if_true]
  split
  next hleaves => rw [State.wantedOpen_of_ne hleaves.2, Damper.takeover_eq_follow, Damper.follow_false_twice]
  next => rfl

theorem State.damperAfter_unfitted (hfitted : s.damperFitted = false) (frost : FrostState) :
    s.damperAfter frost = s.damper := by simp [State.damperAfter, hfitted]

theorem State.wantedOpen_unfitted (hfitted : s.damperFitted = false) (frost : FrostState) :
    s.wantedOpen frost = false := by simp [State.wantedOpen, hfitted]

theorem BypassInputs.opens_iff (b : BypassInputs) :
    b.opens = true ↔ b.summer = true ∧ b.inactive = true ∧ b.etaFailed = false ∧ b.comfort < b.eta ∧
      b.odaFailed = false ∧ 120 < b.oda ∧ b.oda < b.eta - 20 := by simp [BypassInputs.opens, and_assoc]

theorem BypassInputs.closes_iff (b : BypassInputs) :
    b.closes = true ↔ b.summer = false ∨ b.inactive = false ∨ b.etaFailed = true ∨ b.odaFailed = true ∨
      b.eta ≤ b.comfort - 10 ∨ b.eta - 10 ≤ b.oda ∨ b.oda ≤ 110 := by simp [BypassInputs.closes, or_assoc]

/-- The conditions for yes and those for no exclude each other. -/
theorem BypassInputs.not_opens_of_closes {b : BypassInputs} (h : b.closes = true) : b.opens = false := by
  rw [Bool.eq_false_iff, Ne, b.opens_iff]
  rw [b.closes_iff] at h
  grind

theorem BypassInputs.wanted_cases (b : BypassInputs) (before : Bool) :
    (b.opens = true → b.wanted before = true) ∧ (b.closes = true → b.wanted before = false) ∧
    (b.opens = false → b.closes = false → b.wanted before = before) := by
  refine ⟨fun h => if_pos h, fun h => ?_, fun ho hc => ?_⟩
  · simp [BypassInputs.wanted, BypassInputs.not_opens_of_closes h, h]
  · simp [BypassInputs.wanted, ho, hc]

theorem State.evaluateFrost_wantedOpen (s : State) :
    s.evaluateFrost.fg.wantedOpen = s.wantedOpen s.evaluateFrost.fg.state := by rw [State.evaluateFrost_fg]

/-- The indication of an evaluation with a damper (R91). -/
theorem State.wantedOpen_cases (hfitted : s.damperFitted = true) (frost : FrostState) {opens closes : Bool}
    (hopens : opens = true ↔ s.season.mode = .summer ∧ frost = .inactive ∧ s.channelFailed chEta = false ∧
      (s.settings.comfort : Int) < s.filtered chEta ∧ s.channelFailed chOda = false ∧ 120 < s.filtered chOda ∧
      s.filtered chOda < s.filtered chEta - 20)
    (hcloses : closes = true ↔ s.season.mode = .winter ∨ frost ≠ .inactive ∨ s.channelFailed chEta = true ∨
      s.channelFailed chOda = true ∨ s.filtered chEta ≤ (s.settings.comfort : Int) - 10 ∨
      s.filtered chEta - 10 ≤ s.filtered chOda ∨ s.filtered chOda ≤ 110) :
    (opens = true → s.wantedOpen frost = true) ∧ (closes = true → s.wantedOpen frost = false) ∧
    (opens = false → closes = false → s.wantedOpen frost = s.fg.wantedOpen) := by
  have hsummer : ¬s.season.mode = .summer ↔ s.season.mode = .winter := by
    cases s.season.mode <;> decide
  have ho : (s.bypassInputs frost).opens = opens := by
    rw [Bool.eq_iff_iff, hopens, BypassInputs.opens_iff]
    simp [State.bypassInputs]
  have hc : (s.bypassInputs frost).closes = closes := by
    rw [Bool.eq_iff_iff, hcloses, BypassInputs.closes_iff]
    simp [State.bypassInputs, hsummer]
  have hwanted : s.wantedOpen frost = (s.bypassInputs frost).wanted s.fg.wantedOpen := by
    simp [State.wantedOpen, hfitted]
  rw [hwanted, ← ho, ← hc]
  exact (s.bypassInputs frost).wanted_cases s.fg.wantedOpen

end

/-- Settles O34: the timer, the switches, and the evaluation, whose takeover is what the indication begins. -/
theorem damperTravelsAndFails : Obligations.DamperTravelsAndFails := by
  intro s d travel hd htravel
  subst hd htravel
  refine ⟨fun elapsed allowance moved hheld helapsed hallowance hmoved => ?_, fun hopening hclosing => ?_,
    fun hfitted => ⟨fun hstate => ?_, fun hstate => ?_, fun hstate => ?_⟩, fun made => ⟨fun h => ?_, fun h => ?_⟩,
    fun hacts hfitted => ?_, fun hacts hfitted eta oda heta hoda => ?_⟩
  · have htravels : s.damper.travelling = true := by
      rcases hmoved with ⟨h, -⟩ | ⟨h, -⟩ <;> simp [Damper.travelling, h]
    rw [exec_damperTimerExpiry_of_travel hheld htravels, Damper.tick_eq helapsed hallowance hmoved]
    refine ⟨fun hon => ?_, fun hover => ?_⟩
    · rw [if_neg (Nat.not_le.2 hon), if_neg]
      rcases hmoved with ⟨h, -⟩ | ⟨h, -⟩ <;> simp [h]
    · rw [if_pos hover]
      rfl
  · exact exec_damperTimerExpiry_of_rest (by simp [Damper.travelling, hopening, hclosing])
  · rw [exec_endSwitchMade]
    simp [Damper.switched, hfitted, hstate, Damper.complete]
  · rw [exec_endSwitchMade]
    simp [Damper.switched, hfitted, hstate, Damper.complete]
  · rw [exec_endSwitchMade]
    simp [Damper.switched, hfitted, hstate]
  · rw [exec_endSwitchMade, Damper.switched_opened made _ h]
  · rw [exec_endSwitchMade, Damper.switched_closed made _ h]
  · refine ⟨s.evaluateFrost, exec_frostEvaluation_of_acts hacts, ?_, ?_⟩
    · rw [s.evaluateFrost_damper, State.damperAfter_unfitted hfitted]
    · rw [s.evaluateFrost_wantedOpen, State.wantedOpen_unfitted hfitted]
  · subst heta hoda
    refine ⟨s.evaluateFrost, exec_frostEvaluation_of_acts hacts, ?_⟩
    rw [s.evaluateFrost_damper, s.evaluateFrost_wantedOpen, State.damperAfter_eq hfitted]
    refine ⟨fun opens closes hopens hcloses => State.wantedOpen_cases hfitted _ hopens hcloses, fun hwanted => ?_,
      fun hwanted => ?_, fun hne => ?_⟩
    · rw [hwanted, Damper.follow_true]
      refine ⟨fun hfrom => ?_, fun hclosed hclosing => if_neg (not_or.2 ⟨hclosed, hclosing⟩)⟩
      rw [if_pos hfrom]
      exact ⟨fun hmade => if_neg (by simp [Damper.switchMade, hmade]), fun hmade => if_pos hmade⟩
    · rw [hwanted, Damper.follow_false]
      refine ⟨fun hfrom => ?_, fun hopened hopening => if_neg (not_or.2 ⟨hopened, hopening⟩)⟩
      rw [if_pos hfrom]
      exact ⟨fun hmade => if_neg (by simp [Damper.switchMade, hmade]), fun hmade => if_pos hmade⟩
    · rw [State.wantedOpen_of_ne hne]
      exact ⟨rfl, s.damper.follow_false_state _⟩

end Sys2Proof.Machine

namespace Sys2Proof.Machine

/-! # The humid boost (R99 to R104) -/

/-! ## The rise window's minimum -/

theorem foldl_min_mem_and_le (a : Int) (l : List Int) :
    l.foldl min a ∈ a :: l ∧ ∀ x ∈ a :: l, l.foldl min a ≤ x := by
  induction l generalizing a with
  | nil => simp
  | cons b l ih =>
    obtain ⟨hmem, hle⟩ := ih (min a b)
    have hmin := hle (min a b) List.mem_cons_self
    refine ⟨?_, fun x hx => ?_⟩
    · rcases List.mem_cons.1 hmem with h | h
      · rw [List.foldl_cons, h]
        rcases min_choice a b with h | h <;> simp [h]
      · exact List.mem_cons_of_mem _ (List.mem_cons_of_mem _ h)
    · simp only [List.mem_cons] at hx
      rcases hx with rfl | rfl | hx
      · exact hmin.trans (min_le_left _ _)
      · exact hmin.trans (min_le_right _ _)
      · exact hle x (List.mem_cons_of_mem _ hx)

theorem windowMinimum_eq_none {l : List Int} : windowMinimum l = none ↔ l = [] := by
  cases l <;> simp [windowMinimum]

theorem windowMinimum_spec {l : List Int} {m : Int} (h : windowMinimum l = some m) : m ∈ l ∧ ∀ x ∈ l, m ≤ x := by
  cases l with
  | nil => exact nomatch h
  | cons a l =>
    obtain rfl : l.foldl min a = m := Option.some.inj h
    exact foldl_min_mem_and_le a l

/-- A rise above some value of the window is a rise above its minimum. -/
theorem exists_rise_iff (l : List Int) (rh threshold : Int) :
    (∃ x ∈ l, threshold ≤ rh - x) ↔ ∃ m, windowMinimum l = some m ∧ threshold ≤ rh - m := by
  constructor
  · rintro ⟨x, hx, hrise⟩
    cases hmin : windowMinimum l with
    | none => simp [windowMinimum_eq_none.1 hmin] at hx
    | some m => exact ⟨m, rfl, by have := (windowMinimum_spec hmin).2 x hx; omega⟩
  · rintro ⟨m, hmin, hrise⟩
    exact ⟨m, (windowMinimum_spec hmin).1, hrise⟩

/-- A window that has taken a value is not empty. -/
theorem pushWindow_ne_nil {α : Type} {n : Nat} (hn : 0 < n) (x : α) (l : List α) : pushWindow n x l ≠ [] := by
  rw [pushWindow, Ne, List.drop_eq_nil_iff, List.length_append, List.length_singleton]
  omega

section
variable {s : State}

/-! ## The dew point and the rise window (R100, R101) -/

theorem exec_humidityEvaluation_of_not_ready (h : s.mc.ready = false) : exec .humidityEvaluation s = .next s := by
  change execHumidityEvaluation s = _
  refine congrArg Host.Outcome.next ?_
  by_cases hheld : s.phase = .held
  · exact State.unlessHeld_held hheld _
  · simp [State.unlessHeld_of_ne hheld, h]

/-- What the first two stages leave in the record. -/
theorem State.sensed_hm (s : State) :
    s.sensed.hm =
      { s.hm with
        dewPoint := if s.channelFailed chEta || s.channelFailed chRh then s.hm.dewPoint
          else some (dewPointOf (s.filtered chEta) (s.filtered chRh))
        rise := if s.channelFailed chRh then [] else pushWindow 30 (s.filtered chRh) s.hm.rise } := by
  unfold State.sensed State.publishDewPoint
  split <;> rfl

theorem State.sensed_frame (s : State) : s.sensed = s.setHm s.sensed.hm := by
  obtain ⟨dewPoint, rise, h⟩ := s.sensed_eq
  rw [h]
  rfl

/-! ## The conditions of the boost (R102, R103) -/

theorem Humidity.anyHumid_iff (hm : Humidity) : hm.anyHumid = true ↔ ∃ n : Fin 4, hm.stations[n].humid = true := by
  unfold Humidity.anyHumid
  rw [Vector.any_eq_true]
  exact ⟨fun ⟨i, hi, h⟩ => ⟨⟨i, hi⟩, h⟩, fun ⟨n, h⟩ => ⟨n, n.2, h⟩⟩

theorem State.boostStarts_iff (s : State) :
    s.boostStarts = true ↔ s.hm.anyHumid = true ∨ (s.channelFailed chRh = false ∧
      ((s.settings.highLimit : Int) ≤ s.filtered chRh ∨
        ∃ x ∈ s.hm.rise, (s.settings.riseThreshold : Int) ≤ s.filtered chRh - x)) := by
  rw [exists_rise_iff]
  unfold State.boostStarts
  cases windowMinimum s.hm.rise <;> simp

theorem State.boostEnds_iff (s : State) (hm : Humidity) :
    s.boostEnds hm = true ↔ hm.boostElapsed = some 600 ∧ hm.anyHumid = false ∧ (s.channelFailed chRh = true ∨
      (s.filtered chRh < (s.settings.highLimit : Int) - 50 ∧
        ∃ m, hm.startMinimum = some m ∧ s.filtered chRh < m + (s.settings.riseThreshold / 2 : Nat))) := by
  unfold State.boostEnds
  cases hm.startMinimum <;> simp [and_assoc]

/-! ## What the two stages after them leave -/

theorem State.stageBoost_of_no_boost (h : s.hm.view ≠ .boost) :
    s.stageBoost = if s.boostStarts then s.startBoost else s := by
  unfold State.stageBoost
  cases hview : s.hm.view with
  | boost => exact absurd hview h
  | none => rfl
  | away => rfl

theorem State.stageBoost_of_boost (h : s.hm.view = .boost) :
    s.stageBoost = if s.boostEnds s.advanceBoost then s.endBoost s.advanceBoost else s.setHm s.advanceBoost := by
  unfold State.stageBoost
  simp only [h]

/-- What the boost and dry protection leave in the record. -/
def Humidity.SameReadings (a b : Humidity) : Prop :=
  a.stations = b.stations ∧ a.rise = b.rise ∧ a.dewPoint = b.dewPoint

theorem State.stageBoost_readings (s : State) : s.stageBoost.hm.SameReadings s.hm := by
  obtain ⟨-, h | h⟩ | ⟨-, h | h⟩ := s.stageBoost_cases <;> rw [h]
  · exact ⟨rfl, rfl, rfl⟩
  · exact ⟨rfl, rfl, rfl⟩
  · exact ⟨rfl, rfl, rfl⟩
  · rw [State.endBoost_hm]
    exact ⟨rfl, rfl, rfl⟩

/-- All that stage 4 can do (R106 to R108). -/
theorem State.stageDry_cases (s : State) :
    s.stageDry = s.counted ∨ (s.hm.view = .none ∧ s.stageDry = s.counted.protectDry) ∨
      (s.hm.view = .away ∧ s.stageDry = s.counted.releaseDry) := by
  cases hview : s.hm.view with
  | boost => exact .inl (State.stageDry_of_boost hview)
  | none =>
    rw [State.stageDry_of_none hview]
    split
    · exact .inr (.inl ⟨rfl, rfl⟩)
    · exact .inl rfl
  | away =>
    rw [State.stageDry_of_away hview]
    split
    · exact .inr (.inr ⟨rfl, rfl⟩)
    · exact .inl rfl

theorem State.stageDry_readings (s : State) : s.stageDry.hm.SameReadings s.hm := by
  obtain h | ⟨-, h⟩ | ⟨-, h⟩ := s.stageDry_cases <;> rw [h]
  · exact ⟨rfl, rfl, rfl⟩
  · exact ⟨rfl, rfl, rfl⟩
  · rw [State.releaseDry_hm]
    exact ⟨rfl, rfl, rfl⟩

theorem State.stageDry_frame (s : State) : ∃ hm da eu, s.stageDry = { s with hm := hm, da := da, eu := eu } := by
  obtain h | ⟨-, h⟩ | ⟨-, h⟩ := s.stageDry_cases <;> rw [h]
  · exact ⟨_, _, _, rfl⟩
  · exact ⟨_, _, _, rfl⟩
  · rw [State.releaseDry, State.removeKind_eq_setDa]
    exact ⟨_, _, _, rfl⟩

/-- An evaluation moves the manager, the arbiter and the events alone. -/
theorem State.evaluateHumidity_frame (s : State) :
    s.evaluateHumidity =
      { s with hm := s.evaluateHumidity.hm, da := s.evaluateHumidity.da, eu := s.evaluateHumidity.eu } := by
  obtain ⟨hm, da, eu, hbefore, -⟩ := s.beforeDry_frame
  obtain ⟨hm', da', eu', hdry⟩ := s.beforeDry.stageDry_frame
  rw [State.evaluateHumidity_eq, hdry, hbefore]

theorem State.evaluateHumidity_readings (s : State) : s.evaluateHumidity.hm.SameReadings s.sensed.hm := by
  obtain ⟨h1, h2, h3⟩ := s.beforeDry.stageDry_readings
  obtain ⟨k1, k2, k3⟩ := s.sensed.stageBoost_readings
  exact ⟨h1.trans k1, h2.trans k2, h3.trans k3⟩

/-- A boost that stands before dry protection stands after it, the dry count aside. -/
theorem State.evaluateHumidity_of_boost (h : s.beforeDry.hm.view = .boost) :
    s.evaluateHumidity = s.beforeDry.counted := State.stageDry_of_boost h

/-- With nothing posted, dry protection takes back no flag. -/
theorem State.stageDry_none_isSet (h : s.hm.view = .none) {f : Flag} (hf : s.eu.isSet f = true) :
    s.stageDry.eu.isSet f = true := by
  rw [State.stageDry_of_none h]
  split
  · exact State.raise_isSet_of (s := (s.counted.post .humidity .away 0 none).setHm _) hf
  · exact hf

/-- With nothing posted, what dry protection leaves in the slot is its AWAY. -/
theorem State.stageDry_none_slot (h : s.hm.view = .none) (hempty : s.da.table.humidity = none) {e : Entry}
    (he : s.stageDry.da.table.humidity = some e) : e.kind = .away := by
  rw [State.stageDry_of_none h] at he
  split at he
  · exact Option.some.inj he ▸ rfl
  · exact nomatch hempty.symm.trans he

theorem State.sensed_da (s : State) : s.sensed.da = s.da := by rw [State.sensed_frame]; rfl
theorem State.sensed_eu (s : State) : s.sensed.eu = s.eu := by rw [State.sensed_frame]; rfl
theorem State.sensed_settings (s : State) : s.sensed.settings = s.settings := by rw [State.sensed_frame]; rfl
theorem State.sensed_filtered (s : State) (ch : Fin 8) : s.sensed.filtered ch = s.filtered ch := by
  rw [State.sensed_frame]; rfl
theorem State.sensed_channelFailed (s : State) (ch : Fin 8) : s.sensed.channelFailed ch = s.channelFailed ch := by
  rw [State.sensed_frame]; rfl

/-- The start of a boost at the state that it is judged on (R102). -/
theorem State.evaluateHumidity_starts (hview : s.hm.view ≠ .boost) (hstarts : s.sensed.boostStarts = true) :
    s.evaluateHumidity = s.sensed.startBoost.counted := by
  have hsensed : s.sensed.hm.view ≠ .boost := by rwa [State.sensed_hm]
  have hbefore : s.beforeDry = s.sensed.startBoost := (State.stageBoost_of_no_boost hsensed).trans (if_pos hstarts)
  exact (State.evaluateHumidity_of_boost (by rw [hbefore]; rfl)).trans (by rw [hbefore])

theorem State.evaluateHumidity_starts_not (hview : s.hm.view ≠ .boost) (hstarts : ¬s.sensed.boostStarts = true) :
    s.evaluateHumidity.hm.view ≠ .boost := by
  have hsensed : s.sensed.hm.view ≠ .boost := by rwa [State.sensed_hm]
  have hbefore : s.beforeDry = s.sensed := (State.stageBoost_of_no_boost hsensed).trans (if_neg hstarts)
  exact fun h => hsensed (hbefore ▸ (State.stageDry_boost_stands h).1)

/-- A boost in progress that does not end (R103, R104). -/
theorem State.evaluateHumidity_advances (hview : s.hm.view = .boost)
    (hends : ¬s.sensed.boostEnds s.sensed.advanceBoost = true) :
    s.evaluateHumidity = (s.sensed.setHm s.sensed.advanceBoost).counted := by
  have hsensed : s.sensed.hm.view = .boost := by rwa [State.sensed_hm]
  have hbefore : s.beforeDry = s.sensed.setHm s.sensed.advanceBoost :=
    (State.stageBoost_of_boost hsensed).trans (if_neg hends)
  exact (State.evaluateHumidity_of_boost (by rw [hbefore]; exact hsensed)).trans (by rw [hbefore])

/-- The end of a boost (R103), after which dry protection may post at once. -/
theorem State.evaluateHumidity_ends (hview : s.hm.view = .boost)
    (hends : s.sensed.boostEnds s.sensed.advanceBoost = true) :
    s.evaluateHumidity.hm.view ≠ .boost ∧ s.evaluateHumidity.hm.boostElapsed = none ∧
    s.evaluateHumidity.hm.startMinimum = none ∧ s.evaluateHumidity.eu.isSet .humidBoost = true ∧
    (SlotNames s.hm.view s.da.table.humidity →
      ∀ e, s.evaluateHumidity.da.table.humidity = some e → e.kind = .away) := by
  have hsensed : s.sensed.hm.view = .boost := by rwa [State.sensed_hm]
  have hbefore : s.beforeDry = s.sensed.endBoost s.sensed.advanceBoost :=
    (State.stageBoost_of_boost hsensed).trans (if_pos hends)
  have hnone : s.beforeDry.hm.view = .none := by rw [hbefore, State.endBoost_hm]
  obtain ⟨slot, htable, hempty⟩ := s.sensed.endBoost_table s.sensed.advanceBoost
  rw [← hbefore] at htable
  obtain ⟨-, helapsed, hstart, -, -⟩ := State.stageDry_none_posts hnone htable
  rw [hbefore, State.endBoost_hm] at helapsed hstart
  refine ⟨fun h => ?_, ?_, ?_, ?_, fun hslot e he => ?_⟩
  · exact nomatch hnone.symm.trans (State.stageDry_boost_stands h).1
  · rw [State.evaluateHumidity_eq, hbefore]
    exact helapsed
  · rw [State.evaluateHumidity_eq, hbefore]
    exact hstart
  · refine State.stageDry_none_isSet hnone ?_
    rw [hbefore, State.endBoost_eu, EventUnit.isSet_raise]
    simp
  · refine State.stageDry_none_slot hnone ?_ he
    rw [htable]
    rw [hview, ← s.sensed_da] at hslot
    exact hempty hslot

end

/-- Settles O35: the conditions of start and end read at the state that the first two stages leave. -/
theorem humidBoostStartsAndEnds : Obligations.HumidBoostStartsAndEnds := by
  refine ⟨fun s => exec_humidityEvaluation_of_not_ready, ?_⟩
  intro s rh rise humid hacts hrh hrise hhumid
  subst hrh
  have hsensedRise : s.sensed.hm.rise = rise := by rw [State.sensed_hm, hrise]
  have hany : s.sensed.hm.anyHumid = humid := by
    rw [Bool.eq_iff_iff, Humidity.anyHumid_iff, hhumid, State.sensed_hm]
  have hstartsIff := s.sensed.boostStarts_iff
  have hendsIff := s.sensed.boostEnds_iff s.sensed.advanceBoost
  rw [hany, hsensedRise, State.sensed_channelFailed, State.sensed_settings, State.sensed_filtered] at hstartsIff
  have hanyAdvanced : s.sensed.advanceBoost.anyHumid = humid := hany
  rw [hanyAdvanced, State.sensed_channelFailed, State.sensed_settings, State.sensed_filtered] at hendsIff
  obtain ⟨hstations, hkeptRise, hdew⟩ := s.evaluateHumidity_readings
  refine ⟨s.evaluateHumidity, exec_humidityEvaluation_of_acts hacts, s.evaluateHumidity_frame, ?_, ?_, ?_, ?_, ?_, ?_⟩
  · rw [hstations, State.sensed_hm]
  · rw [hkeptRise, hsensedRise]
  · intro hfailed
    rw [hdew, State.sensed_hm]
    exact if_pos (by simpa using hfailed)
  · intro heta hrh
    rw [hdew, State.sensed_hm]
    exact if_neg (by simp [heta, hrh])
  · refine fun hview => ⟨fun hstarts => ?_, fun hdry hcond => ?_⟩
    · rw [State.evaluateHumidity_starts hview (hstartsIff.2 hstarts)]
      have hmin : s.sensed.startBoost.counted.hm.startMinimum =
          if s.channelFailed chRh then none else windowMinimum rise := by
        rw [← hsensedRise, ← s.sensed_channelFailed]
        rfl
      refine ⟨rfl, rfl, ?_, ?_, fun hfailed => by rw [hmin, if_pos hfailed], fun hread => ?_⟩
      · rw [← s.sensed_eu]
        rfl
      · rw [← s.sensed_da, ← s.sensed_settings]
        rfl
      · rw [hmin, if_neg (by simp [hread])]
        cases hw : windowMinimum rise with
        | none =>
          have hempty := windowMinimum_eq_none.1 hw
          rw [hrise, if_neg (by simp [hread])] at hempty
          exact absurd hempty (pushWindow_ne_nil (by decide) _ _)
        | some m => exact ⟨m, (windowMinimum_spec hw).1, rfl, (windowMinimum_spec hw).2⟩
    · refine State.evaluateHumidity_starts_not hview fun hstarts => ?_
      rw [hstartsIff] at hstarts
      grind
  · intro hview elapsed start helapsed hstart
    have hadvElapsed : s.sensed.advanceBoost.boostElapsed = some (min 600 (elapsed + 10)) := by
      have h : s.sensed.hm.boostElapsed = some elapsed := by rw [State.sensed_hm]; exact helapsed
      simp [State.advanceBoost, h]
    have hadvStart : s.sensed.advanceBoost.startMinimum = start := by
      rw [hstart, ← hsensedRise, ← s.sensed_channelFailed]
      have h : s.sensed.hm.startMinimum = s.hm.startMinimum := by rw [State.sensed_hm]
      rw [← h]
      rfl
    rw [hadvElapsed, hadvStart] at hendsIff
    refine ⟨fun hon => ?_, fun hlong hdry hcond => ?_⟩
    · have hnot : ¬s.sensed.boostEnds s.sensed.advanceBoost = true := by
        rw [hendsIff]
        grind
      rw [State.evaluateHumidity_advances hview hnot]
      refine ⟨?_, hadvElapsed, hadvStart, s.sensed_da, s.sensed_eu⟩
      show s.sensed.hm.view = .boost
      rw [State.sensed_hm, ← hview]
    · refine State.evaluateHumidity_ends hview (hendsIff.2 ⟨?_, hdry, hcond⟩)
      rw [Nat.min_eq_left (by omega)]

end Sys2Proof.Machine

namespace Sys2Proof.Machine

/-! # The filter monitor: accumulation and assessment (R114 to R122) -/

section
variable {s : State}

theorem exec_filterAccumulation (h : s.phase = .running) :
    exec .filterAccumulation s = .next (s.setFm
      { supply := s.fm.supply.accumulate s.ae.supply.qr, extract := s.fm.extract.accumulate s.ae.extract.qr }) :=
  congrArg Host.Outcome.next (State.whenRunning_of h _)

/-! ## One filter's accumulation -/

theorem FilterRecord.accumulate_carry (f : FilterRecord) {qr : Nat} (h : kiloM3 ≤ f.accumulator + qr) :
    (f.accumulate qr).accumulator = f.accumulator + qr - kiloM3 ∧
    (f.accumulate qr).volume = min 65535 (f.volume + 1) := by simp [FilterRecord.accumulate, h]

theorem FilterRecord.accumulate_no_carry (f : FilterRecord) {qr : Nat} (h : f.accumulator + qr < kiloM3) :
    (f.accumulate qr).accumulator = f.accumulator + qr ∧ (f.accumulate qr).volume = f.volume := by
  simp [FilterRecord.accumulate, Nat.not_le.2 h]

theorem FilterRecord.accumulate_still (f : FilterRecord) :
    (f.accumulate 0).runSeconds = f.runSeconds ∧ (f.accumulate 0).runHours = f.runHours := by
  simp [FilterRecord.accumulate]

theorem FilterRecord.accumulate_second (f : FilterRecord) {qr : Nat} (hflow : 0 < qr) (h : f.runSeconds + 1 ≠ 3600) :
    (f.accumulate qr).runSeconds = f.runSeconds + 1 ∧ (f.accumulate qr).runHours = f.runHours := by
  have hseconds : f.runSeconds ≠ 3599 := by omega
  simp [FilterRecord.accumulate, hflow, hflow.ne', hseconds]

theorem FilterRecord.accumulate_hour (f : FilterRecord) {qr : Nat} (hflow : 0 < qr) (h : f.runSeconds + 1 = 3600) :
    (f.accumulate qr).runSeconds = 0 ∧ (f.accumulate qr).runHours = min 65535 (f.runHours + 1) := by
  simp [FilterRecord.accumulate, hflow, hflow.ne', h]

end

/-- Settles O37: each side's record is accumulated by its fan's flow. -/
theorem accumulationCountsVolumeAndTime : Obligations.AccumulationCountsVolumeAndTime := by
  intro s hrun
  refine ⟨_, exec_filterAccumulation hrun, rfl, fun side f g qr hf hg hqr => ?_⟩
  have haccumulated : g = f.accumulate qr := by cases side <;> rw [hg, hf, hqr] <;> rfl
  subst haccumulated
  refine ⟨rfl, f.accumulate_no_carry, f.accumulate_carry, ?_, f.accumulate_second, f.accumulate_hour, fun h => ?_,
    fun h => ?_⟩
  · rintro rfl
    exact f.accumulate_still
  · exact if_pos h
  · exact if_neg h

/-! ## One filter's assessment (R116 to R121) -/

namespace FilterRecord

section
variable (f : FilterRecord) (set : Settings) {ready : Bool} {pressure : Channel} {norm : Nat}

theorem readiness_eq_assessed :
    f.readiness set ready pressure = .assessed ↔ ready = true ∧ f.state ≠ .changing ∧
      set.assessMinFlow ≤ f.steadyFlow ∧ f.steadyCount = 60 ∧ pressure.state = .valid := by
  unfold readiness
  split_ifs with h1 h2 h3 h4 h5 <;> simp_all

/-- The first condition that fails gives the reason. -/
theorem readiness_eq_reason (h : f.readiness set ready pressure ≠ .assessed) :
    f.readiness set ready pressure =
      if ready = false then .notReady
      else if f.state = .changing then .changing
      else if f.steadyFlow < set.assessMinFlow then .lowFlow
      else if f.steadyCount ≠ 60 then .unsteady
      else .channel := by
  unfold readiness at h ⊢
  split_ifs at h ⊢ <;> simp_all

theorem assess_of_reason (h : f.readiness set ready pressure ≠ .assessed) :
    f.assess set ready pressure =
      { f.limitTested set with lastAssessment := f.readiness set ready pressure } := by
  unfold assess
  split
  next hready => exact absurd hready h
  next => rfl

theorem assess_of_assessed (h : f.readiness set ready pressure = .assessed) :
    f.assess set ready pressure =
      { f.assessValid set (dpNorm pressure.filtered set.qref f.steadyFlow) with
        lastAssessment := .assessed
        lastDpNorm := some (dpNorm pressure.filtered set.qref f.steadyFlow) } := by
  unfold assess
  rw [h]

theorem atLimit_iff : f.atLimit set = true ↔ set.volumeLimit ≤ f.volume ∨ set.hoursLimit ≤ f.runHours := by
  simp [atLimit]

/-- The limit test moves the state alone, from CLEAN or LOADING to LOADED (R120). -/
theorem limitTested_eq :
    f.limitTested set =
      { f with state := if f.atLimit set = true ∧ (f.state = .clean ∨ f.state = .loading) then .loaded else f.state } := by
  unfold limitTested
  split
  next hstate =>
    by_cases hlimit : f.atLimit set = true <;> simp [hlimit, hstate]
    exact hstate ▸ rfl
  next hstate =>
    by_cases hlimit : f.atLimit set = true <;> simp [hlimit, hstate]
    exact hstate ▸ rfl
  next hclean hloading => rw [if_neg fun h => h.2.elim hclean hloading]

/-! ### The rules of a valid assessment (R118, R119, R121) -/

variable {f}

theorem assessValid_of_learning (h : f.state = .learning) : f.assessValid set norm = f.learn set norm := by
  simp [assessValid, h]

theorem assessValid_of_absent (h : f.state = .absent) : f.assessValid set norm = f.assessAbsent set norm := by
  simp [assessValid, h]

theorem assessValid_of_graded (hlearning : f.state ≠ .learning) (habsent : f.state ≠ .absent)
    (hchanging : f.state ≠ .changing) : f.assessValid set norm = f.assessGraded set norm := by
  unfold assessValid
  split
  next h => exact absurd h hlearning
  next h => exact absurd h habsent
  next h => exact absurd h hchanging
  next => rfl

variable {set} in
theorem learn_of_lt (h : norm < set.absentThreshold) :
    f.learn set norm = { f with state := .absent, dpClean := none } := if_pos h

variable {set} in
/-- A first clean reference is learnt, and the limit test decides between CLEAN and LOADED (R118, R120). -/
theorem learn_of_le (h : set.absentThreshold ≤ norm) :
    f.learn set norm =
      { f with
        dpClean := some (min 500 norm)
        loadedMarks := 0
        blockedMarks := 0
        state := if f.atLimit set = true then .loaded else .clean } := by
  refine (if_neg (Nat.not_lt.2 h)).trans ?_
  rw [limitTested_eq]
  simp [atLimit]

variable {set} in
theorem assessGraded_of_lt (h : norm < set.absentThreshold) : f.assessGraded set norm = f.enterAbsent := if_pos h

variable (f)

theorem mark_eq (dp : Nat) :
    f.mark set dp norm =
      { f with
        loadedMarks := if blockedThreshold set dp ≤ norm ∨ loadedThreshold set dp ≤ norm then min 3 (f.loadedMarks + 1)
          else 0
        blockedMarks := if blockedThreshold set dp ≤ norm then min 3 (f.blockedMarks + 1) else 0 } := by
  unfold mark
  by_cases hblocked : blockedThreshold set dp ≤ norm
  · simp [hblocked]
  · by_cases hloaded : loadedThreshold set dp ≤ norm <;> simp [hblocked, hloaded]

/-- The worse of a graded state and of the one that marks and dp_norm indicate (R119). -/
theorem worse_indicated (m : FilterRecord) (dp : Nat)
    (hgraded : f.state = .clean ∨ f.state = .loading ∨ f.state = .loaded ∨ f.state = .blocked) :
    f.state.worse (m.indicated set dp norm) =
      if f.state = .blocked ∨ m.blockedMarks = 3 then .blocked
      else if f.state = .loaded ∨ m.loadedMarks = 3 then .loaded
      else if f.state = .loading ∨ loadingThreshold set dp ≤ norm then .loading
      else .clean := by
  unfold indicated
  rcases hgraded with h | h | h | h <;> rw [h] <;> split_ifs <;> simp_all [FilterState.worse, FilterState.grade]
  omega

variable {f set} in
/-- A graded filter with a pressure above the absent threshold: the marks, then the worse state, then the limit. -/
theorem assessGraded_of_le (hgraded : f.state = .clean ∨ f.state = .loading ∨ f.state = .loaded ∨ f.state = .blocked)
    (h : set.absentThreshold ≤ norm) {m : FilterRecord} (hm : m = f.mark set (f.dpClean.getD 0) norm) :
    f.assessGraded set norm =
      { m with
        state :=
          if f.state = .blocked ∨ m.blockedMarks = 3 then .blocked
          else if f.state = .loaded ∨ m.loadedMarks = 3 ∨ f.atLimit set = true then .loaded
          else if f.state = .loading ∨ loadingThreshold set (f.dpClean.getD 0) ≤ norm then .loading
          else .clean } := by
  subst hm
  refine (if_neg (Nat.not_lt.2 h)).trans ?_
  dsimp only
  rw [limitTested_eq, worse_indicated _ _ _ _ hgraded]
  have hlimit : ∀ st, atLimit { f.mark set (f.dpClean.getD 0) norm with state := st } set = f.atLimit set := fun st => by
    rw [mark_eq]
    rfl
  rw [hlimit]
  congr 2
  split_ifs <;> simp_all

variable {set} in
/-- What an assessment can move. -/
theorem assess_frame :
    ∃ state dpClean loadedMarks blockedMarks lastAssessment lastDpNorm,
      f.assess set ready pressure =
        { f with
          state := state
          dpClean := dpClean
          loadedMarks := loadedMarks
          blockedMarks := blockedMarks
          lastAssessment := lastAssessment
          lastDpNorm := lastDpNorm } := by
  by_cases hready : f.readiness set ready pressure = .assessed
  · rw [f.assess_of_assessed set hready]
    have hvalid (norm : Nat) : ∃ state dpClean loadedMarks blockedMarks, f.assessValid set norm =
        { f with state := state, dpClean := dpClean, loadedMarks := loadedMarks, blockedMarks := blockedMarks } := by
      unfold assessValid
      split
      · unfold learn
        split
        · exact ⟨_, _, _, _, rfl⟩
        · rw [limitTested_eq]
          exact ⟨_, _, _, _, rfl⟩
      · unfold assessAbsent
        split <;> exact ⟨_, _, _, _, rfl⟩
      · exact ⟨_, _, _, _, rfl⟩
      · unfold assessGraded
        split
        · exact ⟨_, _, _, _, rfl⟩
        · dsimp only
          rw [limitTested_eq, mark_eq]
          exact ⟨_, _, _, _, rfl⟩
    obtain ⟨state, dpClean, loaded, blocked, h⟩ := hvalid (dpNorm pressure.filtered set.qref f.steadyFlow)
    rw [h]
    exact ⟨_, _, _, _, _, _, rfl⟩
  · rw [f.assess_of_reason set hready, limitTested_eq]
    exact ⟨_, _, _, _, _, _, rfl⟩

end

end FilterRecord

section
variable {s : State}

/-! ## One side assessed at the state -/

/-- What an assessment makes of one side's filter. -/
def State.assessed (s : State) (side : Side) : FilterRecord :=
  (s.fm.filter side).assess s.settings s.mc.ready (s.channel (filterChannel side))

theorem State.assessSide_eq (s : State) (side : Side) :
    s.assessSide side =
      if (s.assessed side).state = .absent ∧ (s.fm.filter side).state ≠ .absent then
        (s.handOn side (s.assessed side)).raise .filterAbsent
      else s.handOn side (s.assessed side) := rfl

/-- A record handed on moves the filters, the arbiter and the events alone (R122). -/
theorem State.handOn_frame (s : State) (side : Side) (f : FilterRecord) :
    s.handOn side f =
      { s with fm := s.fm.withFilter side f, da := (s.handOn side f).da, eu := (s.handOn side f).eu } := by
  unfold State.handOn
  dsimp only
  split <;> rfl

theorem State.assessSide_frame (s : State) (side : Side) :
    s.assessSide side =
      { s with
        fm := s.fm.withFilter side (s.assessed side)
        da := (s.assessSide side).da
        eu := (s.assessSide side).eu } := by
  rw [State.assessSide_eq]
  split
  · rw [State.handOn_frame]
    rfl
  · exact s.handOn_frame side _

theorem State.assessSide_fm (s : State) (side : Side) :
    (s.assessSide side).fm = s.fm.withFilter side (s.assessed side) := by rw [State.assessSide_frame]

theorem State.assessSide_ss (s : State) (side : Side) : (s.assessSide side).ss = s.ss := by
  rw [State.assessSide_frame]

/-- The other side's assessment reads nothing that the first has moved. -/
theorem State.assessSide_assessed (s : State) {side other : Side} (h : other ≠ side) :
    (s.assessSide side).assessed other = s.assessed other := by
  have hfilter : (s.assessSide side).fm.filter other = s.fm.filter other := by
    rw [State.assessSide_fm, Filters.filter_withFilter_ne _ h]
  unfold State.assessed
  rw [hfilter, State.assessSide_frame]
  rfl

theorem State.assessSide_table (s : State) (side : Side) : (s.assessSide side).da.table = s.da.table := by
  rw [State.assessSide_eq]
  split <;> exact s.handOn_table side _

/-- A side whose state does not change moves its record alone (R122). -/
theorem State.assessSide_of_eq {side : Side} (h : (s.assessed side).state = (s.fm.filter side).state) :
    (s.assessSide side).da = s.da ∧ (s.assessSide side).eu = s.eu := by
  have hnot : ¬((s.assessed side).state = .absent ∧ (s.fm.filter side).state ≠ .absent) := fun ⟨h1, h2⟩ => h2 (h ▸ h1)
  have hstep : s.assessSide side = s.setFm (s.fm.withFilter side (s.assessed side)) :=
    (if_neg hnot).trans (State.handOn_of_eq h)
  rw [hstep]
  exact ⟨rfl, rfl⟩

/-- A side whose state changes has the plan made anew (R33, R34). -/
theorem State.assessSide_current_of_ne {side : Side} (h : (s.assessed side).state ≠ (s.fm.filter side).state) :
    (s.assessSide side).PlanCurrent := by
  have hhanded : (s.handOn side (s.assessed side)).PlanCurrent := by
    rw [State.handOn_of_ne h]
    exact State.recomputeCeiling_current _
  rw [State.assessSide_eq]
  split
  · exact hhanded.same rfl rfl rfl rfl
  · exact hhanded

theorem State.PlanCurrent.assessSide (h : s.PlanCurrent) (side : Side) : (s.assessSide side).PlanCurrent := by
  have hhanded : (s.handOn side (s.assessed side)).PlanCurrent :=
    h.handOn side fun hstate => contribution_congr (Settings.SamePlan.refl _) hstate (FilterRecord.assess_saved _ _ _ _)
  rw [State.assessSide_eq]
  split
  · exact hhanded.same rfl rfl rfl rfl
  · exact hhanded

theorem State.handOn_isSet (s : State) (side : Side) (f : FilterRecord) (x : Flag) :
    (s.handOn side f).eu.isSet x = true ↔
      s.eu.isSet x = true ∨ (x = filterFlag side ∧ f.state ≠ (s.fm.filter side).state) := by
  by_cases h : f.state = (s.fm.filter side).state
  · rw [State.handOn_of_eq h]
    simp [h]
  · rw [State.handOn_of_ne h, State.raise_eu, EventUnit.isSet_raise]
    simp [h]

/-- The flags of one side: its state flag at a change, and FILTER_ABSENT at an entry to ABSENT (R118, R122). -/
theorem State.assessSide_isSet (s : State) (side : Side) (x : Flag) :
    (s.assessSide side).eu.isSet x = true ↔
      s.eu.isSet x = true ∨ (x = filterFlag side ∧ (s.assessed side).state ≠ (s.fm.filter side).state) ∨
        (x = .filterAbsent ∧ (s.assessed side).state = .absent ∧ (s.fm.filter side).state ≠ .absent) := by
  rw [State.assessSide_eq]
  split
  next h =>
    rw [State.raise_eu, EventUnit.isSet_raise, Bool.or_eq_true, State.handOn_isSet]
    simp [h, or_assoc]
  next h =>
    rw [State.handOn_isSet]
    simp only [h, and_false, or_false]

/-! ## Both sides assessed -/

/-- The state after the assessment of both sides, before the save falls due. -/
def State.assessedBoth (s : State) : State := (s.assessSide .supply).assessSide .extract

theorem exec_filterAssessment (h : s.phase = .running) : exec .filterAssessment s = .next s.assessedBoth.saveDue :=
  congrArg Host.Outcome.next (State.whenRunning_of h _)

theorem State.assessedBoth_filter (s : State) (side : Side) : s.assessedBoth.fm.filter side = s.assessed side := by
  unfold State.assessedBoth
  rw [State.assessSide_fm]
  cases side with
  | supply =>
    rw [Filters.filter_withFilter_ne _ (by decide), State.assessSide_fm, Filters.filter_withFilter_self]
  | extract => rw [Filters.filter_withFilter_self, State.assessSide_assessed _ (by decide)]

theorem State.assessedBoth_ss (s : State) : s.assessedBoth.ss = s.ss := by
  rw [State.assessedBoth, State.assessSide_ss, State.assessSide_ss]

theorem State.assessedBoth_frame (s : State) :
    s.assessedBoth = { s with fm := s.assessedBoth.fm, da := s.assessedBoth.da, eu := s.assessedBoth.eu } := by
  unfold State.assessedBoth
  rw [State.assessSide_frame (s.assessSide .supply), State.assessSide_frame s]

/-- The extract side as the second assessment finds it. -/
theorem State.assessSide_supply_extract (s : State) :
    (s.assessSide .supply).assessed .extract = s.assessed .extract ∧
    (s.assessSide .supply).fm.filter .extract = s.fm.filter .extract :=
  ⟨State.assessSide_assessed s (by decide), by rw [State.assessSide_fm, Filters.filter_withFilter_ne _ (by decide)]⟩

theorem State.assessedBoth_plan (hrun : s.phase = .running)
    (h : ∃ side, (s.assessed side).state ≠ (s.fm.filter side).state) :
    s.assessedBoth.da.plan = s.assessedBoth.planNow := by
  obtain ⟨hassessed, hfilter⟩ := s.assessSide_supply_extract
  have hcurrent : s.assessedBoth.PlanCurrent := by
    obtain ⟨side, hside⟩ := h
    cases side with
    | supply => exact (State.assessSide_current_of_ne hside).assessSide .extract
    | extract => exact State.assessSide_current_of_ne (by rwa [hassessed, hfilter])
  have hphase : s.assessedBoth.phase = .running := by
    rw [State.assessedBoth_frame]
    exact hrun
  obtain ⟨-, -, hplan⟩ := hcurrent hphase
  exact hplan

theorem State.assessedBoth_same (h : ∀ side, (s.assessed side).state = (s.fm.filter side).state) :
    s.assessedBoth.da = s.da ∧ s.assessedBoth.eu = s.eu := by
  obtain ⟨hassessed, hfilter⟩ := s.assessSide_supply_extract
  obtain ⟨hda, heu⟩ := State.assessSide_of_eq (h .supply)
  obtain ⟨hda', heu'⟩ := State.assessSide_of_eq (s := s.assessSide .supply) (side := .extract)
    (by rw [hassessed, hfilter, h .extract])
  exact ⟨hda'.trans hda, heu'.trans heu⟩

theorem State.assessedBoth_isSet (s : State) (x : Flag) :
    s.assessedBoth.eu.isSet x = true ↔
      s.eu.isSet x = true ∨
      (∃ side, x = filterFlag side ∧ (s.assessed side).state ≠ (s.fm.filter side).state) ∨
      (x = .filterAbsent ∧ ∃ side, (s.assessed side).state = .absent ∧ (s.fm.filter side).state ≠ .absent) := by
  obtain ⟨hassessed, hfilter⟩ := s.assessSide_supply_extract
  unfold State.assessedBoth
  rw [State.assessSide_isSet, State.assessSide_isSet, hassessed, hfilter]
  constructor
  · rintro ((h | ⟨hx, h⟩ | ⟨hx, h⟩) | ⟨hx, h⟩ | ⟨hx, h⟩)
    · exact .inl h
    · exact .inr (.inl ⟨_, hx, h⟩)
    · exact .inr (.inr ⟨hx, _, h⟩)
    · exact .inr (.inl ⟨_, hx, h⟩)
    · exact .inr (.inr ⟨hx, _, h⟩)
  · rintro (h | ⟨side, hx, h⟩ | ⟨hx, side, h⟩)
    · exact .inl (.inl h)
    · cases side with
      | supply => exact .inl (.inr (.inl ⟨hx, h⟩))
      | extract => exact .inr (.inl ⟨hx, h⟩)
    · cases side with
      | supply => exact .inl (.inr (.inr ⟨hx, h⟩))
      | extract => exact .inr (.inr ⟨hx, h⟩)

/-! ## The save that falls due (R128) -/

theorem SettingsStore.free_iff (ss : SettingsStore) : ss.free = true ↔ ss.store = .idle ∧ ss.saving = none := by
  simp [SettingsStore.free]

theorem State.saveDue_frame (s : State) :
    s.saveDue = s.setSs { s.ss with saving := s.saveDue.ss.saving, saveWaiting := s.saveDue.ss.saveWaiting } := by
  unfold State.saveDue State.beginSave
  split <;> rfl

end

/-! ## What an assessment leaves of one filter, by the cases of R116 to R121 -/

namespace FilterRecord

section
variable {f g : FilterRecord} {set : Settings} {ready : Bool} {pressure : Channel} {norm dp : Nat} {limit : Bool}

/-- An assessment that is not made (R116, R120). -/
theorem assess_of_not_valid (hg : g = f.assess set ready pressure)
    (hlimit : limit = true ↔ set.volumeLimit ≤ f.volume ∨ set.hoursLimit ≤ f.runHours)
    (h : f.readiness set ready pressure ≠ .assessed) :
    g.dpClean = f.dpClean ∧ g.loadedMarks = f.loadedMarks ∧ g.blockedMarks = f.blockedMarks ∧
    g.lastDpNorm = f.lastDpNorm ∧
    g.state = (if limit = true ∧ (f.state = .clean ∨ f.state = .loading) then .loaded else f.state) ∧
    g.lastAssessment =
      (if ready = false then .notReady
      else if f.state = .changing then .changing
      else if f.steadyFlow < set.assessMinFlow then .lowFlow
      else if f.steadyCount ≠ 60 then .unsteady
      else .channel) := by
  have hat : f.atLimit set = limit := Bool.eq_iff_iff.2 ((f.atLimit_iff set).trans hlimit.symm)
  rw [hg, f.assess_of_reason set h, limitTested_eq, f.readiness_eq_reason set h, hat]
  exact ⟨rfl, rfl, rfl, rfl, rfl, rfl⟩

/-- The assessment of a LEARNING filter (R118). -/
theorem assess_of_learning (hat : f.atLimit set = limit) (hstate : f.state = .learning)
    (h : set.absentThreshold ≤ norm) :
    (f.assessValid set norm).dpClean = some (min 500 norm) ∧ (f.assessValid set norm).loadedMarks = 0 ∧
    (f.assessValid set norm).blockedMarks = 0 ∧
    (f.assessValid set norm).state = (if limit = true then .loaded else .clean) := by
  rw [assessValid_of_learning set hstate, learn_of_le h, hat]
  exact ⟨rfl, rfl, rfl, rfl⟩

/-- A filter that a pressure below the absent threshold finds missing (R118, R119). -/
theorem assess_of_missing (hchanging : f.state ≠ .changing) (habsent : f.state ≠ .absent)
    (h : norm < set.absentThreshold) :
    (f.assessValid set norm).state = .absent ∧ (f.assessValid set norm).dpClean = none ∧
    (f.state ≠ .learning → (f.assessValid set norm).loadedMarks = 0 ∧ (f.assessValid set norm).blockedMarks = 0) := by
  by_cases hlearning : f.state = .learning
  · rw [assessValid_of_learning set hlearning, learn_of_lt h]
    exact ⟨rfl, rfl, fun hne => absurd hlearning hne⟩
  · rw [assessValid_of_graded set hlearning habsent hchanging, assessGraded_of_lt h]
    exact ⟨rfl, rfl, fun _ => ⟨rfl, rfl⟩⟩

/-- The assessment of a graded filter that is there (R119, R120). -/
theorem assess_of_graded (hat : f.atLimit set = limit) (hdp : dp = f.dpClean.getD 0) (hchanging : f.state ≠ .changing)
    (habsent : f.state ≠ .absent) (hlearning : f.state ≠ .learning) (h : set.absentThreshold ≤ norm)
    (hg : g = f.assessValid set norm) :
    g.dpClean = f.dpClean ∧
    (dp * set.blockedPct / 100 ≤ norm →
      g.loadedMarks = min 3 (f.loadedMarks + 1) ∧ g.blockedMarks = min 3 (f.blockedMarks + 1)) ∧
    (norm < dp * set.blockedPct / 100 → dp * set.loadedPct / 100 ≤ norm →
      g.loadedMarks = min 3 (f.loadedMarks + 1) ∧ g.blockedMarks = 0) ∧
    (norm < dp * set.blockedPct / 100 → norm < dp * set.loadedPct / 100 →
      g.loadedMarks = 0 ∧ g.blockedMarks = 0) ∧
    g.state =
      (if f.state = .blocked ∨ g.blockedMarks = 3 then .blocked
      else if f.state = .loaded ∨ g.loadedMarks = 3 ∨ limit = true then .loaded
      else if f.state = .loading ∨ dp * (100 + set.loadedPct) / 200 ≤ norm then .loading
      else .clean) := by
  have hgraded : f.state = .clean ∨ f.state = .loading ∨ f.state = .loaded ∨ f.state = .blocked := by
    cases hstate : f.state <;> simp_all
  rw [assessValid_of_graded set hlearning habsent hchanging, assessGraded_of_le hgraded h rfl, hat, ← hdp] at hg
  subst hg
  dsimp only
  rw [mark_eq]
  refine ⟨rfl, fun hblocked => ⟨if_pos (.inl hblocked), if_pos hblocked⟩, fun hless hloaded => ⟨if_pos (.inr hloaded),
    if_neg (Nat.not_le.2 hless)⟩, fun hless hlow => ⟨if_neg ?_, if_neg (Nat.not_le.2 hless)⟩, rfl⟩
  exact not_or.2 ⟨Nat.not_le.2 hless, Nat.not_le.2 hlow⟩

end

end FilterRecord

/-- Settles O38: both sides' assessments by their cases, the flags and the plan that they leave, and the save. -/
theorem assessmentJudgesBothFilters : Obligations.AssessmentJudgesBothFilters := by
  intro s hrun
  have hfilter (side : Side) : s.assessedBoth.saveDue.fm.filter side = s.assessed side := by
    rw [State.saveDue_fm, State.assessedBoth_filter]
  refine ⟨_, exec_filterAssessment hrun, ?_, ?_, fun ⟨side, hside⟩ => ?_, fun hsame => ?_, fun hidle hnone => ?_,
    fun hbusy => ?_, ?_, ?_⟩
  · rw [State.assessedBoth_frame]
    unfold State.saveDue State.beginSave
    split <;> rfl
  · rw [State.saveDue_da, State.assessedBoth, State.assessSide_table, State.assessSide_table]
  · have hplan := State.assessedBoth_plan hrun ⟨side, by rwa [hfilter] at hside⟩
    rw [State.saveDue_da, hplan]
    unfold State.planNow State.settings
    rw [State.saveDue_fm, State.saveDue_da, State.saveDue_frame]
    rfl
  · rw [State.saveDue_da, State.saveDue_eu]
    exact State.assessedBoth_same fun side => by rw [← hfilter, hsame]
  · rw [State.saveDue_free (by rw [State.assessedBoth_ss, SettingsStore.free_iff]; exact ⟨hidle, hnone⟩)]
    exact ⟨rfl, rfl⟩
  · have hnot : s.assessedBoth.ss.free = false := by
      rw [State.assessedBoth_ss, Bool.eq_false_iff, Ne, SettingsStore.free_iff, not_and_or]
      exact hbusy.imp_right fun h hnone => by simp [hnone] at h
    rw [State.saveDue_busy hnot]
    have hsaving : s.assessedBoth.ss.saving = s.ss.saving := by rw [State.assessedBoth_ss]
    exact ⟨hsaving, rfl⟩
  · rw [State.saveDue_eu, State.assessedBoth_isSet]
    simp only [hfilter]
    refine or_congr_right ⟨?_, fun h => .inr ⟨trivial, h⟩⟩
    rintro (⟨side, hx, -⟩ | ⟨-, h⟩)
    · cases side <;> exact nomatch hx
    · exact h
  · intro side f g p norm dp limit valid hf hg hp hnorm hdp hlimit hvalid
    rw [hfilter] at hg
    have hp : p = s.channel (filterChannel side) := by cases side <;> exact hp
    have hassess : g = f.assess s.settings s.mc.ready p := by rw [hg, hf, hp]; rfl
    have hat : f.atLimit s.settings = limit := Bool.eq_iff_iff.2 ((f.atLimit_iff _).trans hlimit.symm)
    have hready := (f.readiness_eq_assessed s.settings (ready := s.mc.ready) (pressure := p)).trans hvalid.symm
    refine ⟨?_, ?_, fun hinvalid => ?_, fun hok => ?_⟩
    · obtain ⟨state, dpClean, loadedMarks, blockedMarks, lastAssessment, lastDpNorm, h⟩ :=
        f.assess_frame (set := s.settings) (ready := s.mc.ready) (pressure := p)
      rw [hassess, h]
    · rw [State.saveDue_eu, State.assessedBoth_isSet, hg, hf]
      refine or_congr_right ⟨?_, fun h => .inl ⟨side, rfl, h⟩⟩
      rintro (⟨other, hx, h⟩ | ⟨hx, -⟩)
      · have hother : other = side := by cases side <;> cases other <;> first | rfl | exact nomatch hx
        exact hother ▸ h
      · cases side <;> exact nomatch hx
    · exact FilterRecord.assess_of_not_valid hassess hlimit (fun h => by simp [hready.1 h] at hinvalid)
    · obtain ⟨-, hchanging, -⟩ := hvalid.1 hok
      rw [f.assess_of_assessed s.settings (hready.2 hok)] at hassess
      have hnorm : dpNorm p.filtered s.settings.qref f.steadyFlow = norm := hnorm.symm
      rw [hnorm] at hassess
      subst hassess
      refine ⟨rfl, rfl, fun habsent hlow => ?_, fun hlearning hthere => FilterRecord.assess_of_learning hat hlearning hthere,
        fun habsent hlow => ?_, fun habsent hthere => ?_, fun habsent hlearning hlow => ?_,
        fun habsent hlearning hthere => ?_⟩
      · obtain ⟨h1, h2, -⟩ := FilterRecord.assess_of_missing hchanging habsent hlow
        exact ⟨h1, h2⟩
      · rw [FilterRecord.assessValid_of_absent _ habsent, FilterRecord.assessAbsent, if_pos hlow]
        exact ⟨habsent, rfl⟩
      · rw [FilterRecord.assessValid_of_absent _ habsent, FilterRecord.assessAbsent,
          if_neg (Nat.not_lt.2 hthere)]
        exact ⟨rfl, rfl, rfl, rfl⟩
      · obtain ⟨-, -, h⟩ := FilterRecord.assess_of_missing hchanging habsent hlow
        exact h hlearning
      · exact FilterRecord.assess_of_graded (g := f.assessValid s.settings norm) hat hdp hchanging habsent hlearning hthere rfl

end Sys2Proof.Machine

namespace Sys2Proof.Machine

/-! # The filter change protocol and the season (R122 to R125, R141 to R144) -/

section
variable {s : State} {src : Master} {side : Side} {id : Byte}

/-- The id of a filter (12.2). -/
def filterCode : Side → Byte
  | .supply => 0
  | .extract => 1

@[simp] theorem filterSide_filterCode (side : Side) : filterSide (filterCode side) = some side := by
  cases side <;> rfl

theorem filterSide_eq_none {b : Byte} (h : 2 ≤ b.toNat) : filterSide b = none := by
  have h0 : b ≠ 0 := by rintro rfl; exact absurd h (by decide)
  have h1 : b ≠ 1 := by rintro rfl; exact absurd h (by decide)
  exact (if_neg h0).trans (if_neg h1)

/-! ## A record handed on (R122) -/

/-- A record of another state moves the filter, the plan and the side's flag. -/
theorem State.handOn_changed {g : FilterRecord} (h : g.state ≠ (s.fm.filter side).state) :
    s.handOn side g =
      ({ s with
        fm := s.fm.withFilter side g
        da := (s.setFm (s.fm.withFilter side g)).recomputeCeiling.da } : State).raise (filterFlag side) ∧
    (s.handOn side g).da.table = s.da.table ∧ (s.handOn side g).da.plan = (s.handOn side g).planNow := by
  rw [State.handOn_of_ne h]
  exact ⟨rfl, rfl, rfl⟩

/-! ## The requests on a filter, by the state of its record (R123 to R125) -/

theorem State.filterBegin_begins (h : (s.fm.filter side).state ≠ .changing) :
    s.filterBegin src (filterCode side) = (s.handOn side ((s.fm.filter side).beginChange src), .done) := by
  simp [State.filterBegin, h]

theorem State.filterBegin_renews (h : (s.fm.filter side).state = .changing) (howner : (s.fm.filter side).owner = some src) :
    s.filterBegin src (filterCode side) =
      (s.setFm (s.fm.withFilter side { s.fm.filter side with deadline := some 900 }), .done) := by
  simp [State.filterBegin, h, howner]

theorem State.filterBegin_owned (h : (s.fm.filter side).state = .changing) (howner : (s.fm.filter side).owner ≠ some src) :
    s.filterBegin src (filterCode side) = (s, .owned) := by simp [State.filterBegin, h, howner]

theorem State.filterDone_done (h : (s.fm.filter side).state = .changing) (howner : (s.fm.filter side).owner = some src) :
    s.filterDone src (filterCode side) =
      (((s.handOn side (s.fm.filter side).completeChange).count .filterChanges).saveDue, .done) := by
  simp [State.filterDone, h, howner]

theorem State.filterDone_owned (h : (s.fm.filter side).state = .changing) (howner : (s.fm.filter side).owner ≠ some src) :
    s.filterDone src (filterCode side) = (s, .owned) := by simp [State.filterDone, h, howner]

theorem State.filterDone_inapplicable (h : (s.fm.filter side).state ≠ .changing) :
    s.filterDone src (filterCode side) = (s, .notApplicable) := by simp [State.filterDone, h]

theorem State.filterAbandon_done (h : (s.fm.filter side).state = .changing) (howner : (s.fm.filter side).owner = some src) :
    s.filterAbandon src (filterCode side) = (s.handOn side (s.fm.filter side).abandon, .done) := by
  simp [State.filterAbandon, h, howner]

theorem State.filterAbandon_owned (h : (s.fm.filter side).state = .changing)
    (howner : (s.fm.filter side).owner ≠ some src) : s.filterAbandon src (filterCode side) = (s, .owned) := by
  simp [State.filterAbandon, h, howner]

theorem State.filterAbandon_inapplicable (h : (s.fm.filter side).state ≠ .changing) :
    s.filterAbandon src (filterCode side) = (s, .notApplicable) := by simp [State.filterAbandon, h]

/-- A parameter that is absent or names no filter is refused by a handler that refuses such a code (R136). -/
theorem need_of_none {other : Option Byte} {f : Byte → State × RequestOutcome}
    (hother : ∀ b, other = some b → 2 ≤ b.toNat) (hf : ∀ b, filterSide b = none → f b = (s, .notApplicable)) :
    need s other f = (s, .notApplicable) := by
  cases other with
  | none => rfl
  | some b => exact hf b (filterSide_eq_none (hother b rfl))

theorem State.filterBegin_of_none (h : filterSide id = none) : s.filterBegin src id = (s, .notApplicable) := by
  simp [State.filterBegin, h]

theorem State.filterDone_of_none (h : filterSide id = none) : s.filterDone src id = (s, .notApplicable) := by
  simp [State.filterDone, h]

theorem State.filterAbandon_of_none (h : filterSide id = none) : s.filterAbandon src id = (s, .notApplicable) := by
  simp [State.filterAbandon, h]

/-! ## The three commands -/

theorem exec_filterBegin_accepted {code : Option Byte} (hask : s.CanAsk src .filterBegin) {t : State}
    (h : need s code (s.filterBegin src) = (t, .done)) :
    exec (.filterBegin src code) s =
      .next (t.deliver src { outcome := .done, kindCode := RequestKind.filterBegin.code }) := by
  have hc : requestOf (.filterBegin src code) = some _ := rfl
  exact exec_accepted (k := .filterBegin) hc hask rfl h rfl

theorem exec_filterBegin_refused {code : Option Byte} {o : RequestOutcome} (hask : s.CanAsk src .filterBegin)
    (h : need s code (s.filterBegin src) = (s, o)) (ho : o.isRefusal = true) :
    exec (.filterBegin src code) s =
      .next ((s.count .requestsRefused).deliver src { outcome := o, kindCode := RequestKind.filterBegin.code }) := by
  have hc : requestOf (.filterBegin src code) = some _ := rfl
  exact exec_refused (k := .filterBegin) hc hask rfl h ho

theorem exec_filterDone_accepted {code : Option Byte} (hask : s.CanAsk src .filterDone) {t : State}
    (h : need s code (s.filterDone src) = (t, .done)) :
    exec (.filterDone src code) s =
      .next (t.deliver src { outcome := .done, kindCode := RequestKind.filterDone.code }) := by
  have hc : requestOf (.filterDone src code) = some _ := rfl
  exact exec_accepted (k := .filterDone) hc hask rfl h rfl

theorem exec_filterDone_refused {code : Option Byte} {o : RequestOutcome} (hask : s.CanAsk src .filterDone)
    (h : need s code (s.filterDone src) = (s, o)) (ho : o.isRefusal = true) :
    exec (.filterDone src code) s =
      .next ((s.count .requestsRefused).deliver src { outcome := o, kindCode := RequestKind.filterDone.code }) := by
  have hc : requestOf (.filterDone src code) = some _ := rfl
  exact exec_refused (k := .filterDone) hc hask rfl h ho

theorem exec_filterAbandon_accepted {code : Option Byte} (hask : s.CanAsk src .filterAbandon) {t : State}
    (h : need s code (s.filterAbandon src) = (t, .done)) :
    exec (.filterAbandon src code) s =
      .next (t.deliver src { outcome := .done, kindCode := RequestKind.filterAbandon.code }) := by
  have hc : requestOf (.filterAbandon src code) = some _ := rfl
  exact exec_accepted (k := .filterAbandon) hc hask rfl h rfl

theorem exec_filterAbandon_refused {code : Option Byte} {o : RequestOutcome} (hask : s.CanAsk src .filterAbandon)
    (h : need s code (s.filterAbandon src) = (s, o)) (ho : o.isRefusal = true) :
    exec (.filterAbandon src code) s =
      .next ((s.count .requestsRefused).deliver src { outcome := o, kindCode := RequestKind.filterAbandon.code }) := by
  have hc : requestOf (.filterAbandon src code) = some _ := rfl
  exact exec_refused (k := .filterAbandon) hc hask rfl h ho

/-! ## The deadline (R125) -/

theorem exec_changeDeadlineExpiry_of_stays
    (h : (s.fm.filter side).state ≠ .changing ∨ ∃ n, (s.fm.filter side).deadline = some n ∧ 2 ≤ n) :
    exec (.changeDeadlineExpiry side) s = .next s := by
  refine congrArg Host.Outcome.next ?_
  by_cases hheld : s.phase = .held
  · exact State.unlessHeld_held hheld _
  · rw [State.unlessHeld_of_ne hheld]
    rcases h with h | ⟨n, hn, hlong⟩
    · simp [State.abandonChange, h]
    · simp [FilterRecord.deadlineRuns, hn, hlong]

theorem exec_changeDeadlineExpiry_of_last (hheld : s.phase ≠ .held) (h : (s.fm.filter side).state = .changing)
    (hlast : (s.fm.filter side).deadline = some 1) :
    exec (.changeDeadlineExpiry side) s =
      .next ((s.handOn side (s.fm.filter side).abandon).raise .changeAbandoned) := by
  refine congrArg Host.Outcome.next ((State.unlessHeld_of_ne hheld _).trans ?_)
  simp [FilterRecord.deadlineRuns, hlast, State.abandonChange, h]

/-- A record handed on takes no right to ask. -/
theorem State.CanAsk.handOn {k : RequestKind} (h : s.CanAsk src k) (f : FilterRecord) (x : Flag) :
    ((s.handOn side f).raise x).CanAsk src k := by
  rw [State.handOn_frame]
  exact h

/-- A renewal taken before the expiry leaves the expiry nothing to do (R125). -/
theorem State.renewal_then_expiry (hask : s.CanAsk src .filterBegin) (h : (s.fm.filter side).state = .changing)
    (howner : (s.fm.filter side).owner = some src) :
    ∃ t, exec (.filterBegin src (some (filterCode side))) s = .next t ∧ exec (.changeDeadlineExpiry side) t = .next t ∧
      t.fm.filter side = { s.fm.filter side with deadline := some 900 } := by
  have hfilter (a : Answer) : ((s.setFm (s.fm.withFilter side { s.fm.filter side with deadline := some 900 })).deliver src
      a).fm.filter side = { s.fm.filter side with deadline := some 900 } := by
    rw [State.deliver_fm, State.setFm_fm, Filters.filter_withFilter_self]
  refine ⟨_, exec_filterBegin_accepted hask (State.filterBegin_renews h howner),
    exec_changeDeadlineExpiry_of_stays (.inr ⟨900, ?_, by decide⟩), hfilter _⟩
  rw [hfilter]

/-- A renewal taken after the expiry begins the change again, with the same record (R125). -/
theorem State.expiry_then_renewal {back : FilterState} (hask : s.CanAsk src .filterBegin)
    (h : (s.fm.filter side).state = .changing) (howner : (s.fm.filter side).owner = some src)
    (hlast : (s.fm.filter side).deadline = some 1) (hsaved : (s.fm.filter side).saved = some back)
    (hback : back ≠ .changing) :
    ∃ u v, exec (.changeDeadlineExpiry side) s = .next u ∧
      exec (.filterBegin src (some (filterCode side))) u = .next v ∧
      v.fm.filter side = { s.fm.filter side with deadline := some 900 } := by
  have hheld : s.phase ≠ .held := fun hp => nomatch hp.symm.trans hask.1
  have habandoned : ((s.handOn side (s.fm.filter side).abandon).raise .changeAbandoned).fm.filter side =
      (s.fm.filter side).abandon := by
    rw [State.raise_fm, State.handOn_fm, Filters.filter_withFilter_self]
  have hstate : (s.fm.filter side).abandon.state = back := by simp [FilterRecord.abandon, hsaved]
  refine ⟨_, _, exec_changeDeadlineExpiry_of_last hheld h hlast,
    exec_filterBegin_accepted (hask.handOn _ _) (State.filterBegin_begins (by rwa [habandoned, hstate])), ?_⟩
  rw [State.deliver_fm, State.handOn_fm, Filters.filter_withFilter_self, habandoned]
  generalize hf : s.fm.filter side = f at *
  obtain ⟨⟨state, saved, dpClean, volume, accumulator, runSeconds, runHours, loaded, blocked⟩, flow, count, last, norm,
    owner, deadline⟩ := f
  simp only at h howner hsaved
  simp [FilterRecord.beginChange, FilterRecord.abandon, h, howner, hsaved]

end

/-- Settles O39: each request and the deadline by the state and the owner of the record. -/
theorem changeProtocol : Obligations.ChangeProtocol := by
  intro s src side id f hf hid
  subst hf
  have hid : id = filterCode side := by cases side <;> exact hid
  subst hid
  have habandon {back : FilterState} (hsaved : (s.fm.filter side).saved = some back) :
      (s.fm.filter side).abandon =
        { s.fm.filter side with state := back, saved := none, owner := none, deadline := none } := by
    simp [FilterRecord.abandon, hsaved]
  refine ⟨fun g hg => State.handOn_changed hg,
    fun hask => ⟨fun h => exec_filterBegin_accepted hask (State.filterBegin_begins h),
      fun h howner => exec_filterBegin_accepted hask (State.filterBegin_renews h howner),
      fun h howner => exec_filterBegin_refused hask (State.filterBegin_owned h howner) rfl⟩,
    fun hask => ⟨fun h howner => exec_filterDone_accepted hask (State.filterDone_done h howner),
      fun h howner => exec_filterDone_refused hask (State.filterDone_owned h howner) rfl,
      fun h => exec_filterDone_refused hask (State.filterDone_inapplicable h) rfl⟩,
    fun back hsaved => ⟨fun hask h howner => ?_, fun hheld h hlast => ?_⟩,
    fun hask => ⟨fun h howner => exec_filterAbandon_refused hask (State.filterAbandon_owned h howner) rfl,
      fun h => exec_filterAbandon_refused hask (State.filterAbandon_inapplicable h) rfl⟩,
    exec_changeDeadlineExpiry_of_stays, fun hask h howner => ?_, fun other hother => ⟨fun hask => ?_, fun hask => ?_,
      fun hask => ?_⟩⟩
  · rw [← habandon hsaved]
    exact exec_filterAbandon_accepted hask (State.filterAbandon_done h howner)
  · rw [← habandon hsaved]
    exact exec_changeDeadlineExpiry_of_last hheld h hlast
  · obtain ⟨t, hbegin, hexpiry, hrecord⟩ := State.renewal_then_expiry hask h howner
    exact ⟨t, hbegin, hexpiry, hrecord, fun back hlast hsaved hback =>
      State.expiry_then_renewal hask h howner hlast hsaved hback⟩
  · exact exec_filterBegin_refused hask (need_of_none hother fun _ => State.filterBegin_of_none) rfl
  · exact exec_filterDone_refused hask (need_of_none hother fun _ => State.filterDone_of_none) rfl
  · exact exec_filterAbandon_refused hask (need_of_none hother fun _ => State.filterAbandon_of_none) rfl

/-! ## The season (R141, R143, R144) -/

section
variable {s : State} {src : Master}

theorem SeasonMode.ofCode_eq_none {b : Byte} (h : 2 ≤ b.toNat) : SeasonMode.ofCode b = none := by
  have h0 : b ≠ 0 := by rintro rfl; exact absurd h (by decide)
  have h1 : b ≠ 1 := by rintro rfl; exact absurd h (by decide)
  exact (if_neg h0).trans (if_neg h1)

theorem SeasonMode.ofCode_code (m : SeasonMode) : SeasonMode.ofCode (if m = .summer then 1 else 0) = some m := by
  cases m <;> rfl

theorem exec_setSeason_accepted {code : Option Byte} {o : RequestOutcome} {t : State} (hask : s.CanAsk src .setSeason)
    (h : need s code (s.requestSeason src) = (t, o)) (ho : o.isRefusal = false) :
    exec (.setSeason src code) s = .next (t.deliver src { outcome := o, kindCode := RequestKind.setSeason.code }) := by
  have hc : requestOf (.setSeason src code) = some _ := rfl
  exact exec_accepted (k := .setSeason) hc hask rfl h ho

/-- SET_SEASON is refused while a heating station is observed, and with a code that names no season (R144). -/
theorem State.requestSeason_refused {code : Option Byte}
    (h : s.season.observing = true ∨ (∀ b, code = some b → 2 ≤ b.toNat)) :
    need s code (s.requestSeason src) = (s, .notApplicable) := by
  cases code with
  | none => rfl
  | some b =>
    change s.requestSeason src b = _
    unfold State.requestSeason
    rcases h with h | h
    · cases SeasonMode.ofCode b <;> simp [h]
    · rw [SeasonMode.ofCode_eq_none (h b rfl)]

theorem State.requestSeason_of_free (h : s.season.observing = false) (m : SeasonMode) :
    s.requestSeason src (if m = .summer then 1 else 0) =
      if s.season.mode = m then (s, .doneNothing) else (s.changeSeason m (.master src), .done) := by
  unfold State.requestSeason
  rw [SeasonMode.ofCode_code]
  simp [h]

theorem exec_seasonTimer (h : s.phase ≠ .held) : exec .seasonTimer s = .next s.seasonTick :=
  congrArg Host.Outcome.next (State.unlessHeld_of_ne h _)

theorem State.seasonTick_of_free (h : s.season.observing = false) : s.seasonTick = s := by simp [State.seasonTick, h]

theorem State.seasonTick_ages (h : s.season.observing = true)
    (hstays : s.season.heatCallAge + 1 < 172800 ∨ 172800 ≤ s.season.heatCallAge ∨ s.season.mode = .summer) :
    s.seasonTick = s.setSeason { s.season with heatCallAge := min 172800 (s.season.heatCallAge + 1) } := by
  refine (if_pos h).trans (if_neg ?_)
  rintro ⟨hbefore, hreached, hwinter⟩
  rcases hstays with hstays | hstays | hstays
  · exact absurd hreached (by simp only [seasonLimit]; omega)
  · exact absurd hbefore (Nat.not_lt.2 hstays)
  · exact nomatch hwinter.symm.trans hstays

theorem State.seasonTick_ends (h : s.season.observing = true) (hlast : s.season.heatCallAge + 1 = 172800)
    (hwinter : s.season.mode = .winter) :
    s.seasonTick =
      (s.setSeason { s.season with mode := .summer, heatCallAge := 172800, lastSetBy := .noCall }).raise
        .seasonChanged := by
  have hmin : min seasonLimit (s.season.heatCallAge + 1) = 172800 := by rw [hlast]; rfl
  refine (if_pos h).trans ?_
  dsimp only
  rw [hmin]
  exact if_pos ⟨by simp only [seasonLimit]; omega, rfl, hwinter⟩

end

/-- Settles O40: SET_SEASON by whether a station is observed, the timer by the age that it reaches. -/
theorem seasonFollowsTheMasterOrTheTimer : Obligations.SeasonFollowsTheMasterOrTheTimer := by
  refine ⟨fun s src hask => ⟨fun m => ⟨fun hfree hmode => ?_, fun hfree hmode => ?_⟩, fun code h => ?_⟩,
    fun s hheld => ⟨fun hfree => ?_, fun hobserved => ⟨fun h => ?_, fun hlast hwinter => ?_⟩⟩⟩
  · exact exec_setSeason_accepted hask ((State.requestSeason_of_free hfree m).trans (if_pos hmode)) rfl
  · exact exec_setSeason_accepted hask ((State.requestSeason_of_free hfree m).trans (if_neg hmode)) rfl
  · have hc : requestOf (.setSeason src code) = some _ := rfl
    exact exec_refused (k := .setSeason) hc hask rfl (State.requestSeason_refused h) rfl
  · rw [exec_seasonTimer hheld, State.seasonTick_of_free hfree]
  · rw [exec_seasonTimer hheld, State.seasonTick_ages hobserved h]
  · rw [exec_seasonTimer hheld, State.seasonTick_ends hobserved hlast hwinter]

end Sys2Proof.Machine

namespace Sys2Proof.Machine

/-! # The room link: rounds and calls (R148, R150, R156, R157) -/

/-! ## Bits of a byte (R192) -/

theorem bitAt_eq (b : Bool) (place : Nat) : bitAt b place = b.toNat * 2 ^ place := by cases b <;> simp [bitAt]

theorem markBits_cons (m : Bool) (l : List Bool) : markBits (m :: l) = m.toNat + 2 * markBits l := by
  cases m <;> rfl

theorem markBits_nil : markBits [] = 0 := rfl

/-! ## The next address that is due -/

theorem nextDue_eq_none {due : Fin 15 → Bool} {l : List (Fin 15)} : nextDue due l = none ↔ ∀ i ∈ l, due i = false := by
  induction l with
  | nil => simp [nextDue]
  | cons i l ih =>
    unfold nextDue
    cases hi : due i <;> simp [hi, ih]

theorem nextDue_append {due : Fin 15 → Bool} {before : List (Fin 15)} {i : Fin 15} (after : List (Fin 15))
    (hbefore : ∀ x ∈ before, due x = false) (hi : due i = true) :
    nextDue due (before ++ i :: after) = some (i, after) := by
  induction before with
  | nil => simp [nextDue, hi]
  | cons x before ih =>
    have hx := hbefore x List.mem_cons_self
    simp [nextDue, hx, ih fun y hy => hbefore y (List.mem_cons_of_mem x hy)]

section
variable {s : State}

/-- An address is due in a round by its state (R148). -/
theorem State.due_iff (s : State) (i : Fin 15) :
    s.due i = true ↔ s.settings.pollList.getLsbD (i.val + 1) = true ∧
      ((s.slot i).state = .unknown ∨ (s.slot i).state = .present ∨
        ((s.slot i).state = .missing ∧ s.rl.roundCounter % 8 = 0) ∨
        ((s.slot i).state = .lost ∧ s.rl.roundCounter = 0)) := by
  unfold State.due Settings.listed
  cases (s.slot i).state <;> simp

theorem Settings.pollSlots_sorted (set : Settings) : set.pollSlots.Pairwise (· < ·) :=
  (List.pairwise_lt_finRange 15).filter _

theorem Settings.mem_pollSlots (set : Settings) (i : Fin 15) :
    i ∈ set.pollSlots ↔ set.pollList.getLsbD (i.val + 1) = true := by
  simp [Settings.pollSlots, Settings.listed]

/-! ## The commands of a round -/

theorem exec_pollRoundStart_of_over (hrun : s.phase = .running) (h : s.roundOver = true) :
    exec .pollRoundStart s =
      .next (s.setRl { s.rl with
        roundCounter := (s.rl.roundCounter + 1) % 32
        round := s.settings.pollSlots }) :=
  congrArg Host.Outcome.next ((State.whenRunning_of hrun _).trans (if_pos h))

theorem exec_pollRoundStart_of_not_over (hrun : s.phase = .running) (h : s.roundOver = false) :
    exec .pollRoundStart s = .next s :=
  congrArg Host.Outcome.next ((State.whenRunning_of hrun _).trans (if_neg (by simp [h])))

theorem State.roundOver_iff (s : State) :
    s.roundOver = true ↔ s.rl.feed = true ∧ s.rl.stage = .idle ∧ ∀ i ∈ s.rl.round, s.due i = false := by
  simp [State.roundOver, ← nextDue_eq_none, Option.isNone_iff_eq_none, and_assoc]

theorem exec_pollStart (hrun : s.phase = .running) (hfeed : s.rl.feed = true) (hidle : s.rl.stage = .idle) {i : Fin 15}
    {after : List (Fin 15)} (h : nextDue s.due s.rl.round = some (i, after)) :
    exec .pollStart s =
      .next (s.setRl { s.rl with
        round := after
        stage := .calling i
        digest := s.digestCommon
        callFrame := s.callTo i }) := by
  refine congrArg Host.Outcome.next ((State.whenRunning_of hrun _).trans ((if_pos (by simp [hfeed, hidle])).trans ?_))
  rw [h]

theorem exec_pollStart_of_none (hrun : s.phase = .running) (h : nextDue s.due s.rl.round = none) :
    exec .pollStart s = .next s := by
  refine congrArg Host.Outcome.next ((State.whenRunning_of hrun _).trans ?_)
  rw [h]
  exact ite_self s

theorem exec_pollStart_of_busy (hrun : s.phase = .running) (h : s.rl.feed = false ∨ s.rl.stage ≠ .idle) :
    exec .pollStart s = .next s := by
  refine congrArg Host.Outcome.next ((State.whenRunning_of hrun _).trans (if_neg ?_))
  rcases h with h | h <;> simp [h]

theorem exec_callSent (hrun : s.phase = .running) {i : Fin 15} (h : s.rl.stage = .calling i) :
    exec .callSent s =
      .next (s.setRl { s.rl with
        stage := .window i
        slots := s.rl.slots.set i.val { s.slot i with lastOutcome := none } }) := by
  refine congrArg Host.Outcome.next ((State.whenRunning_of hrun _).trans ?_)
  rw [h]
  rfl

theorem exec_callSent_of_not_calling (hrun : s.phase = .running) (h : ∀ i, s.rl.stage ≠ .calling i) :
    exec .callSent s = .next s := by
  refine congrArg Host.Outcome.next ((State.whenRunning_of hrun _).trans ?_)
  cases hstage : s.rl.stage with
  | calling i => exact absurd hstage (h i)
  | idle => rfl
  | window i => rfl

/-! ## The CALL's frame and the digest (12.1) -/

theorem State.callTo_eq (s : State) (i : Fin 15) {covered : List Byte}
    (h : covered = [byteOf (16 * (i.val + 1)), 0xC1, 12] ++ s.digestCommon ++ answerBytes (s.slot i).lastOutcome) :
    s.callTo i = [0xA9] ++ covered ++ [crc8 covered] := by
  have hlength : (s.digestCommon ++ answerBytes (s.slot i).lastOutcome).length = 12 := by
    cases (s.slot i).lastOutcome <;> rfl
  have hcovered : covered = [byteOf (16 * (i.val + 1)), callKind,
      byteOf (s.digestCommon ++ answerBytes (s.slot i).lastOutcome).length] ++
        (s.digestCommon ++ answerBytes (s.slot i).lastOutcome) := by
    rw [h, hlength, List.append_assoc]
    rfl
  rw [hcovered]
  rfl

/-- Both fans' bits and the damper's of the fault summary. -/
theorem faultBits_eq (supply extract : FanRecord) (fault : Bool) :
    byteOf (supply.faultBits + 8 * extract.faultBits + bitAt fault 6) =
      bitRow
        [supply.state == .lockedOut, supply.state == .stalled, supply.flowLimited,
         extract.state == .lockedOut, extract.state == .stalled, extract.flowLimited, fault] := by
  rw [← markBits_eq]
  congr 1
  simp only [FanRecord.faultBits, bitAt_eq, markBits_cons, markBits_nil]
  omega

theorem State.failedBits_eq (s : State) :
    byteOf s.mc.failedBits = bitRow ((List.finRange 8).map fun n => (s.channel n).state == .failed) := by
  rw [← markBits_eq]
  refine congrArg (fun l => byteOf (markBits l)) ?_
  exact List.ext_getElem (by simp) fun n h1 h2 => by simp [State.channel]

theorem State.digestCommon_eq (s : State) :
    s.digestCommon =
      little s.da.plan.target ++ little s.ae.supply.qr ++ little s.ae.extract.qr ++
      [ BitVec.ofNat 8 (reasonCodes.idxOf s.da.plan.reason + 16 * frostCodes.idxOf s.fg.state +
          (if s.season.mode = .summer then 128 else 0)),
        BitVec.ofNat 8 (filterCodes.idxOf s.fm.supply.state + 16 * filterCodes.idxOf s.fm.extract.state),
        bitRow
          [s.ae.supply.state == .lockedOut, s.ae.supply.state == .stalled, s.ae.supply.flowLimited,
           s.ae.extract.state == .lockedOut, s.ae.extract.state == .stalled, s.ae.extract.flowLimited,
           s.damper.state == .fault],
        bitRow ((List.finRange 8).map fun n => (s.channel n).state == .failed) ] := by
  have hseason : bitAt (s.season.mode == .summer) 7 = if s.season.mode = .summer then 128 else 0 := by
    cases s.season.mode <;> rfl
  unfold State.digestCommon
  rw [field16_eq, field16_eq, field16_eq, Reason.code_eq, FrostState.code_eq, FilterState.code_eq,
    FilterState.code_eq, faultBits_eq, State.failedBits_eq, hseason]
  rfl

end

/-- Settles O41: rounds, calls and their frames, then the digest byte by byte. -/
theorem pollRoundsCallTheDueAddresses : Obligations.PollRoundsCallTheDueAddresses := by
  refine ⟨fun s hrun => ⟨s.due_iff, fun hfeed hidle => ⟨fun hnone => ⟨?_, s.settings.pollSlots,
    s.settings.pollSlots_sorted, s.settings.mem_pollSlots, ?_⟩, fun before i after hround hbefore hi => ⟨?_,
    fun covered hcovered => ?_⟩⟩, fun i hcalling => exec_callSent hrun hcalling, fun hbusy => ⟨?_, ?_⟩,
    exec_callSent_of_not_calling hrun⟩, State.digestCommon_eq, rfl, fun a => ?_⟩
  · exact exec_pollStart_of_none hrun (nextDue_eq_none.2 hnone)
  · exact exec_pollRoundStart_of_over hrun (s.roundOver_iff.2 ⟨hfeed, hidle, hnone⟩)
  · refine exec_pollRoundStart_of_not_over hrun (Bool.eq_false_iff.2 fun hover => ?_)
    obtain ⟨-, -, hnone⟩ := s.roundOver_iff.1 hover
    exact absurd (hnone i (by simp [hround])) (by simp [hi])
  · rw [exec_pollStart hrun hfeed hidle (by rw [hround]; exact nextDue_append after hbefore hi),
      s.callTo_eq i hcovered]
  · refine exec_pollRoundStart_of_not_over hrun (Bool.eq_false_iff.2 fun hover => ?_)
    obtain ⟨hfeed, hidle, -⟩ := s.roundOver_iff.1 hover
    exact hbusy.elim (fun h => by simp [h] at hfeed) fun h => h hidle
  · exact exec_pollStart_of_busy hrun hbusy
  · simp [answerBytes, RequestOutcome.code_eq, byteOf]

end Sys2Proof.Machine

namespace Sys2Proof.Machine

/-! # The room link: misses and losses (R151, R159 to R162) -/

section
variable {s : State} {i : Fin 15}

/-! ## A loss (R162) -/

/-- A flag that the reports of a loss do not raise. -/
def Flag.QuietAtLoss (x : Flag) : Prop := x ≠ .supFilterState ∧ x ≠ .extFilterState ∧ x ≠ .changeAbandoned

theorem State.abandonOwned_isSet {x : Flag} (hx : x.QuietAtLoss) (s : State) (side : Side) (m : Master) :
    (s.abandonOwned side m).eu.isSet x = s.eu.isSet x := by
  obtain ⟨hsupply, hextract, habandoned⟩ := hx
  have hside : x ≠ filterFlag side := by cases side <;> assumption
  unfold State.abandonOwned State.abandonChange
  split
  · dsimp only
    split
    · rw [State.raise_eu, EventUnit.isSet_raise, Bool.eq_iff_iff, Bool.or_eq_true, State.handOn_isSet]
      simp [hside, habandoned]
    · rfl
  · rfl

theorem State.reportLoss_isSet {x : Flag} (hx : x.QuietAtLoss) (s : State) (i : Fin 15) :
    (s.reportLoss i).eu.isSet x = s.eu.isSet x := by
  have hheld (t : State) : ((if h : i.val < 4 then t.clearStation ⟨i.val, h⟩ else t) : State).eu = t.eu := by
    split <;> rfl
  have hseason (t : State) : (if i.val + 1 = s.settings.heatAddress then t.judgeObservation else t).eu = t.eu := by
    split <;> rfl
  unfold State.reportLoss
  rw [hseason, hheld]
  cases slotMaster i with
  | none => rfl
  | some m => rw [State.abandonOwned_isSet hx, State.abandonOwned_isSet hx]; rfl

theorem State.enterLost_isSet {x : Flag} (hx : x.QuietAtLoss) (s : State) (i : Fin 15) :
    (s.enterLost i).eu.isSet x = s.eu.isSet x := State.reportLoss_isSet hx _ _

theorem Flag.stationLost_quietAtLoss : Flag.QuietAtLoss .stationLost := ⟨by decide, by decide, by decide⟩

theorem State.enterLost_rl (s : State) (i : Fin 15) :
    (s.enterLost i).rl = { s.rl with slots := setAt s.rl.slots i Slot.lost } := by
  rw [State.enterLost, State.reportLoss_rl]
  rfl

theorem State.enterLost_slot_self (s : State) (i : Fin 15) : (s.enterLost i).slot i = Slot.lost := by
  rw [State.enterLost_slot, if_pos rfl]

theorem State.enterLost_slot_ne (s : State) {i j : Fin 15} (h : j ≠ i) : (s.enterLost i).slot j = s.slot j := by
  rw [State.enterLost_slot, if_neg h]

theorem State.enterLost_holdsNothing (h : s.ChangesCoherent) {m : Master} (hi : slotMaster i = some m) :
    (s.enterLost i).HoldsNothing m :=
  State.reportLoss_holdsNothing (s := s.withSlot i Slot.lost) (h.same rfl rfl) hi

/-! ## An address that leaves the list (R149) -/

theorem State.leaveList_of_lost (h : (s.slot i).state = .lost) : s.leaveList i = s := by simp [State.leaveList, h]

/-- A slot that is not LOST is lost, with STATION_LOST for one that was PRESENT or MISSING. -/
theorem State.leaveList_of_ne (h : (s.slot i).state ≠ .lost) :
    s.leaveList i = s.enterLost i ∧ (s.slot i).state = .unknown ∨
    s.leaveList i = (s.enterLost i).raise .stationLost ∧
      ((s.slot i).state = .present ∨ (s.slot i).state = .missing) := by
  cases hstate : (s.slot i).state <;> simp_all [State.leaveList]

theorem State.leaveList_slot_ne (s : State) {i j : Fin 15} (h : j ≠ i) : (s.leaveList i).slot j = s.slot j := by
  by_cases hlost : (s.slot i).state = .lost
  · rw [State.leaveList_of_lost hlost]
  · rcases State.leaveList_of_ne hlost with ⟨hleave, -⟩ | ⟨hleave, -⟩ <;> rw [hleave]
    · exact s.enterLost_slot_ne h
    · exact s.enterLost_slot_ne h

theorem State.leaveList_slot_self (h : (s.slot i).state ≠ .lost) : (s.leaveList i).slot i = Slot.lost := by
  rcases State.leaveList_of_ne h with ⟨hleave, -⟩ | ⟨hleave, -⟩ <;> rw [hleave]
  · exact s.enterLost_slot_self i
  · exact s.enterLost_slot_self i

theorem State.leaveList_state (s : State) (i : Fin 15) : ((s.leaveList i).slot i).state = .lost := by
  by_cases hlost : (s.slot i).state = .lost
  · rwa [State.leaveList_of_lost hlost]
  · rw [State.leaveList_slot_self hlost]
    rfl

theorem State.leaveList_rl (s : State) (i : Fin 15) :
    (s.leaveList i).rl = { s.rl with slots := (s.leaveList i).rl.slots } := by
  by_cases hlost : (s.slot i).state = .lost
  · rw [State.leaveList_of_lost hlost]
  · rcases State.leaveList_of_ne hlost with ⟨hleave, -⟩ | ⟨hleave, -⟩ <;> rw [hleave]
    · rw [State.enterLost_rl]
    · rw [State.raise_rl, State.enterLost_rl]

theorem State.leaveList_holdsNothing (hchanges : s.ChangesCoherent) (h : (s.slot i).state ≠ .lost) {m : Master}
    (hi : slotMaster i = some m) : (s.leaveList i).HoldsNothing m := by
  rcases State.leaveList_of_ne h with ⟨hleave, -⟩ | ⟨hleave, -⟩ <;> rw [hleave]
  · exact State.enterLost_holdsNothing hchanges hi
  · exact (State.enterLost_holdsNothing hchanges hi).congr rfl rfl

theorem State.leaveList_stationLost (h : (s.slot i).state = .present ∨ (s.slot i).state = .missing) :
    (s.leaveList i).eu.isSet .stationLost = true := by
  rcases State.leaveList_of_ne (s := s) (i := i) (by rcases h with h | h <;> simp [h]) with ⟨-, hstate⟩ | ⟨hleave, -⟩
  · rw [hstate] at h
    exact nomatch h
  · rw [hleave]
    exact State.raise_isSet_self _ _

/-! ## A miss, by the state of the slot (R151, R159, R160) -/

theorem marks_eq_five {l : List Bool} : l.length = 5 ∧ marks l = 5 ↔ l = [true, true, true, true, true] := by
  constructor
  · rintro ⟨hlength, hmarks⟩
    have hall : ∀ b ∈ l, b = true := fun b hb => (List.count_eq_length.1 (hmarks.trans hlength.symm) b hb).symm
    rw [List.eq_replicate_of_mem hall, hlength]
    rfl
  · rintro rfl
    decide

theorem State.slotMiss_of_unknown (h : (s.slot i).state = .unknown)
    (hwindow : pushWindow 5 true (s.slot i).window ≠ [true, true, true, true, true]) :
    s.slotMiss i = s.withSlot i { s.slot i with window := pushWindow 5 true (s.slot i).window } := by
  unfold State.slotMiss
  simp only [h]
  refine (if_neg (mt marks_eq_five.1 hwindow)).trans ?_
  simp [Slot.note, h]

theorem State.slotMiss_of_fifth (h : (s.slot i).state = .unknown)
    (hwindow : pushWindow 5 true (s.slot i).window = [true, true, true, true, true]) :
    s.slotMiss i = s.enterLost i := by
  unfold State.slotMiss
  simp only [h]
  exact if_pos (marks_eq_five.2 hwindow)

theorem State.slotMiss_of_present (h : (s.slot i).state = .present) :
    s.slotMiss i = (s.count .linkMisses).withSlot i ((s.slot i).note true).judgePresent := by
  unfold State.slotMiss
  simp only [h]

theorem State.slotMiss_of_missing (h : (s.slot i).state = .missing) :
    s.slotMiss i =
      (s.count .linkMisses).withSlot i
        { s.slot i with window := pushWindow 5 true (s.slot i).window, goodRun := 0 } := by
  unfold State.slotMiss
  simp [h, Slot.note]

theorem State.slotMiss_of_lost (h : (s.slot i).state = .lost) : s.slotMiss i = s := by
  unfold State.slotMiss
  simp only [h]

/-- A miss moves the slot, the count of misses and, at a loss, what the loss reports. -/
theorem State.slotMiss_cases (s : State) (i : Fin 15) :
    s.slotMiss i = s.enterLost i ∧ (s.slot i).state = .unknown ∨
    (∃ (e : EventUnit) (x : Slot), s.slotMiss i = (s.setEu e).withSlot i x ∧ (s.slot i).state ≠ .lost ∧
      (x.state = (s.slot i).state ∨ x.state = .missing ∧ (s.slot i).state = .present)) ∨
    s.slotMiss i = s ∧ (s.slot i).state = .lost := by
  cases h : (s.slot i).state with
  | unknown =>
    by_cases hwindow : pushWindow 5 true (s.slot i).window = [true, true, true, true, true]
    · exact .inl ⟨State.slotMiss_of_fifth h hwindow, rfl⟩
    · exact .inr (.inl ⟨s.eu, _, State.slotMiss_of_unknown h hwindow, nofun, .inl h⟩)
  | present =>
    refine .inr (.inl ⟨_, _, State.slotMiss_of_present h, nofun, ?_⟩)
    unfold Slot.judgePresent
    split
    · exact .inr ⟨rfl, rfl⟩
    · exact .inl h
  | missing => exact .inr (.inl ⟨_, _, State.slotMiss_of_missing h, nofun, .inl h⟩)
  | lost => exact .inr (.inr ⟨State.slotMiss_of_lost h, rfl⟩)

theorem State.slotMiss_rl (s : State) (i : Fin 15) : (s.slotMiss i).rl = { s.rl with slots := (s.slotMiss i).rl.slots } := by
  obtain ⟨h, -⟩ | ⟨e, x, h, -⟩ | ⟨h, -⟩ := s.slotMiss_cases i <;> rw [h]
  · rw [State.enterLost_rl]
  · rfl

theorem State.slotMiss_slot_ne (s : State) {i j : Fin 15} (hj : j ≠ i) : (s.slotMiss i).slot j = s.slot j := by
  obtain ⟨h, -⟩ | ⟨e, x, h, -⟩ | ⟨h, -⟩ := s.slotMiss_cases i <;> rw [h]
  · exact s.enterLost_slot_ne hj
  · exact State.slot_withSlot_ne _ hj x

/-! ## The end of a poll (R149) -/

theorem State.endPoll_of_due (s : State) (i : Fin 15) (h : s.rl.lossDue = true) :
    s.endPoll i = (s.setRl { s.rl with stage := .idle, lossDue := false }).leaveList i := by simp [State.endPoll, h]

theorem State.endPoll_rl (s : State) (i : Fin 15) :
    (s.endPoll i).rl.stage = .idle ∧ (s.endPoll i).rl.lossDue = false := by
  cases h : s.rl.lossDue with
  | false =>
    rw [State.endPoll_of_not_due i h]
    exact ⟨rfl, rfl⟩
  | true =>
    rw [State.endPoll_of_due s i h, State.leaveList_rl]
    exact ⟨rfl, rfl⟩

theorem State.endPoll_slot_ne (s : State) {i j : Fin 15} (hj : j ≠ i) : (s.endPoll i).slot j = s.slot j := by
  cases h : s.rl.lossDue with
  | false =>
    rw [State.endPoll_of_not_due i h]
    rfl
  | true =>
    rw [State.endPoll_of_due s i h, State.leaveList_slot_ne _ hj]
    rfl

theorem exec_replyWindowEnd (h : s.Listening i) : exec .replyWindowEnd s = .next (s.missedPoll i) := by
  obtain ⟨hrun, hstage⟩ := h
  refine congrArg Host.Outcome.next ((State.whenRunning_of hrun _).trans ?_)
  rw [hstage]

theorem exec_badReplyEnd (h : s.Listening i) : exec .badReplyEnd s = .next (s.badPoll i) := by
  obtain ⟨hrun, hstage⟩ := h
  refine congrArg Host.Outcome.next ((State.whenRunning_of hrun _).trans ?_)
  rw [hstage]

theorem exec_replyWindowEnd_of_closed (h : ∀ i, s.rl.stage ≠ .window i) : exec .replyWindowEnd s = .next s := by
  refine congrArg Host.Outcome.next (State.whenRunning_cases (P := fun t => t = s) rfl ?_)
  cases hstage : s.rl.stage with
  | window i => exact absurd hstage (h i)
  | idle => rfl
  | calling i => rfl

theorem exec_badReplyEnd_of_closed (h : ∀ i, s.rl.stage ≠ .window i) : exec .badReplyEnd s = .next s := by
  refine congrArg Host.Outcome.next (State.whenRunning_cases (P := fun t => t = s) rfl ?_)
  cases hstage : s.rl.stage with
  | window i => exact absurd hstage (h i)
  | idle => rfl
  | calling i => rfl

theorem State.missedPoll_of_not_due (i : Fin 15) (h : s.rl.lossDue = false) :
    s.missedPoll i = (s.slotMiss i).setRl { (s.slotMiss i).rl with stage := .idle, lossDue := false } :=
  State.endPoll_of_not_due i (by rw [State.slotMiss_rl]; exact h)

theorem State.missedPoll_slot_ne (s : State) {i j : Fin 15} (hj : j ≠ i) : (s.missedPoll i).slot j = s.slot j :=
  ((s.slotMiss i).endPoll_slot_ne hj).trans (s.slotMiss_slot_ne hj)

/-! ## Replies that are misses (R151) -/

theorem State.reply_of_bad {fits : Bool} {address : Byte} {content : State → Fin 15 → State} (h : s.Listening i)
    (hbad : fits = false ∨ address.toNat % 16 ≠ i.val + 1) : s.reply address fits content = s.badPoll i := by
  obtain ⟨hrun, hstage⟩ := h
  refine (State.whenRunning_of hrun _).trans ?_
  rw [hstage]
  refine if_neg ?_
  rcases hbad with hbad | hbad <;> simp [sourceAddress, hbad]

theorem askFits_eq_false {payload : List Byte} (h : payload.length = 0 ∨ 12 < payload.length) :
    askFits payload = false := by
  unfold askFits
  rcases h with h | h
  · simp [h]
  · simp [Nat.not_le.2 h]

/-! ## The slot timer (R158, R161) -/

theorem exec_slotTimer (h : s.phase ≠ .held) :
    exec .slotTimer s = .next ((List.finRange 15).foldl State.slotTick s) :=
  congrArg Host.Outcome.next (State.unlessHeld_of_ne h _)

theorem State.slotTick_of_ne (h : (s.slot i).state ≠ .missing) : s.slotTick i = s := by
  unfold State.slotTick
  dsimp only
  split
  next hmissing => exact absurd hmissing h
  next => rfl

theorem State.slotTick_of_missing (h : (s.slot i).state = .missing) :
    s.slotTick i =
      if 300 ≤ (s.slot i).timeMissing.getD 0 + 1 then (s.enterLost i).raise .stationLost
      else s.withSlot i { s.slot i with timeMissing := some ((s.slot i).timeMissing.getD 0 + 1) } := by
  unfold State.slotTick
  dsimp only
  split
  next => rfl
  next hne => exact absurd h hne

/-- What a slot's tick can do. -/
theorem State.slotTick_cases (s : State) (i : Fin 15) :
    s.slotTick i = s ∨ s.slotTick i = (s.enterLost i).raise .stationLost ∨ ∃ x, s.slotTick i = s.withSlot i x := by
  by_cases h : (s.slot i).state = .missing
  · rw [State.slotTick_of_missing h]
    split
    · exact .inr (.inl rfl)
    · exact .inr (.inr ⟨_, rfl⟩)
  · exact .inl (State.slotTick_of_ne h)

theorem State.slotTick_slot_ne (s : State) {i j : Fin 15} (hj : j ≠ i) : (s.slotTick i).slot j = s.slot j := by
  obtain h | h | ⟨x, h⟩ := s.slotTick_cases i <;> rw [h]
  · exact s.enterLost_slot_ne hj
  · exact State.slot_withSlot_ne _ hj x

theorem State.ChangesCoherent.slotTick (h : s.ChangesCoherent) (i : Fin 15) : (s.slotTick i).ChangesCoherent := by
  obtain htick | htick | ⟨x, htick⟩ := s.slotTick_cases i <;> rw [htick]
  · exact h
  · exact (State.ChangesCoherent.reportLoss (s := s.withSlot i Slot.lost) (h.same rfl rfl) i).same rfl rfl
  · exact h.same rfl rfl

theorem State.HoldsNothing.slotTick {m : Master} (h : s.HoldsNothing m) (i : Fin 15) : (s.slotTick i).HoldsNothing m := by
  obtain htick | htick | ⟨x, htick⟩ := s.slotTick_cases i <;> rw [htick]
  · exact h
  · exact (State.HoldsNothing.reportLoss (s := s.withSlot i Slot.lost) (h.congr rfl rfl) i).congr rfl rfl
  · exact h.congr rfl rfl

theorem State.slotTick_stationLost (h : s.eu.isSet .stationLost = true) (i : Fin 15) :
    (s.slotTick i).eu.isSet .stationLost = true := by
  obtain htick | htick | ⟨x, htick⟩ := s.slotTick_cases i <;> rw [htick]
  · exact h
  · exact State.raise_isSet_self _ _
  · exact h

/-- A predicate that every step of a fold over slots keeps holds after it. -/
theorem foldl_slots_keeps {P : State → Prop} {f : State → Fin 15 → State} {l : List (Fin 15)}
    (hstep : ∀ t, ∀ j ∈ l, P t → P (f t j)) (h : P s) : P (l.foldl f s) := by
  induction l generalizing s with
  | nil => exact h
  | cons j l ih =>
    exact ih (fun t k hk => hstep t k (List.mem_cons_of_mem j hk)) (hstep s j List.mem_cons_self h)

/-- The slots before and after one in the order of a sweep. -/
theorem exists_finRange_split (i : Fin 15) :
    ∃ before after, List.finRange 15 = before ++ i :: after ∧ i ∉ before ∧ i ∉ after := by
  obtain ⟨before, after, h⟩ := List.append_of_mem (List.mem_finRange i)
  have hnodup := List.nodup_finRange 15
  rw [h] at hnodup
  obtain ⟨hi, -⟩ := List.nodup_cons.1 (List.nodup_middle.1 hnodup)
  rw [List.mem_append, not_or] at hi
  exact ⟨before, after, h, hi⟩

/-- A sweep of the timer over other slots leaves a slot. -/
theorem State.foldl_slotTick_slot {l : List (Fin 15)} (hi : i ∉ l) :
    (l.foldl State.slotTick s).slot i = s.slot i :=
  foldl_slots_keeps (P := fun t => t.slot i = s.slot i)
    (fun t _ hj ht => (t.slotTick_slot_ne (ne_of_mem_of_not_mem hj hi).symm).trans ht) rfl

/-- The slot timer at one slot: the ticks before it leave it, and those after it take nothing back. -/
theorem State.slotTimer_at (hchanges : s.ChangesCoherent) (i : Fin 15) {t : State}
    (ht : t = (List.finRange 15).foldl State.slotTick s) :
    ∃ u : State, u.slot i = s.slot i ∧ u.ChangesCoherent ∧ t.slot i = (u.slotTick i).slot i ∧
      ((u.slotTick i).eu.isSet .stationLost = true → t.eu.isSet .stationLost = true) ∧
      ∀ m, (u.slotTick i).HoldsNothing m → t.HoldsNothing m := by
  obtain ⟨before, after, hsplit, hbefore, hafter⟩ := exists_finRange_split i
  rw [hsplit, List.foldl_append, List.foldl_cons] at ht
  subst ht
  refine ⟨before.foldl State.slotTick s, State.foldl_slotTick_slot hbefore,
    foldl_slots_keeps (P := State.ChangesCoherent) (fun _ j _ ht => ht.slotTick j) hchanges, ?_, fun h => ?_,
    fun m h => ?_⟩
  · exact State.foldl_slotTick_slot hafter
  · exact foldl_slots_keeps (P := fun t => t.eu.isSet .stationLost = true)
      (fun t j _ ht => State.slotTick_stationLost ht j) h
  · exact foldl_slots_keeps (P := fun t => t.HoldsNothing m) (fun t j _ ht => ht.slotTick j) h

end

/-- Settles O42: a miss by the state of its slot, the replies that are misses, and the slot timer. -/
theorem silentPartnersGoMissingAndAreLost : Obligations.SilentPartnersGoMissingAndAreLost := by
  refine ⟨?_, ?_, ?_, ?_, ?_⟩
  · intro s i x window hlistening hchanges hdue hx hwindow
    subst hx hwindow
    refine ⟨_, exec_replyWindowEnd hlistening, ?_⟩
    obtain ⟨hstage, hnone⟩ := (s.slotMiss i).endPoll_rl i
    refine ⟨hstage, hnone, fun j hj => s.missedPoll_slot_ne hj, ?_⟩
    rw [State.missedPoll_of_not_due i hdue]
    refine ⟨fun h hwindow => ?_, fun h hwindow => ?_, fun h => ?_, fun h => ?_, fun h => ?_⟩
    · rw [State.slotMiss_of_unknown h hwindow]
      exact ⟨State.slot_withSlot_self _ _ _, rfl⟩
    · rw [State.slotMiss_of_fifth h hwindow]
      exact ⟨s.enterLost_slot_self i, State.enterLost_isSet Flag.stationLost_quietAtLoss s i,
        fun m hm => (State.enterLost_holdsNothing hchanges hm).congr rfl rfl⟩
    · rw [State.slotMiss_of_present h]
      refine ⟨rfl, fun hmarks => ?_, fun hmarks => ?_⟩
      · exact (State.slot_withSlot_self (s.count .linkMisses) i _).trans (if_neg (Nat.not_le.2 hmarks))
      · exact (State.slot_withSlot_self (s.count .linkMisses) i _).trans (if_pos hmarks)
    · rw [State.slotMiss_of_missing h]
      exact ⟨rfl, State.slot_withSlot_self (s.count .linkMisses) i _⟩
    · rw [State.slotMiss_of_lost h]
      exact ⟨rfl, rfl⟩
  · intro s i hlistening hchanges hdue
    refine ⟨_, exec_replyWindowEnd hlistening, ?_⟩
    obtain ⟨hstage, hnone⟩ := (s.slotMiss i).endPoll_rl i
    have hend : s.missedPoll i =
        ((s.slotMiss i).setRl { (s.slotMiss i).rl with stage := .idle, lossDue := false }).leaveList i :=
      State.endPoll_of_due _ i (by rw [State.slotMiss_rl]; exact hdue)
    refine ⟨hstage, hnone, fun j hj => s.missedPoll_slot_ne hj, ?_⟩
    rw [hend]
    generalize hu : (s.slotMiss i).setRl { (s.slotMiss i).rl with stage := .idle, lossDue := false } = u
    have hslot : u.slot i = (s.slotMiss i).slot i := by rw [← hu]; rfl
    obtain ⟨hmiss, hstate⟩ | ⟨e, x, hmiss, hne, hx⟩ | ⟨hmiss, hstate⟩ := s.slotMiss_cases i
    · have hlost : u.slot i = Slot.lost := by rw [hslot, hmiss, State.enterLost_slot_self]
      rw [State.leaveList_of_lost (s := u) (by rw [hlost]; rfl)]
      refine ⟨fun h => (nomatch hstate.symm.trans h), fun _ => ⟨hlost, fun m hm => ?_⟩, fun h => ?_⟩
      · rw [← hu, hmiss]
        exact (State.enterLost_holdsNothing hchanges hm).congr rfl rfl
      · rw [hstate] at h
        exact nomatch h
    · have hslot : u.slot i = x := by rw [hslot, hmiss, State.slot_withSlot_self]
      have hnot : (u.slot i).state ≠ .lost := by
        rw [hslot]
        rcases hx with hx | ⟨hx, -⟩
        · rwa [hx]
        · rw [hx]
          decide
      refine ⟨fun h => absurd h hne, fun _ => ⟨State.leaveList_slot_self hnot, fun m hm =>
        State.leaveList_holdsNothing ?_ hnot hm⟩, fun h => State.leaveList_stationLost ?_⟩
      · rw [← hu, hmiss]
        exact hchanges.same rfl rfl
      · rw [hslot]
        rcases hx with hx | ⟨hx, -⟩
        · rwa [hx]
        · exact .inr hx
    · have hlost : (u.slot i).state = .lost := by rw [hslot, hmiss, hstate]
      rw [State.leaveList_of_lost hlost, hslot, hmiss]
      refine ⟨fun _ => rfl, fun h => absurd hstate h, fun h => ?_⟩
      rw [hstate] at h
      simp at h
  · intro s i hlistening
    refine ⟨_, exec_badReplyEnd hlistening, exec_replyWindowEnd (s := s.count .linkFrameErrors) hlistening,
      fun address payload temperature humidity b => ⟨fun haddress => ⟨?_, ?_, ?_, ?_⟩, fun hlength => ?_⟩⟩
    · exact congrArg Host.Outcome.next (State.reply_of_bad hlistening (.inr haddress))
    · exact congrArg Host.Outcome.next (State.reply_of_bad hlistening (.inr haddress))
    · exact congrArg Host.Outcome.next (State.reply_of_bad hlistening (.inr haddress))
    · exact congrArg Host.Outcome.next (State.reply_of_bad hlistening (.inr haddress))
    · exact congrArg Host.Outcome.next (State.reply_of_bad hlistening (.inl (askFits_eq_false hlength)))
  · intro s h
    exact ⟨exec_replyWindowEnd_of_closed h, exec_badReplyEnd_of_closed h⟩
  · intro s hheld hchanges
    obtain ⟨t, ht⟩ : ∃ t, t = (List.finRange 15).foldl State.slotTick s := ⟨_, rfl⟩
    refine ⟨t, ht ▸ exec_slotTimer hheld, fun i x hx => ?_⟩
    obtain ⟨u, hu, huchanges, hslot, hflag, hnothing⟩ := State.slotTimer_at hchanges i ht
    rw [← hu] at hx
    subst hx
    rw [hslot]
    refine ⟨fun hne => by rw [State.slotTick_of_ne hne], fun n hmissing hn => ?_⟩
    have htick := State.slotTick_of_missing hmissing
    rw [hn, Option.getD_some] at htick
    refine ⟨fun hshort => ?_, fun hlong => ?_⟩
    · rw [if_neg (Nat.not_le.2 hshort)] at htick
      rw [htick, State.slot_withSlot_self]
    · rw [if_pos hlong] at htick
      rw [htick] at hflag hnothing ⊢
      exact ⟨u.enterLost_slot_self i, hflag (State.raise_isSet_self _ _),
        fun m hm => hnothing m ((State.enterLost_holdsNothing huchanges hm).congr rfl rfl)⟩

end Sys2Proof.Machine

namespace Sys2Proof.Machine

/-! # The room link: good replies (R152, R154, R155, R159, R160, R163) -/

section
variable {s : State} {i : Fin 15}

/-! ## A good reply, by the state of the slot -/

theorem State.slotGood_of_unknown (h : (s.slot i).state = .unknown) :
    s.slotGood i = s.withSlot i (s.slot i).enterPresent := by
  unfold State.slotGood
  simp only [h]

theorem State.slotGood_of_present (h : (s.slot i).state = .present) :
    s.slotGood i = s.withSlot i ((s.slot i).note false).judgePresent := by
  unfold State.slotGood
  simp only [h]

theorem State.slotGood_of_missing (h : (s.slot i).state = .missing) :
    s.slotGood i = s.withSlot i (s.slot i).goodInMissing := by
  unfold State.slotGood
  simp only [h]

theorem State.slotGood_of_lost (h : (s.slot i).state = .lost) :
    s.slotGood i = ((s.withSlot i (s.slot i).enterPresent).raise .stationFound).reportFound i := by
  unfold State.slotGood
  simp only [h]

/-- What a good reply can do: the slot alone, and for a LOST slot STATION_FOUND and the season's report. -/
theorem State.slotGood_cases (s : State) (i : Fin 15) :
    ∃ x : Slot, (x.state = .present ∨ x.state = .missing) ∧
      (s.slotGood i = s.withSlot i x ∧ (s.slot i).state ≠ .lost ∨
        s.slotGood i = ((s.withSlot i x).raise .stationFound).reportFound i ∧ (s.slot i).state = .lost) := by
  cases h : (s.slot i).state with
  | unknown => exact ⟨_, .inl rfl, .inl ⟨State.slotGood_of_unknown h, nofun⟩⟩
  | present =>
    refine ⟨_, ?_, .inl ⟨State.slotGood_of_present h, nofun⟩⟩
    unfold Slot.judgePresent
    split
    · exact .inr rfl
    · exact .inl h
  | missing =>
    refine ⟨_, ?_, .inl ⟨State.slotGood_of_missing h, nofun⟩⟩
    unfold Slot.goodInMissing
    split
    · exact .inl rfl
    · exact .inr h
  | lost => exact ⟨_, .inl rfl, .inr ⟨State.slotGood_of_lost h, rfl⟩⟩

theorem State.reportFound_eq (s : State) (i : Fin 15) : ∃ season, s.reportFound i = s.setSeason season := by
  unfold State.reportFound
  split
  · exact ⟨_, rfl⟩
  · exact ⟨s.season, rfl⟩

/-- A good reply moves the slots, the events and the season alone. -/
theorem State.slotGood_frame (s : State) (i : Fin 15) :
    ∃ x eu season, (x.state = .present ∨ x.state = .missing) ∧
      s.slotGood i = { s with rl := { s.rl with slots := setAt s.rl.slots i x }, eu := eu, season := season } := by
  obtain ⟨x, hx, ⟨h, -⟩ | ⟨h, -⟩⟩ := s.slotGood_cases i
  · exact ⟨x, s.eu, s.season, hx, h⟩
  · obtain ⟨season, hseason⟩ := State.reportFound_eq ((s.withSlot i x).raise .stationFound) i
    exact ⟨x, _, season, hx, h.trans hseason⟩

/-! ## The poll closed -/

/-- The state with its poll closed and no loss due. -/
def State.closed (s : State) : State := s.setRl { s.rl with stage := .idle, lossDue := false }

theorem State.reportFound_closed (s : State) (i : Fin 15) : (s.reportFound i).closed = s.closed.reportFound i := by
  unfold State.reportFound
  by_cases h : i.val + 1 = s.settings.heatAddress
  · rw [if_pos h, if_pos (show i.val + 1 = s.closed.settings.heatAddress from h)]
    rfl
  · rw [if_neg h, if_neg (show ¬i.val + 1 = s.closed.settings.heatAddress from h)]

/-- A good reply reads nothing of a loss that is due. -/
theorem State.slotGood_closed (s : State) (i : Fin 15) (due : Bool) :
    ((s.setRl { s.rl with lossDue := due }).slotGood i).closed = (s.slotGood i).closed := by
  have hslot : (s.setRl { s.rl with lossDue := due }).slot i = s.slot i := rfl
  cases h : (s.slot i).state with
  | unknown => rw [State.slotGood_of_unknown h, State.slotGood_of_unknown (hslot ▸ h), hslot]; rfl
  | present => rw [State.slotGood_of_present h, State.slotGood_of_present (hslot ▸ h), hslot]; rfl
  | missing => rw [State.slotGood_of_missing h, State.slotGood_of_missing (hslot ▸ h), hslot]; rfl
  | lost =>
    rw [State.slotGood_of_lost h, State.slotGood_of_lost (hslot ▸ h), hslot]
    rw [State.reportFound_closed, State.reportFound_closed]
    rfl

/-- What the content of a reply leaves as it is: the poll, the slot's state, the filters and the store. -/
structure KeepsPoll (content : State → Fin 15 → State) : Prop where
  closed : ∀ t i, (content t i).closed = content t.closed i
  due : ∀ t i, (content t i).rl.lossDue = t.rl.lossDue
  slotState : ∀ t i, ((content t i).slot i).state = (t.slot i).state
  filters : ∀ t i, (content t i).fm = t.fm
  store : ∀ t i, (content t i).ss = t.ss

theorem keepsPoll_idle : KeepsPoll fun t _ => t := ⟨fun _ _ => rfl, fun _ _ => rfl, fun _ _ => rfl, fun _ _ => rfl, fun _ _ => rfl⟩

theorem State.tellContent_station (temperature humidity : Word16) (flags : Byte) (h : i.val < 4) :
    State.tellContent temperature humidity flags s i =
      (s.withSlot i { s.slot i with tell := some (tellOf temperature humidity flags) }).reportHumidity ⟨i.val, h⟩
        humidity.toNat := dif_pos h

theorem State.tellContent_other (temperature humidity : Word16) (flags : Byte) (h : 4 ≤ i.val) :
    State.tellContent temperature humidity flags s i = s := dif_neg (Nat.not_lt.2 h)

theorem keepsPoll_tell (temperature humidity : Word16) (flags : Byte) :
    KeepsPoll (State.tellContent temperature humidity flags) := by
  have htell (t : State) (i : Fin 15) (h : i.val < 4) := t.tellContent_station (i := i) temperature humidity flags h
  have hother (t : State) (i : Fin 15) (h : ¬i.val < 4) :=
    t.tellContent_other (i := i) temperature humidity flags (Nat.not_lt.1 h)
  refine ⟨fun t i => ?_, fun t i => ?_, fun t i => ?_, fun t i => ?_, fun t i => ?_⟩ <;> by_cases h : i.val < 4
  · rw [htell t i h, htell t.closed i h]; rfl
  · rw [hother t i h, hother t.closed i h]
  · rw [htell t i h]; rfl
  · rw [hother t i h]
  · rw [htell t i h]
    have hslot := State.slot_withSlot_self t i
      { t.slot i with tell := some (tellOf temperature humidity flags) }
    have hstate := congrArg Slot.state hslot
    exact hstate
  · rw [hother t i h]
  · rw [htell t i h]; rfl
  · rw [hother t i h]
  · rw [htell t i h]; rfl
  · rw [hother t i h]

theorem State.heatCall_cases (s : State) (call : Byte) :
    ∃ season eu, s.heatCall call = (s.setSeason season).setEu eu := by
  unfold State.heatCall
  split
  · dsimp only
    split
    · exact ⟨_, _, rfl⟩
    · exact ⟨{ s.season with heatCallAge := 0 }, s.eu, rfl⟩
  · exact ⟨s.season, s.eu, rfl⟩

theorem State.heatContent_cases (call : Byte) (s : State) (i : Fin 15) :
    ∃ season eu, State.heatContent call s i = (s.setSeason season).setEu eu := by
  unfold State.heatContent
  split
  · exact s.heatCall_cases call
  · exact ⟨s.season, s.eu, rfl⟩

theorem keepsPoll_heat (call : Byte) : KeepsPoll (State.heatContent call) := by
  refine ⟨fun t i => ?_, fun t i => ?_, fun t i => ?_, fun t i => ?_, fun t i => ?_⟩
  · unfold State.heatContent State.heatCall
    split
    · rename_i haddress
      rw [if_pos (show i.val + 1 = t.closed.settings.heatAddress from haddress)]
      split
      · rename_i hcall
        rw [if_pos (show (t.closed.season.observing && call == 0x01) = true from hcall)]
        dsimp only
        split
        · rename_i hmode
          rw [if_pos (show t.closed.season.mode = .summer from hmode)]
          rfl
        · rename_i hmode
          rw [if_neg (show ¬t.closed.season.mode = .summer from hmode)]
          rfl
      · rename_i hcall
        rw [if_neg (show ¬(t.closed.season.observing && call == 0x01) = true from hcall)]
    · rename_i haddress
      rw [if_neg (show ¬i.val + 1 = t.closed.settings.heatAddress from haddress)]
  all_goals
    obtain ⟨season, eu, h⟩ := State.heatContent_cases call t i
    rw [h]
    rfl

/-! ## A good reply at the state (R152) -/

theorem State.reply_of_good {address : Byte} {content : State → Fin 15 → State} (h : s.Listening i)
    (haddress : address.toNat % 16 = i.val + 1) :
    s.reply address true content = (content (s.slotGood i) i).endPoll i := by
  obtain ⟨hrun, hstage⟩ := h
  refine (State.whenRunning_of hrun _).trans ?_
  rw [hstage]
  exact if_pos (by simp [sourceAddress, haddress])

/-- With no loss due, the content is taken on the slot's new state, and the poll is closed. -/
theorem State.reply_of_good_not_due {address : Byte} {content : State → Fin 15 → State} (hcontent : KeepsPoll content)
    (h : s.Listening i) (haddress : address.toNat % 16 = i.val + 1) (hdue : s.rl.lossDue = false) :
    s.reply address true content = content (s.slotGood i).closed i := by
  have hkept : (content (s.slotGood i) i).rl.lossDue = false := by
    rw [hcontent.due]
    obtain ⟨x, eu, season, -, hgood⟩ := s.slotGood_frame i
    rw [hgood]
    exact hdue
  rw [State.reply_of_good h haddress, State.endPoll_of_not_due i hkept]
  exact hcontent.closed _ _

/-- With a loss due, the address is lost after that (R149). -/
theorem State.reply_of_good_due {address : Byte} {content : State → Fin 15 → State} (hcontent : KeepsPoll content)
    (h : s.Listening i) (haddress : address.toNat % 16 = i.val + 1) (hdue : s.rl.lossDue = true) :
    s.reply address true content = (content (s.slotGood i).closed i).leaveList i := by
  have hkept : (content (s.slotGood i) i).rl.lossDue = true := by
    rw [hcontent.due]
    obtain ⟨x, eu, season, -, hgood⟩ := s.slotGood_frame i
    rw [hgood]
    exact hdue
  rw [State.reply_of_good h haddress, State.endPoll_of_due _ i hkept]
  exact congrArg (State.leaveList · i) (hcontent.closed _ _)

/-! ## The slot that a good reply leaves -/

theorem State.slotGood_slot_ne (s : State) {i j : Fin 15} (hj : j ≠ i) : (s.slotGood i).closed.slot j = s.slot j := by
  obtain ⟨x, eu, season, -, h⟩ := s.slotGood_frame i
  rw [h]
  exact State.slot_withSlot_ne s hj x

theorem State.slotGood_slot_state (s : State) (i : Fin 15) :
    ((s.slotGood i).closed.slot i).state = .present ∨ ((s.slotGood i).closed.slot i).state = .missing := by
  obtain ⟨x, eu, season, hx, h⟩ := s.slotGood_frame i
  have hslot : (s.slotGood i).closed.slot i = x := by
    rw [h]
    exact State.slot_withSlot_self s i x
  rwa [hslot]

/-- A slot that is not LOST is all that its good reply moves. -/
theorem State.slotGood_quiet (h : (s.slot i).state ≠ .lost) :
    (s.slotGood i).closed.eu = s.eu ∧ (s.slotGood i).closed.season = s.season := by
  obtain ⟨x, -, ⟨hgood, -⟩ | ⟨-, hlost⟩⟩ := s.slotGood_cases i
  · rw [hgood]
    exact ⟨rfl, rfl⟩
  · exact absurd hlost h

theorem State.slotGood_enters
    (h : (s.slot i).state = .unknown ∨ (s.slot i).state = .lost ∨
      ((s.slot i).state = .missing ∧ 1 ≤ (s.slot i).goodRun)) :
    (s.slotGood i).closed.slot i = (s.slot i).enterPresent := by
  rcases h with h | h | ⟨h, hrun⟩
  · rw [State.slotGood_of_unknown h]
    exact State.slot_withSlot_self s i _
  · rw [State.slotGood_of_lost h]
    obtain ⟨season, hseason⟩ :=
      State.reportFound_eq ((s.withSlot i (s.slot i).enterPresent).raise .stationFound) i
    rw [hseason]
    exact State.slot_withSlot_self s i _
  · rw [State.slotGood_of_missing h, Slot.goodInMissing, if_pos (by omega)]
    exact State.slot_withSlot_self s i _

theorem State.slotGood_first (h : (s.slot i).state = .missing) (hrun : (s.slot i).goodRun = 0) :
    (s.slotGood i).closed.slot i =
      { s.slot i with window := pushWindow 5 false (s.slot i).window, goodRun := 1 } := by
  rw [State.slotGood_of_missing h, Slot.goodInMissing, if_neg (by omega), hrun]
  exact State.slot_withSlot_self s i _

theorem State.slotGood_stays (h : (s.slot i).state = .present)
    (hmarks : marks (pushWindow 5 false (s.slot i).window) < 3) :
    (s.slotGood i).closed.slot i = { s.slot i with window := pushWindow 5 false (s.slot i).window } := by
  rw [State.slotGood_of_present h]
  refine (State.slot_withSlot_self s i _).trans ?_
  exact if_neg (Nat.not_le.2 hmarks)

/-- A LOST slot found: the flag, and the season's observation judged for heat_address (R141, R163). -/
theorem State.slotGood_found (h : (s.slot i).state = .lost) :
    (s.slotGood i).closed.eu = s.eu.raise .stationFound ∧
    (i.val + 1 ≠ s.settings.heatAddress → (s.slotGood i).closed.season = s.season) ∧
    (i.val + 1 = s.settings.heatAddress →
      (s.slotGood i).closed.season.observing = s.settings.seasonObserve ∧
      (s.slotGood i).closed.season.mode = s.season.mode ∧
      (s.settings.seasonObserve = true → s.season.observing = false →
        (s.slotGood i).closed.season.heatCallAge = 0)) := by
  rw [State.slotGood_of_lost h]
  generalize hfound : (s.withSlot i (s.slot i).enterPresent).raise .stationFound = f
  have hslot : f.slot i = (s.slot i).enterPresent := by
    rw [← hfound]
    exact State.slot_withSlot_self s i _
  have hsettings : f.settings = s.settings := by rw [← hfound]; rfl
  have hseason : f.season = s.season := by rw [← hfound]; rfl
  have heu : f.eu = s.eu.raise .stationFound := by rw [← hfound]; rfl
  unfold State.reportFound
  rw [hsettings]
  refine ⟨?_, fun hne => ?_, fun haddress => ?_⟩
  · rw [← heu]
    split <;> rfl
  · rw [if_neg hne]
    exact hseason
  · rw [if_pos haddress]
    have hlost : f.addressLost f.settings.heatAddress = false := by
      have hrange : 1 ≤ i.val + 1 ∧ i.val + 1 ≤ 15 := ⟨by omega, by omega⟩
      unfold State.addressLost
      rw [hsettings, ← haddress, dif_pos hrange]
      have hpresent : f.rl.slots[slotOf (i.val + 1) hrange] = (s.slot i).enterPresent := hslot
      rw [hpresent]
      rfl
    have hobserves : f.observes = s.settings.seasonObserve := by
      rw [State.observes, hlost, hsettings, Bool.not_false, Bool.and_true]
    have hmode : f.season.mode = s.season.mode := by rw [hseason]
    refine ⟨hobserves, hmode, fun hobserve hwas => ?_⟩
    change (if f.observes && !f.season.observing then 0 else f.season.heatCallAge) = 0
    rw [hobserves, hseason, hobserve, hwas]
    rfl

/-! ## The stations' humidity (R109, R110, R154) -/

/-- The window and the verdict that a report leaves (R110). -/
theorem Acceptance.report_spec (a : Acceptance) (value highLimit : Nat) {reports : List Nat}
    (hreports : reports = if 1000 < value then a.reports else pushWindow 4 value a.reports) :
    (a.report value highLimit).reports = reports ∧
    (1000 < value → (a.report value highLimit).humid = a.humid) ∧
    (value ≤ 1000 →
      ((a.report value highLimit).humid = true ↔
        3 ≤ reports.countP (fun v => decide (highLimit ≤ v)) ∨
        (a.humid = true ∧ reports.countP (fun v => decide ((v : Int) < (highLimit : Int) - 50)) < 3))) := by
  by_cases hlarge : 1000 < value
  · rw [if_pos hlarge] at hreports
    have hreport : a.report value highLimit = a := if_pos hlarge
    rw [hreport]
    exact ⟨hreports.symm, fun _ => rfl, fun h => absurd hlarge (Nat.not_lt.2 h)⟩
  · rw [if_neg hlarge] at hreports
    have hreport : a.report value highLimit = Acceptance.judge { a with reports := reports } highLimit := by
      rw [hreports]
      exact if_neg hlarge
    rw [hreport]
    unfold Acceptance.judge
    dsimp only
    split_ifs with hhigh hlow
    · exact ⟨rfl, fun h => absurd h hlarge, fun _ => iff_of_true rfl (.inl hhigh)⟩
    · refine ⟨rfl, fun h => absurd h hlarge, fun _ => iff_of_false (by simp) ?_⟩
      rintro (h | ⟨-, h⟩)
      · exact hhigh h
      · exact absurd hlow (Nat.not_le.2 h)
    · refine ⟨rfl, fun h => absurd h hlarge, fun _ => ⟨fun h => .inr ⟨h, Nat.not_le.1 hlow⟩, ?_⟩⟩
      rintro (h | ⟨h, -⟩)
      · exact absurd h hhigh
      · exact h

/-- A TELL from a station stores its contents in the slot and reports the humidity. -/
theorem State.tellContent_spec {n : Fin 4} (hn : n.val = i.val) (temperature humidity : Word16) (flags : Byte) {t : State}
    (ht : t = State.tellContent temperature humidity flags s i) :
    t = { s with rl := t.rl, hm := { s.hm with stations := t.hm.stations } } ∧
    t.rl = { s.rl with slots := t.rl.slots } ∧ (∀ j : Fin 15, j ≠ i → t.slot j = s.slot j) ∧
    t.slot i = { s.slot i with tell := some (tellOf temperature humidity flags) } ∧
    (∀ m : Fin 4, m ≠ n → t.hm.stations[m] = s.hm.stations[m]) ∧
    t.hm.stations[n] = s.hm.stations[n].report humidity.toNat s.settings.highLimit := by
  have hi : i.val < 4 := hn ▸ n.2
  obtain rfl : n = ⟨i.val, hi⟩ := Fin.ext hn
  rw [State.tellContent_station _ _ _ hi] at ht
  subst ht
  refine ⟨rfl, rfl, fun j hj => ?_, ?_, fun m hm => ?_, ?_⟩
  · exact State.slot_withSlot_ne s hj _
  · exact State.slot_withSlot_self s i _
  · exact getElem_setAt_ne s.hm.stations hm _
  · exact getElem_setAt_self s.hm.stations _ _

/-- A HEAT that is not ON from heat_address while observed is not heard (R142, R155). -/
theorem State.heatContent_unheard {call : Byte}
    (h : i.val + 1 ≠ s.settings.heatAddress ∨ call ≠ 0x01 ∨ s.season.observing = false) :
    State.heatContent call s i = s := by
  unfold State.heatContent State.heatCall
  rcases h with h | h | h
  · exact if_neg h
  · have hcall : (call == 0x01) = false := beq_eq_false_iff_ne.2 h
    simp only [hcall, Bool.and_false, Bool.false_eq_true, if_false, ite_self]
  · simp [h]

theorem State.heatContent_on (haddress : i.val + 1 = s.settings.heatAddress) (h : s.season.observing = true) :
    State.heatContent 0x01 s i =
      if s.season.mode = .summer then
        (s.setSeason { s.season with mode := .winter, heatCallAge := 0, lastSetBy := .heatCall }).raise .seasonChanged
      else s.setSeason { s.season with heatCallAge := 0 } := by
  refine (if_pos haddress).trans ((if_pos (by simp [h])).trans ?_)
  rfl

/-! ## The three replies -/

theorem exec_idleReply (address : Byte) (s : State) :
    exec (.idleReply address) s = .next (s.reply address true fun t _ => t) := rfl

theorem exec_tellReply (address : Byte) (temperature humidity : Word16) (flags : Byte) (s : State) :
    exec (.tellReply address temperature humidity flags) s =
      .next (s.reply address true (State.tellContent temperature humidity flags)) := rfl

theorem exec_heatReply (address call : Byte) (s : State) :
    exec (.heatReply address call) s = .next (s.reply address true (State.heatContent call)) := rfl

/-- Each of the three replies is a reply with a content that keeps the poll. -/
theorem exists_content {reply : Instr} {address call flags : Byte} {temperature humidity : Word16}
    (h : reply ∈ [.idleReply address, .tellReply address temperature humidity flags, .heatReply address call]) :
    ∃ content, KeepsPoll content ∧ ∀ s, exec reply s = .next (s.reply address true content) := by
  simp only [List.mem_cons, List.not_mem_nil, or_false] at h
  rcases h with rfl | rfl | rfl
  · exact ⟨_, keepsPoll_idle, exec_idleReply address⟩
  · exact ⟨_, keepsPoll_tell temperature humidity flags, exec_tellReply address temperature humidity flags⟩
  · exact ⟨_, keepsPoll_heat call, exec_heatReply address call⟩

/-- The acceptance records after an address has left the list (R111). -/
theorem State.leaveList_station (h : (s.slot i).state ≠ .lost) (n : Fin 4) :
    (s.leaveList i).hm.stations[n] = if n.val = i.val then Acceptance.initial else s.hm.stations[n] := by
  have hlost : (s.leaveList i).hm = (s.enterLost i).hm := by
    rcases State.leaveList_of_ne h with ⟨hleave, -⟩ | ⟨hleave, -⟩ <;> rw [hleave]
    rfl
  have hstation := s.enterLost_station i ⟨n.val, by omega⟩ n.2
  have hindex : (⟨n.val, by omega⟩ : Fin 15) = i ↔ n.val = i.val := Fin.ext_iff
  simp only [hindex] at hstation
  rw [hlost]
  exact hstation

end

/-- Settles O43: the slot's new state, then the content, on the state with the poll closed. -/
theorem goodRepliesTakePresenceThenContent : Obligations.GoodRepliesTakePresenceThenContent := by
  constructor
  · intro s i x address hlistening hdue hx haddress
    subst hx
    obtain ⟨u, hu⟩ : ∃ u, u = (s.slotGood i).closed := ⟨_, rfl⟩
    have hframe : ∃ slot eu season, u = { s with
        rl := { s.rl with stage := .idle, lossDue := false, slots := setAt s.rl.slots i slot }
        eu := eu
        season := season } := by
      obtain ⟨slot, eu, season, -, h⟩ := s.slotGood_frame i
      exact ⟨slot, eu, season, by rw [hu, h]; rfl⟩
    have hsettings : u.settings = s.settings := by
      obtain ⟨slot, eu, season, h⟩ := hframe
      rw [h]
      rfl
    have hhm : u.hm = s.hm := by
      obtain ⟨slot, eu, season, h⟩ := hframe
      rw [h]
    have hidle := exec_idleReply address s
    rw [State.reply_of_good_not_due keepsPoll_idle hlistening haddress hdue, ← hu] at hidle
    have htell (temperature humidity : Word16) (flags : Byte) :
        exec (.tellReply address temperature humidity flags) s =
          .next (State.tellContent temperature humidity flags u i) := by
      rw [exec_tellReply, State.reply_of_good_not_due (keepsPoll_tell _ _ _) hlistening haddress hdue, ← hu]
    have hheat (call : Byte) : exec (.heatReply address call) s = .next (State.heatContent call u i) := by
      rw [exec_heatReply, State.reply_of_good_not_due (keepsPoll_heat call) hlistening haddress hdue, ← hu]
    refine ⟨u, hidle, ?_, ?_, fun j hj => hu ▸ s.slotGood_slot_ne hj, fun h => hu ▸ State.slotGood_quiet h,
      fun h => hu ▸ State.slotGood_enters h, fun h => hu ▸ State.slotGood_found h,
      fun h hrun => hu ▸ State.slotGood_first h hrun, fun h hmarks => hu ▸ State.slotGood_stays h hmarks,
      fun temperature humidity flags => ⟨fun hi => ?_, fun n a reports hn ha hreports => ?_⟩,
      fun call => ⟨fun h => ?_, fun hi hobserving => ⟨fun hmode => ?_, fun hmode => ?_⟩⟩⟩
    · rw [hu]
      rfl
    · obtain ⟨slot, eu, season, h⟩ := hframe
      rw [h]
    · rw [htell, State.tellContent_other _ _ _ hi]
    · obtain ⟨hmoved, hrl, hslots, hslot, hstations, hstation⟩ :=
        State.tellContent_spec (s := u) hn temperature humidity flags rfl
      obtain ⟨hwindow, hlarge, hjudged⟩ := a.report_spec humidity.toNat s.settings.highLimit hreports
      rw [hhm, hsettings, ← ha] at hstation
      rw [← hstation] at hwindow hlarge hjudged
      exact ⟨_, htell temperature humidity flags, hhm ▸ hmoved, hrl,
        fun j hj => (hslots j hj).trans (hu ▸ s.slotGood_slot_ne hj), hslot, fun m hm => hhm ▸ hstations m hm,
        hwindow, hlarge, hjudged⟩
    · rw [hheat, State.heatContent_unheard (by rwa [hsettings])]
    · rw [hheat, State.heatContent_on (hsettings ▸ hi) hobserving, if_neg (by simp [hmode])]
    · rw [hheat, State.heatContent_on (hsettings ▸ hi) hobserving, if_pos hmode]
  · intro s i address call flags temperature humidity reply hlistening hchanges hdue haddress hreply
    obtain ⟨content, hcontent, hexec⟩ := exists_content hreply
    obtain ⟨u, hu⟩ : ∃ u, u = content (s.slotGood i).closed i := ⟨_, rfl⟩
    have hbefore : exec reply (s.setRl { s.rl with lossDue := false }) = .next u := by
      rw [hexec, State.reply_of_good_not_due hcontent (by exact hlistening) haddress rfl,
        State.slotGood_closed, hu]
    have hafter : exec reply s = .next (u.leaveList i) := by
      rw [hexec, State.reply_of_good_due hcontent hlistening haddress hdue, hu]
    have hclosed : u = (content (s.slotGood i) i).closed := hu.trans (hcontent.closed _ _).symm
    have hstate : (u.slot i).state = .present ∨ (u.slot i).state = .missing := by
      rw [hu, hcontent.slotState]
      exact s.slotGood_slot_state i
    have hnot : (u.slot i).state ≠ .lost := by rcases hstate with h | h <;> simp [h]
    have hcoherent : u.ChangesCoherent := by
      obtain ⟨slot, eu, season, -, h⟩ := s.slotGood_frame i
      refine hchanges.same ?_ ?_
      · rw [hu, hcontent.filters, h]
        rfl
      · rw [hu, hcontent.store, h]
        rfl
    refine ⟨u, u.leaveList i, hbefore, hafter, ?_, ?_, State.leaveList_slot_self hnot,
      State.leaveList_stationLost hstate, fun m hm => State.leaveList_holdsNothing hcoherent hnot hm,
      fun j hj => u.leaveList_slot_ne hj, fun n hn => ?_, fun n hn => ?_⟩
    · rw [State.leaveList_rl, hclosed]
      rfl
    · rw [State.leaveList_rl, hclosed]
      rfl
    · rw [State.leaveList_station hnot, if_neg hn]
    · rw [State.leaveList_station hnot, if_pos hn]
      rfl

end Sys2Proof.Machine

namespace Sys2Proof.Machine

/-! # The room link: asks (R131, R152, R153, R193) -/

section
variable {s : State} {i : Fin 15}

/-! ## An ASK at the state -/

theorem askFits_eq_true {payload : List Byte} (h : 1 ≤ payload.length) (h' : payload.length ≤ 12) :
    askFits payload = true := by simp [askFits, h, h']

/-- An ASK in its window is taken after the slot, and then the poll ends. -/
theorem exec_askReply {address : Byte} {payload : List Byte} (hlistening : s.Listening i)
    (haddress : address.toNat % 16 = i.val + 1) (h : 1 ≤ payload.length) (h' : payload.length ≤ 12) :
    exec (.askReply address payload) s = .next ((State.askContent payload (s.slotGood i) i).endPoll i) := by
  have hreply := State.reply_of_good (content := State.askContent payload) hlistening haddress
  rw [← askFits_eq_true h h'] at hreply
  exact congrArg Host.Outcome.next hreply

theorem State.askContent_of_none {payload : List Byte} (h : slotMaster i = none) : State.askContent payload s i = s := by
  simp [State.askContent, h]

theorem State.askContent_of_some {payload : List Byte} {m : Master} (h : slotMaster i = some m) :
    State.askContent payload s i = s.submit (Request.ofAsk m payload) := by simp [State.askContent, h]

theorem slotMaster_eq_none (h : 4 ≤ i.val) (h' : i.val < 14) : slotMaster i = none := by
  simp [slotMaster, Nat.not_lt.2 h, h'.ne]

theorem slotMaster_eq_some {m : Master} (h : m = .tool ∧ i = 14 ∨ ∃ n, m = .station n ∧ i.val = n.val) :
    slotMaster i = some m := by
  rcases h with ⟨rfl, rfl⟩ | ⟨n, rfl, hn⟩
  · rfl
  · simp [slotMaster, hn]

end

/-! ## The parameters that a payload holds whole (R193) -/

section
variable {params : List Byte}

theorem presence_take (params : List Byte) (n : Nat) : presence (params.take 8) n = presence params n := by
  simp [presence]

theorem presence_iff (params : List Byte) (n : Nat) :
    presence params n = true ↔ ∃ b, params[0]? = some b ∧ b.getLsbD n = true := by
  unfold presence
  cases params[0]? <;> simp

theorem param8_take {k : Nat} (hk : k < 8) (params : List Byte) (n : Nat) :
    param8 (params.take 8) n k = param8 params n k := by
  simp [param8, presence_take, hk]

theorem param16_take {k : Nat} (hk : k + 1 < 8) (params : List Byte) (n : Nat) :
    param16 (params.take 8) n k = param16 params n k := by
  unfold param16
  rw [param8_take (Nat.lt_of_succ_lt hk), param8_take hk]

theorem param16_eq_some {n k : Nat} {w : Word16} :
    param16 params n k = some w ↔ presence params n = true ∧
      ∃ lo hi, params[k]? = some lo ∧ params[k + 1]? = some hi ∧ w = hi ++ lo := by
  unfold param16 param8
  cases presence params n with
  | false => simp
  | true => cases params[k]? <;> cases params[k + 1]? <;> simp [wordOf, eq_comm]

theorem presence_of_head {b : Byte} (h : params[0]? = some b) (n : Nat) : presence params n = b.getLsbD n := by
  unfold presence
  rw [h]

theorem param8_whole {b x : Byte} {k : Nat} (h : params[0]? = some b) (hx : params[k]? = some x) (n : Nat) :
    param8 params n k = if b.getLsbD n = true then some x else none := by
  rw [param8, presence_of_head h, hx]

theorem param16_whole {b lo hi : Byte} {k : Nat} (h : params[0]? = some b) (hlo : params[k]? = some lo)
    (hhi : params[k + 1]? = some hi) (n : Nat) :
    param16 params n k = if b.getLsbD n = true then some (hi ++ lo) else none := by
  rw [param16, param8_whole h hlo, param8_whole h hhi]
  cases b.getLsbD n <;> rfl

/-! ## The record of each kind (12.2) -/

theorem Request.ofParams_demand (m : Master) (kind : DemandKind) (params : List Byte) :
    Request.ofParams m kind.code params =
      { Request.bare kind.code m with
        demand :=
          { level := param8 params 0 1
            flow := param16 params 1 2
            duration := param16 params 2 4 } } := by
  rw [← param8_take (k := 1) (by decide), ← param16_take (k := 2) (by decide), ← param16_take (k := 4) (by decide)]
  cases kind <;> rfl

theorem Request.ofParams_writeSetting (m : Master) (params : List Byte) :
    Request.ofParams m RequestKind.writeSetting.code params =
      { Request.bare RequestKind.writeSetting.code m with
        settingId := param16 params 0 1
        value := param16 params 1 3 } := by
  rw [← param16_take (k := 1) (by decide), ← param16_take (k := 3) (by decide)]
  rfl

/-- The kinds with one byte parameter at P1, by code. -/
theorem Request.ofParams_withdraw (m : Master) (params : List Byte) :
    Request.ofParams m 0x07 params = { Request.bare 0x07 m with namedKind := param8 params 0 1 } := by
  rw [← param8_take (k := 1) (by decide)]
  rfl

theorem Request.ofParams_filter (m : Master) (params : List Byte) {code : Byte} (h : code ∈ [0x10, 0x11, 0x12]) :
    Request.ofParams m code params = { Request.bare code m with filterId := param8 params 0 1 } := by
  rw [← param8_take (k := 1) (by decide)]
  simp only [List.mem_cons, List.not_mem_nil, or_false] at h
  rcases h with rfl | rfl | rfl <;> rfl

theorem Request.ofParams_setSeason (m : Master) (params : List Byte) :
    Request.ofParams m 0x18 params = { Request.bare 0x18 m with season := param8 params 0 1 } := by
  rw [← param8_take (k := 1) (by decide)]
  rfl

theorem Request.ofParams_clearLockout (m : Master) (params : List Byte) :
    Request.ofParams m 0x20 params = { Request.bare 0x20 m with target := param8 params 0 1 } := by
  rw [← param8_take (k := 1) (by decide)]
  rfl

theorem Request.ofParams_inject (m : Master) (params : List Byte) :
    Request.ofParams m 0x21 params =
      { Request.bare 0x21 m with channel := param8 params 0 1, mode := param8 params 1 2 } := by
  rw [← param8_take (k := 1) (by decide), ← param8_take (k := 2) (by decide)]
  rfl

theorem Request.ofParams_bare (m : Master) (params : List Byte) {code : Byte}
    (h : code = 0x31 ∨ code = 0x32 ∨ (∀ k : RequestKind, k.code ≠ code)) :
    Request.ofParams m code params = Request.bare code m := by
  rcases h with rfl | rfl | h
  · rfl
  · rfl
  · have hnone : RequestKind.ofCode code = none := by
      cases hcode : RequestKind.ofCode code with
      | none => rfl
      | some k => exact absurd (RequestKind.code_of_ofCode hcode) (h k)
    unfold Request.ofParams
    rw [hnone]

end

/-! ## The short form (12.1) -/

theorem Byte.shiftRight_five (b : Byte) : b >>> 5 = BitVec.ofNat 8 (b.toNat / 32) := by
  apply BitVec.eq_of_toNat_eq
  simp [Nat.shiftRight_eq_div_pow]
  omega

theorem Byte.toNat_and_31 (b : Byte) : (b &&& 0x1F).toNat = b.toNat % 32 := by
  rw [BitVec.toNat_and]
  exact Nat.and_two_pow_sub_one_eq_mod b.toNat 5

/-- The level of a demand byte is its three high bits, and its minutes the five low ones. -/
theorem shortForm_eq (b : Byte) :
    shortForm b =
      { level := if b.toNat / 32 = 7 then none else some (BitVec.ofNat 8 (b.toNat / 32))
        flow := none
        duration := if b.toNat % 32 = 0 then none else some (BitVec.ofNat 16 (60 * (b.toNat % 32))) } := by
  have hb := b.isLt
  have hlevel : BitVec.ofNat 8 (b.toNat / 32) = 7 ↔ b.toNat / 32 = 7 := by
    rw [← BitVec.toNat_inj]
    simp
    omega
  have hminutes : b &&& 0x1F = 0 ↔ b.toNat % 32 = 0 := by
    rw [← BitVec.toNat_inj, Byte.toNat_and_31]
    rfl
  have hduration : (b &&& 0x1F).setWidth 16 * 60 = BitVec.ofNat 16 (60 * (b.toNat % 32)) := by
    apply BitVec.eq_of_toNat_eq
    rw [BitVec.toNat_mul, BitVec.toNat_setWidth, Byte.toNat_and_31]
    simp
    omega
  unfold shortForm
  simp only [Byte.shiftRight_five, hlevel, hminutes, hduration]

theorem isDemandCode_code (kind : DemandKind) : isDemandCode kind.code = true := by cases kind <;> rfl

theorem isDemandCode_eq_false {code : Byte} (h : ∀ kind : DemandKind, kind.code ≠ code) : isDemandCode code = false := by
  unfold isDemandCode
  cases hcode : DemandKind.ofCode code with
  | none => rfl
  | some kind => exact absurd (DemandKind.code_of_ofCode hcode) (h kind)

theorem Request.ofAsk_shortForm (m : Master) (kind : DemandKind) (b : Byte) :
    Request.ofAsk m [kind.code, b] = { Request.bare kind.code m with demand := shortForm b } :=
  if_pos (isDemandCode_code kind)

/-- A payload that is not a short form is read as P0 and its parameters. -/
theorem Request.ofAsk_params (m : Master) {code : Byte} {params : List Byte}
    (h : params.length ≠ 1 ∨ (∀ kind : DemandKind, kind.code ≠ code)) :
    Request.ofAsk m (code :: params) = Request.ofParams m code params := by
  match params, h with
  | [], _ => rfl
  | [b], .inl h => exact absurd rfl h
  | [b], .inr h => exact if_neg (by simp [isDemandCode_eq_false h])
  | _ :: _ :: _, _ => rfl

/-- Settles O44: the request that an ASK becomes at its address, and the record formed from its bytes. -/
theorem asksBecomeRequests : Obligations.AsksBecomeRequests := by
  refine ⟨?_, fun m kind b => ?_, fun m kind p0 p1 p2 p3 p4 p5 rest => ?_, fun m p0 p1 p2 p3 p4 rest => ?_,
    fun m code params => ⟨Request.ofAsk_params m, ?_⟩, fun kind => by cases kind <;> rfl⟩
  · intro s i address payload hlistening haddress hmin hmax
    refine ⟨fun hlow hhigh => ⟨_, exec_askReply hlistening haddress hmin hmax, ?_⟩, fun m u hm hu => ?_⟩
    · rw [State.askContent_of_none (slotMaster_eq_none hlow hhigh), exec_idleReply,
        State.reply_of_good hlistening haddress]
    · have hask := exec_askReply (payload := payload) hlistening haddress hmin hmax
      rw [State.askContent_of_some (slotMaster_eq_some hm), ← hu] at hask
      refine ⟨fun hdue => ?_, fun hdue => ⟨_, hask, (u.endPoll_rl i).1, ?_⟩⟩
      · rw [hask, State.endPoll_of_not_due i hdue]
      · rw [State.endPoll_of_due u i hdue]
        exact State.leaveList_state _ i
  · rw [Request.ofAsk_shortForm, shortForm_eq]
  · rw [Request.ofAsk_params m (.inl (by simp)), Request.ofParams_demand]
    rw [param8_whole rfl rfl, param16_whole rfl rfl rfl, param16_whole rfl rfl rfl]
  · rw [Request.ofAsk_params m (.inl (by simp)), Request.ofParams_writeSetting]
    rw [param16_whole rfl rfl rfl, param16_whole rfl rfl rfl]
  · intro has one two r hhas hone htwo hr
    subst hr
    have hpresent (n : Nat) : presence params n = has n := Bool.eq_iff_iff.2 ((presence_iff params n).trans (hhas n).symm)
    have hone (n k : Nat) : one n k = param8 params n k := by rw [hone, ← hpresent]; rfl
    have htwo (n k : Nat) : two n k = param16 params n k := by
      refine Option.ext fun w => ?_
      rw [htwo, param16_eq_some, hpresent]
    rw [hone, hone, htwo, htwo, htwo, htwo]
    refine ⟨?_, ?_, fun h => Request.ofParams_filter m params h, ?_, ?_, ?_, ?_, fun h => Request.ofParams_bare m params h⟩
    · rintro kind rfl
      exact Request.ofParams_demand m kind params
    · rintro rfl
      exact Request.ofParams_withdraw m params
    · rintro rfl
      exact Request.ofParams_setSeason m params
    · rintro rfl
      exact Request.ofParams_clearLockout m params
    · rintro rfl
      exact Request.ofParams_inject m params
    · rintro rfl
      exact Request.ofParams_writeSetting m params

end Sys2Proof.Machine

/-! SUPPORT. The local port: what the handler of a request leaves of it, its registers by their offsets (12.4), and
then the obligations O45 (addressing and the end of a transaction) and O46 (writes). -/

namespace Sys2Proof.Machine

/-! ## A request leaves the port's record (R136, R137) -/

section
variable {s t : State}

theorem State.demand_lp (s : State) (src : Master) (kind : DemandKind) (p : DemandParams) :
    (s.demand src kind p).1.lp = s.lp := by
  unfold State.demand
  split
  · rfl
  · dsimp only
    split <;> rfl

theorem State.withdraw_lp (s : State) (src : Master) (code : Byte) : (s.withdraw src code).1.lp = s.lp := by
  unfold State.withdraw
  split
  · rfl
  · split <;> rfl

theorem State.filterBegin_lp (s : State) (src : Master) (code : Byte) : (s.filterBegin src code).1.lp = s.lp := by
  unfold State.filterBegin
  split
  · rfl
  · dsimp only
    split
    · exact State.handOn_lp _ _ _
    · split <;> rfl

theorem State.filterAbandon_lp (s : State) (src : Master) (code : Byte) : (s.filterAbandon src code).1.lp = s.lp := by
  unfold State.filterAbandon
  split
  · rfl
  · dsimp only
    split
    · rfl
    · split
      · rfl
      · exact State.handOn_lp _ _ _

theorem State.filterDone_lp (s : State) (src : Master) (code : Byte) : (s.filterDone src code).1.lp = s.lp := by
  unfold State.filterDone
  split
  · rfl
  · dsimp only
    split
    · rfl
    · split
      · rfl
      · rw [State.saveDue_lp, State.count_lp, State.handOn_lp]

theorem State.requestSeason_lp (s : State) (src : Master) (code : Byte) : (s.requestSeason src code).1.lp = s.lp := by
  unfold State.requestSeason
  repeat' split
  all_goals rfl

theorem State.clearLockout_lp (s : State) (target : Byte) : (s.clearLockout target).1.lp = s.lp := by
  have hfan (side : Side) : (s.clearLockoutFan side).1.lp = s.lp := by
    unfold State.clearLockoutFan
    dsimp only
    split <;> rfl
  unfold State.clearLockout State.clearLockoutBypass
  split
  · exact hfan .supply
  split
  · exact hfan .extract
  · repeat' split
    all_goals rfl

theorem State.inject_lp (s : State) (channel mode : Byte) : (s.inject channel mode).1.lp = s.lp := by
  unfold State.inject
  split
  · split
    · rfl
    · dsimp only
      split <;> rfl
  · rfl

theorem State.leaveList_lp (s : State) (i : Fin 15) : (s.leaveList i).lp = s.lp := by
  unfold State.leaveList
  split
  · rfl
  all_goals exact s.enterLost_lp i

theorem State.pollListChanged_lp (s : State) (before : BitVec 16) : (s.pollListChanged before).lp = s.lp := by
  unfold State.pollListChanged
  generalize List.finRange 15 = l
  induction l generalizing s with
  | nil => rfl
  | cons i l ih =>
    refine (ih _).trans ?_
    unfold State.listChanged
    split
    · split
      · rfl
      · exact s.leaveList_lp i
    · rfl

/-- An owner's reaction to a setting leaves the port. -/
theorem State.react_lp (s : State) (before : Settings) (id : SettingId) : (s.react before id).lp = s.lp := by
  unfold State.react
  split
  case h_11 =>
    unfold State.heatAddressChanged
    dsimp only
    split <;> rfl
  case h_12 => split <;> rfl
  case h_13 => exact s.pollListChanged_lp _
  all_goals rfl

theorem State.writeSetting_lp (s : State) (id value : Word16) : (s.writeSetting id value).1.lp = s.lp := by
  unfold State.writeSetting
  split
  · rfl
  · split
    · rfl
    · dsimp only
      split
      · rfl
      · exact State.react_lp _ _ _

theorem State.storeSettings_lp (s : State) : s.storeSettings.1.lp = s.lp := by
  unfold State.storeSettings
  split <;> rfl

theorem need_lp {α : Type} {o : Option α} {f : α → State × RequestOutcome} (h : ∀ x, (f x).1.lp = s.lp) :
    (need s o f).1.lp = s.lp := by
  cases o
  · rfl
  · exact h _

theorem State.route_lp (s : State) (r : Request) (k : RequestKind) : (s.route r k).1.lp = s.lp := by
  cases k
  case withdraw => exact need_lp fun _ => s.withdraw_lp _ _
  case filterBegin => exact need_lp fun _ => s.filterBegin_lp _ _
  case filterDone => exact need_lp fun _ => s.filterDone_lp _ _
  case filterAbandon => exact need_lp fun _ => s.filterAbandon_lp _ _
  case setSeason => exact need_lp fun _ => s.requestSeason_lp _ _
  case clearLockout => exact need_lp fun _ => s.clearLockout_lp _
  case inject => exact need_lp fun _ => need_lp fun _ => s.inject_lp _ _
  case writeSetting => exact need_lp fun _ => need_lp fun _ => s.writeSetting_lp _ _
  case storeSettings => exact s.storeSettings_lp
  case clearCounters => rfl
  all_goals exact s.demand_lp _ _ _

theorem State.handle_lp (s : State) (r : Request) : (s.handle r).1.lp = s.lp := by
  have hanswer : (s.answer r).1.lp = s.lp := by
    unfold State.answer
    split
    · rfl
    · split
      · exact s.route_lp r _
      · rfl
  unfold State.handle
  dsimp only
  split <;> exact hanswer

theorem Request.ofParams_source (source : Master) (code : Byte) (params : List Byte) :
    (Request.ofParams source code params).source = source := by
  unfold Request.ofParams
  dsimp only
  split <;> rfl

theorem Request.ofParams_code (source : Master) (code : Byte) (params : List Byte) :
    (Request.ofParams source code params).code = code := by
  unfold Request.ofParams
  dsimp only
  split <;> rfl

/-- The pending request of the port is UNIT's, with the kind code of its block (R131, R170). -/
theorem State.submit_port (s : State) (lp : LocalPort) :
    s.submit lp.request = (s.handle lp.request).1.setLp
      { (s.handle lp.request).1.lp with
        answer := some { outcome := (s.handle lp.request).2, kindCode := lp.requestKind }
        resultCount := (s.handle lp.request).1.lp.resultCount + 1
        pending := false } := by
  have hsource : lp.request.source = .unit := Request.ofParams_source _ _ _
  have hcode : lp.request.code = lp.requestKind := Request.ofParams_code _ _ _
  rw [State.submit, hsource, hcode, State.deliver_unit]

/-! ## Addressing and the end of a transaction (R165 to R167, R170, R174) -/

theorem State.portAnswers_iff (s : State) :
    s.portAnswers = true ↔ s.phase = .running ∧ s.straps.c.val < 2 ∧ s.resetPin = false := by
  simp [State.portAnswers, State.standAlone, and_assoc]

theorem State.endTransaction_idle (h : s.lp.stage = .idle) : s.endTransaction = s := if_pos h

theorem State.endTransaction_plain (h : s.lp.stage ≠ .idle) (hreset : s.lp.resetRequested = false)
    (hpending : s.lp.pending = false) : s.endTransaction = s.setLp { s.lp with stage := .idle } := by
  simp [State.endTransaction, h, hreset, hpending]

theorem State.endTransaction_pending (h : s.lp.stage ≠ .idle) (hreset : s.lp.resetRequested = false)
    (hpending : s.lp.pending = true) :
    s.endTransaction = (s.setLp { s.lp with stage := .idle }).submit s.lp.request := by
  simp [State.endTransaction, h, hreset, hpending]

theorem exec_transactionEnd (hrun : s.phase = .running) : exec .transactionEnd s = .next s.endTransaction :=
  congrArg Host.Outcome.next (State.whenRunning_of hrun _)

/-- The port's own address, answered: a write or a read by the last bit (R165). -/
theorem exec_addressByte_own {b : Byte} (hheld : s.phase ≠ .held) (hanswers : s.portAnswers = true)
    (hown : b.toNat / 2 = 0x2C + s.straps.a.val) :
    exec (.addressByte b) s = .next (s.setLp (s.lp.addressed (b.getLsbD 0))) := by
  refine congrArg Host.Outcome.next ((State.unlessHeld_of_ne hheld _).trans (if_pos ?_))
  rw [hanswers, Bool.true_and, beq_iff_eq, hown]
  rfl

theorem exec_addressByte_other {b : Byte} (hheld : s.phase ≠ .held)
    (h : s.portAnswers = false ∨ b.toNat / 2 ≠ 0x2C + s.straps.a.val) :
    exec (.addressByte b) s = .next s.notAddressed := by
  refine congrArg Host.Outcome.next ((State.unlessHeld_of_ne hheld _).trans (if_neg ?_))
  rw [Bool.and_eq_true, beq_iff_eq]
  rintro ⟨hanswers, hown⟩
  rcases h with h | h
  · exact Bool.noConfusion (h.symm.trans hanswers)
  · exact h hown

theorem exec_offsetWrite {b : Byte} (hrun : s.phase = .running) (h : s.lp.stage = .awaitOffset) :
    exec (.offsetWrite b) s = .next (s.setLp { s.lp with stage := .writing, pointer := b.setWidth 6 }) :=
  congrArg Host.Outcome.next ((State.whenRunning_of hrun _).trans (if_pos h))

/-! ## The registers by their offsets (12.4) -/

theorem Register.at_eq_pageSelect : ∀ p : BitVec 6, Register.at p = .pageSelect ↔ p.toNat = 0x03 := by decide

theorem Register.at_eq_requestKind : ∀ p : BitVec 6, Register.at p = .requestKind ↔ p.toNat = 0x1E := by decide

theorem Register.at_parameter : ∀ (p : BitVec 6) (n : Fin 8), p.toNat = 0x1F + n.val → Register.at p = .parameter n := by
  decide

theorem Register.at_eq_go : ∀ p : BitVec 6, Register.at p = .go ↔ p.toNat = 0x27 := by decide

theorem Register.at_eq_tableSelect : ∀ p : BitVec 6, Register.at p = .tableSelect ↔ p.toNat = 0x2C := by decide

theorem Register.at_eq_tablePointerLow : ∀ p : BitVec 6, Register.at p = .tablePointerLow ↔ p.toNat = 0x2D := by decide

theorem Register.at_eq_tablePointerHigh : ∀ p : BitVec 6, Register.at p = .tablePointerHigh ↔ p.toNat = 0x2E := by
  decide

theorem Register.at_eq_tableData : ∀ p : BitVec 6, Register.at p = .tableData ↔ p.toNat = 0x2F := by decide

theorem Register.at_eq_runningReset : ∀ p : BitVec 6, Register.at p = .runningReset ↔ p.toNat = 0x30 := by decide

/-- The registers that are read only, and the offsets that hold none: a byte written there is lost (R168). -/
def Register.readOnly : Register → Bool
  | .identification _ | .statusArea _ | .resetCause | .eventWord _ | .result _ | .mirror _ | .unused => true
  | _ => false

theorem Register.at_readOnly : ∀ p : BitVec 6,
    p.toNat < 0x03 ∨ (0x04 ≤ p.toNat ∧ p.toNat < 0x19) ∨ (0x28 ≤ p.toNat ∧ p.toNat < 0x2C) ∨ 0x31 ≤ p.toNat →
    (Register.at p).readOnly = true := by decide

/-! ## Writes -/

theorem exec_registerWrite_readOnly (hrun : s.phase = .running) (hstage : s.lp.stage = .writing)
    (h : s.lp.register.readOnly = true) (b : Byte) : exec (.registerWrite b) s = .next (s.setLpNext s.lp) := by
  refine congrArg Host.Outcome.next ((State.writing_of hrun hstage).trans ?_)
  revert h
  cases s.lp.register with
  | identification | statusArea | resetCause | eventWord | result | mirror | unused => exact fun _ => rfl
  | _ => exact fun h => nomatch h

theorem exec_registerWrite_requestKind (hrun : s.phase = .running) (hstage : s.lp.stage = .writing)
    (h : s.lp.register = .requestKind) (b : Byte) :
    exec (.registerWrite b) s = .next (s.setLpNext { s.lp with requestKind := b }) :=
  congrArg Host.Outcome.next ((State.writing_of hrun hstage).trans (by rw [h]))

theorem exec_registerWrite_parameter {n : Fin 8} (hrun : s.phase = .running) (hstage : s.lp.stage = .writing)
    (h : s.lp.register = .parameter n) (b : Byte) :
    exec (.registerWrite b) s = .next (s.setLpNext { s.lp with params := setAt s.lp.params n b }) :=
  congrArg Host.Outcome.next ((State.writing_of hrun hstage).trans (by rw [h]))

theorem exec_registerWrite_tableData (hrun : s.phase = .running) (hstage : s.lp.stage = .writing)
    (h : s.lp.register = .tableData) (b : Byte) : exec (.registerWrite b) s = .next s :=
  congrArg Host.Outcome.next ((State.writing_of hrun hstage).trans (by rw [h]))

theorem exec_statusPageSelectWrite (hrun : s.phase = .running) (hstage : s.lp.stage = .writing) (b : Byte) :
    exec (.statusPageSelectWrite b) s = .next (if s.lp.pointer.toNat = 0x03 then
      s.setLpNext { s.lp with pageSelect := b, pageSnapshot := none, mirrorSnapshot := none } else s) :=
  congrArg Host.Outcome.next ((State.writing_of hrun hstage).trans
    (if_congr (Register.at_eq_pageSelect s.lp.pointer) rfl rfl))

theorem exec_go (hrun : s.phase = .running) (hstage : s.lp.stage = .writing) (b : Byte) :
    exec (.go b) s = .next (if s.lp.pointer.toNat = 0x27 then s.setLpNext { s.lp with pending := true } else s) :=
  congrArg Host.Outcome.next ((State.writing_of hrun hstage).trans (if_congr (Register.at_eq_go s.lp.pointer) rfl rfl))

theorem exec_tableSelectWrite (hrun : s.phase = .running) (hstage : s.lp.stage = .writing) (b : Byte) :
    exec (.tableSelectWrite b) s = .next (if s.lp.pointer.toNat = 0x2C then
      s.setLpNext { s.lp with tableSelect := b, tablePointer := 0, entrySnapshot := none } else s) :=
  congrArg Host.Outcome.next ((State.writing_of hrun hstage).trans
    (if_congr (Register.at_eq_tableSelect s.lp.pointer) rfl rfl))

theorem exec_runningResetRequest (hrun : s.phase = .running) (hstage : s.lp.stage = .writing) (b : Byte) :
    exec (.runningResetRequest b) s = .next (if s.lp.pointer.toNat = 0x30 then
      s.setLpNext { s.lp with resetRequested := s.lp.resetRequested || b == 0xA5 } else s) :=
  congrArg Host.Outcome.next ((State.writing_of hrun hstage).trans
    (if_congr (Register.at_eq_runningReset s.lp.pointer) rfl rfl))

theorem exec_tablePointerWrite_low (hrun : s.phase = .running) (hstage : s.lp.stage = .writing)
    (h : s.lp.register = .tablePointerLow) (b : Byte) :
    exec (.tablePointerWrite b) s = .next (s.setLpNext { s.lp with
      tablePointer := wordOf b ((s.lp.tablePointer >>> 8).setWidth 8)
      entrySnapshot := none }) :=
  congrArg Host.Outcome.next ((State.writing_of hrun hstage).trans (by rw [h]))

theorem exec_tablePointerWrite_high (hrun : s.phase = .running) (hstage : s.lp.stage = .writing)
    (h : s.lp.register = .tablePointerHigh) (b : Byte) :
    exec (.tablePointerWrite b) s = .next (s.setLpNext { s.lp with
      tablePointer := wordOf (s.lp.tablePointer.setWidth 8) b
      entrySnapshot := none }) :=
  congrArg Host.Outcome.next ((State.writing_of hrun hstage).trans (by rw [h]))

theorem exec_tablePointerWrite_other (hrun : s.phase = .running) (hstage : s.lp.stage = .writing)
    (hlow : s.lp.register ≠ .tablePointerLow) (hhigh : s.lp.register ≠ .tablePointerHigh) (b : Byte) :
    exec (.tablePointerWrite b) s = .next s := by
  refine congrArg Host.Outcome.next ((State.writing_of hrun hstage).trans ?_)
  split
  · exact absurd ‹_› hlow
  · exact absurd ‹_› hhigh
  · rfl

theorem wordOf_low (w : Word16) (b : Byte) :
    wordOf b ((w >>> 8).setWidth 8) = BitVec.ofNat 16 (256 * (w.toNat / 256) + b.toNat) := by
  apply BitVec.eq_of_toNat_eq
  simp only [wordOf, BitVec.toNat_append, BitVec.toNat_setWidth, BitVec.toNat_ushiftRight, BitVec.toNat_ofNat,
    Nat.shiftRight_eq_div_pow]
  rw [← Nat.shiftLeft_add_eq_or_of_lt b.isLt, Nat.shiftLeft_eq]
  omega

theorem wordOf_high (w : Word16) (b : Byte) :
    wordOf (w.setWidth 8) b = BitVec.ofNat 16 (256 * b.toNat + w.toNat % 256) := by
  apply BitVec.eq_of_toNat_eq
  simp only [wordOf, BitVec.toNat_append, BitVec.toNat_setWidth, BitVec.toNat_ofNat]
  rw [← Nat.shiftLeft_add_eq_or_of_lt (Nat.mod_lt _ (by decide)), Nat.shiftLeft_eq]
  omega

end

/-- Settles O45: the address decides between the port's own transaction and the end of another, and the end by the
reset asked for and the request pending. -/
theorem portAddressingAndTheEndOfATransaction : Obligations.PortAddressingAndTheEndOfATransaction := by
  unfold Obligations.PortAddressingAndTheEndOfATransaction
  refine ⟨State.portAnswers_iff, fun _ => rfl, fun s b hheld => ⟨fun hanswers => ⟨fun hb => ?_, fun hb => ?_⟩,
    fun hother => ⟨fun hidle => ?_, fun _ hrun => ?_⟩⟩, fun s b hrun => ⟨fun h => ?_, fun h => ?_⟩,
    fun s hrun => ⟨fun h => ?_, fun h hreset hpending => ?_, fun r u h hreset hpending hr hu => ?_,
      fun h hreset => ⟨_, exec_transactionEnd_of_reset hrun h hreset, rfl⟩⟩⟩
  · rw [exec_addressByte_own hheld hanswers (by omega), BitVec.getLsbD, Nat.testBit_zero,
      decide_eq_false (by omega : ¬ b.toNat % 2 = 1)]
    rfl
  · rw [exec_addressByte_own hheld hanswers (by omega), BitVec.getLsbD, Nat.testBit_zero,
      decide_eq_true (by omega : b.toNat % 2 = 1)]
    rfl
  · rw [exec_addressByte_other hheld hother, State.notAddressed, State.endTransaction_idle hidle]
  · exact ⟨_, exec_transactionEnd hrun, exec_addressByte_other hheld hother⟩
  · rw [exec_offsetWrite hrun h, show b.setWidth 6 = BitVec.ofNat 6 b.toNat from BitVec.eq_of_toNat_eq (by simp)]
  · exact congrArg Host.Outcome.next ((State.whenRunning_of hrun _).trans (if_neg h))
  · rw [exec_transactionEnd hrun, State.endTransaction_idle h]
  · rw [exec_transactionEnd hrun, State.endTransaction_plain h hreset hpending]
  · have hrequest : s.lp.request = r := hr.symm
    refine ⟨_, exec_transactionEnd hrun, ?_⟩
    rw [State.endTransaction_pending h hreset hpending, State.submit_port, hrequest, ← hu]
    have hlp : (u.handle r).1.lp = { s.lp with stage := .idle } := by rw [State.handle_lp, hu]; rfl
    refine ⟨rfl, ?_, rfl, rfl⟩
    show (u.handle r).1.lp.resultCount + 1 = _
    rw [hlp]

/-- Settles O46: each write command acts at its own offsets and leaves the state at every other. -/
theorem portWritesReachTheirRegisters : Obligations.PortWritesReachTheirRegisters := by
  unfold Obligations.PortWritesReachTheirRegisters
  rintro s b p lp hrun hstage rfl rfl
  have hreg : s.lp.register = Register.at s.lp.pointer := rfl
  refine ⟨fun h => ?_, fun n h => ?_, fun h => ?_, fun h => ?_, fun h => ?_, fun h => ?_, fun h => ?_, fun h => ?_,
    fun h => ?_, fun h => ⟨fun hb => ?_, fun hb => ?_⟩, fun h => ?_, fun h => ?_, fun h => ?_, fun hlow hhigh => ?_,
    fun h => ?_⟩
  · exact exec_registerWrite_requestKind hrun hstage ((Register.at_eq_requestKind _).2 h) b
  · exact exec_registerWrite_parameter hrun hstage (Register.at_parameter _ n h) b
  · exact exec_registerWrite_readOnly hrun hstage (Register.at_readOnly _ h) b
  · exact exec_registerWrite_tableData hrun hstage ((Register.at_eq_tableData _).2 h) b
  · rw [exec_statusPageSelectWrite hrun hstage, if_pos h]; rfl
  · rw [exec_go hrun hstage, if_pos h]; rfl
  · rw [exec_tableSelectWrite hrun hstage, if_pos h]; rfl
  · rw [exec_tablePointerWrite_low hrun hstage ((Register.at_eq_tablePointerLow _).2 h), wordOf_low]; rfl
  · rw [exec_tablePointerWrite_high hrun hstage ((Register.at_eq_tablePointerHigh _).2 h), wordOf_high]; rfl
  · rw [exec_runningResetRequest hrun hstage, if_pos h, beq_iff_eq.2 hb, Bool.or_true]; rfl
  · rw [exec_runningResetRequest hrun hstage, if_pos h, beq_eq_false_iff_ne.2 hb, Bool.or_false]; rfl
  · rw [exec_statusPageSelectWrite hrun hstage, if_neg h]
  · rw [exec_go hrun hstage, if_neg h]
  · rw [exec_tableSelectWrite hrun hstage, if_neg h]
  · exact exec_tablePointerWrite_other hrun hstage (fun h => hlow ((Register.at_eq_tablePointerLow _).1 h))
      (fun h => hhigh ((Register.at_eq_tablePointerHigh _).1 h)) b
  · rw [exec_runningResetRequest hrun hstage, if_neg h]

end Sys2Proof.Machine

/-! SUPPORT. The bytes of the status pages and of the table window (12.4, 12.5), with the codes of 12.3; then the reads
of the port and the obligation O47. -/

namespace Sys2Proof.Machine

/-! ## Fields (R192) -/

section
variable {s t : State}

theorem DemandKind.code_eq_idxOf (kind : DemandKind) : kind.code = BitVec.ofNat 8 (demandCodes.idxOf kind + 1) := by
  cases kind <;> rfl

theorem map_getD_eq_elim {α β : Type} (o : Option α) (f : α → β) (d : β) : (o.map f).getD d = o.elim d f := by
  cases o <;> rfl

theorem bytes16_eq (w : Word16) : bytes16 w = little w.toNat := by
  rw [← field16_eq, field16, BitVec.ofNat_toNat, BitVec.setWidth_eq]

/-- The bytes that a FILTERS entry and a stored filter record have in common (12.5). -/
theorem FilterCore.image_eq_savedBytes (f : FilterCore) : f.image = f.savedBytes := by
  have hsaved : byte? (f.saved.map FilterState.code) =
      (f.saved.map fun st => BitVec.ofNat 8 (filterCodes.idxOf st)).getD 0xFF := by
    cases f.saved with
    | none => rfl
    | some st => exact congrArg (BitVec.ofNat 8) st.code_eq
  unfold FilterCore.image FilterCore.savedBytes field24
  rw [hsaved, field16?_eq, field16_eq, field16_eq, field16_eq, FilterState.code_eq]
  rfl

/-- The bytes that status page 3 and the FROST entry have in common (12.4). -/
theorem State.pageCore_eq (s : State) : s.pageCore = s.corePage := by
  have hbits : byteOf (bitAt s.fg.paused 0 + bitAt s.preheat.output 1 + bitAt s.fg.wantedOpen 2) =
      bitRow [s.fg.paused, s.preheat.output, s.fg.wantedOpen] := by
    rw [← markBits_eq]
    congr 1
    simp only [bitAt_eq, markBits_cons, markBits_nil]
    omega
  unfold State.pageCore State.corePage
  rw [hbits, field16_eq, field16_eq, signed16_eq, FrostState.code_eq, originCode_eq, DamperState.code_eq]
  rfl

/-! ## The status pages (R169) -/

theorem State.unitBits_eq (s : State) : byteOf s.unitBits = bitRow
    [s.mc.ready, s.straps.b.val % 2 == 1, s.straps.c.val % 2 == 1, decide (2 ≤ s.straps.c.val),
     decide (2 ≤ s.straps.b.val), s.ss.store != .idle, s.season.mode == .summer, s.season.observing] := by
  rw [← markBits_eq]
  congr 1
  simp only [State.unitBits, State.preheaterFitted, State.damperFitted, State.standAlone, State.rightHanded, bitAt_eq,
    markBits_cons, markBits_nil]
  omega

theorem State.pageUnit_eq (s : State) : s.pageUnit =
    [ bitRow
        [s.mc.ready, s.straps.b.val % 2 == 1, s.straps.c.val % 2 == 1, decide (2 ≤ s.straps.c.val),
         decide (2 ≤ s.straps.b.val), s.ss.store != .idle, s.season.mode == .summer, s.season.observing],
      BitVec.ofNat 8 (s.straps.a.val + 4 * s.straps.b.val + 16 * s.straps.c.val),
      BitVec.ofNat 8 s.season.heatCallAge, BitVec.ofNat 8 (s.season.heatCallAge / 256),
      BitVec.ofNat 8 (s.season.heatCallAge / 65536), BitVec.ofNat 8 (lastSetCodes.idxOf s.season.lastSetBy) ] ++
    littleSignedOr s.hm.dewPoint ++ [BitVec.ofNat 8 s.rl.roundCounter] := by
  unfold State.pageUnit field24
  rw [s.unitBits_eq, signed16?_eq, LastSetBy.code_eq]
  rfl

theorem FanRecord.page_eq (f : FanRecord) : f.page =
    [BitVec.ofNat 8 (fanCodes.idxOf f.state)] ++ little f.duty ++ little f.measured ++ little f.qc ++ little f.qr ++
    little f.speedTarget ++ [BitVec.ofNat 8 f.retries, bitRow [f.curveLimit, f.flowLimited]] := by
  have hbits : byteOf (bitAt f.curveLimit 0 + bitAt f.flowLimited 1) = bitRow [f.curveLimit, f.flowLimited] := by
    rw [← markBits_eq]
    congr 1
    simp only [bitAt_eq, markBits_cons, markBits_nil]
    omega
  unfold FanRecord.page
  rw [hbits, FanState.code_eq]
  simp only [field16_eq]
  rfl

theorem State.pagePlan_eq (s : State) : s.pagePlan =
    little s.da.plan.target ++
    [BitVec.ofNat 8 (reasonCodes.idxOf s.da.plan.reason), sourceOr0 s.da.plan.baseSource] ++
    little s.da.plan.ceiling := by
  unfold State.pagePlan
  rw [sourceCode_eq, Reason.code_eq, field16_eq, field16_eq]
  rfl

/-- A page's own bytes and the zeros that fill it up to 16 (R192). -/
theorem padPage_eq {l : List Byte} {n : Nat} (h : l.length + n = 16) : padPage l = l ++ List.replicate n 0 := by
  rw [padPage, statusSize, show 16 - l.length = n by omega]

theorem littleSignedOr_length (o : Option Int) : (littleSignedOr o).length = 2 := by cases o <;> rfl

theorem State.statusPage_eq (s : State) (select : Byte) : s.statusPage select =
    (if select = 0 then padPage s.pageUnit
    else if select = 1 then padPage s.ae.supply.page
    else if select = 2 then padPage s.ae.extract.page
    else if select = 3 then padPage s.pageCore
    else if select = 4 then padPage s.pagePlan
    else List.replicate 16 0) := by
  unfold State.statusPage
  split
  case h_6 h0 h1 h2 h3 h4 =>
    have hne (n : Byte) (h : select.toNat = n.toNat → False) : ¬ select = n := fun e => h (congrArg _ e)
    rw [if_neg (hne 0 h0), if_neg (hne 1 h1), if_neg (hne 2 h2), if_neg (hne 3 h3), if_neg (hne 4 h4)]
    rfl
  case h_1 h =>
    obtain rfl : select = 0 := BitVec.eq_of_toNat_eq h
    rfl
  case h_2 h =>
    obtain rfl : select = 1 := BitVec.eq_of_toNat_eq h
    rfl
  case h_3 h =>
    obtain rfl : select = 2 := BitVec.eq_of_toNat_eq h
    rfl
  case h_4 h =>
    obtain rfl : select = 3 := BitVec.eq_of_toNat_eq h
    rfl
  case h_5 h =>
    obtain rfl : select = 4 := BitVec.eq_of_toNat_eq h
    rfl

theorem State.pageUnit_padded (s : State) : padPage s.pageUnit = s.pageUnit ++ [0, 0, 0, 0, 0, 0, 0] :=
  padPage_eq (n := 7) (by rw [State.pageUnit_eq]; simp [littleSignedOr_length])

theorem FanRecord.page_padded (f : FanRecord) : padPage f.page = f.page ++ [0, 0, 0] :=
  padPage_eq (n := 3) (by rw [FanRecord.page_eq]; rfl)

theorem State.pageCore_padded (s : State) : padPage s.pageCore = s.corePage ++ [0, 0, 0, 0] := by
  rw [State.pageCore_eq]
  exact padPage_eq (n := 4) rfl

theorem State.pagePlan_padded (s : State) : padPage s.pagePlan = s.pagePlan ++ [0, 0, 0, 0, 0, 0, 0, 0, 0, 0] :=
  padPage_eq (n := 10) (by rw [State.pagePlan_eq]; rfl)

/-! ## The entries of the tables (R172, R173) -/

theorem atIndex_val {n : Nat} (i : Fin n) (f : Fin n → List Byte) : atIndex i.val f = f i := dif_pos i.isLt

theorem demandPlace_some (e : Entry) : demandPlace (some e) =
    [BitVec.ofNat 8 (sourceCodes.idxOf e.source + 1), BitVec.ofNat 8 (demandCodes.idxOf e.kind + 1)] ++
    little e.flow ++ littleOr e.remaining ++ little e.seq.toNat := by
  show [byteOf e.source.code, e.kind.code] ++ field16 e.flow ++ field16? e.remaining ++ bytes16 e.seq = _
  rw [Source.code_eq, DemandKind.code_eq_idxOf, field16_eq, field16?_eq, bytes16_eq]
  rfl

theorem Humidity.humidAt_iff (hm : Humidity) (i : Fin 15) :
    hm.humidAt i = true ↔ ∃ n : Fin 4, n.val = i.val ∧ hm.stations[n].humid = true := by
  unfold Humidity.humidAt
  by_cases h : i.val < 4
  · rw [dif_pos h]
    constructor
    · exact fun hhumid => ⟨⟨i.val, h⟩, rfl, hhumid⟩
    · rintro ⟨n, hn, hhumid⟩
      obtain rfl : n = ⟨i.val, h⟩ := Fin.ext hn
      exact hhumid
  · rw [dif_neg h]
    constructor
    · exact fun hfalse => Bool.noConfusion hfalse
    · rintro ⟨n, hn, -⟩
      exact absurd (hn ▸ n.isLt) h

theorem stationPlace_eq (x : Slot) (humid : Bool) : stationPlace x humid =
    [ BitVec.ofNat 8 (slotCodes.idxOf x.state), bitRow x.window,
      BitVec.ofNat 8 (x.window.length + 16 * x.goodRun + (if x.tell.isSome then 64 else 0) +
        (if humid = true then 128 else 0)) ] ++
    littleOr x.timeMissing ++
    (x.lastOutcome.map fun a => [BitVec.ofNat 8 (outcomeCodes.idxOf a.outcome + 1), a.kindCode]).getD [0, 0xFF] ++
    (x.tell.map fun c => (c.temperature.map fun w => little w.toNat).getD [0x00, 0x80] ++ little c.humidity.toNat ++
      [c.flags]).getD [0x00, 0x80, 0xFF, 0xFF, 0xFF] := by
  have houtcome (a : Answer) : [byteOf a.outcome.code, a.kindCode] =
      [BitVec.ofNat 8 (outcomeCodes.idxOf a.outcome + 1), a.kindCode] := by
    rw [RequestOutcome.code_eq]
    rfl
  have htell (c : TellContents) : c.temperature.elim [0x00, 0x80] bytes16 ++ bytes16 c.humidity ++ [c.flags] =
      (c.temperature.map fun w => little w.toNat).getD [0x00, 0x80] ++ little c.humidity.toNat ++ [c.flags] := by
    rw [map_getD_eq_elim, bytes16_eq, funext bytes16_eq]
  unfold stationPlace
  rw [SlotState.code_eq, markBits_eq, field16?_eq]
  congr 1
  · congr 1
    cases x.lastOutcome with
    | none => rfl
    | some a => exact houtcome a
  · cases x.tell with
    | none => rfl
    | some c => exact htell c

theorem FilterRecord.place_eq (f : FilterRecord) : f.place =
    f.savedBytes ++ little f.steadyFlow ++
    [BitVec.ofNat 8 f.steadyCount, BitVec.ofNat 8 (assessmentCodes.idxOf f.lastAssessment)] ++
    littleOr f.lastDpNorm ++ [sourceOr0 f.owner] ++ littleOr f.deadline := by
  unfold FilterRecord.place
  rw [FilterCore.image_eq_savedBytes, sourceCode_eq, Assessment.code_eq, field16_eq, field16?_eq, field16?_eq]
  rfl

/-- Four places and no more: those of the list, and 0 beyond it. -/
theorem take_four_padded {α : Type} (l : List α) (x : α) (h : l.length ≤ 4) :
    (l ++ List.replicate (4 - l.length) x).take 4 = l ++ List.replicate (4 - l.length) x :=
  List.take_of_length_le (by rw [List.length_append, List.length_replicate]; omega)

theorem agesBytes_eq {l : List Nat} (h : l.length ≤ 4) :
    agesBytes l = (l ++ List.replicate (4 - l.length) 0).flatMap little := by
  rw [agesBytes, take_four_padded l 0 h, funext field16_eq]

theorem readingsBytes_eq {l : List Int} (h : l.length ≤ 4) :
    readingsBytes l = (l ++ List.replicate (4 - l.length) 0).flatMap littleSigned := by
  rw [readingsBytes, take_four_padded l 0 h, funext signed16_eq]

theorem State.frostPlace_eq (h : s.fg.history.length ≤ 4) : s.frostPlace =
    s.corePage ++ [bitRow s.fg.window, BitVec.ofNat 8 s.fg.window.length] ++ littleOr s.fg.defrostElapsed ++
    littleOr s.fg.holdElapsed ++ littleSignedOr s.fg.holdEntryOda ++ littleOr s.fg.fallbackCycle ++
    (s.fg.coreRef.map fun r => littleSigned r.pressure ++ little r.flow).getD [0xFF, 0xFF, 0xFF, 0xFF] ++
    [BitVec.ofNat 8 s.fg.history.length] ++
    (s.fg.history ++ List.replicate (4 - s.fg.history.length) 0).flatMap little ++
    [ (s.damper.allowance.map fun n => BitVec.ofNat 8 n).getD 0xFF,
      (s.damper.elapsed.map fun n => BitVec.ofNat 8 n).getD 0xFF,
      BitVec.ofNat 8 (driveCodes.idxOf s.damper.drive) ] := by
  have hbyte (o : Option Nat) : byte? o = (o.map fun n => BitVec.ofNat 8 n).getD 0xFF := by cases o <;> rfl
  unfold State.frostPlace
  rw [State.pageCore_eq, markBits_eq, field16?_eq, field16?_eq, signed16?_eq, field16?_eq, agesBytes_eq h, hbyte, hbyte,
    MotorDrive.code_eq]
  congr 4
  cases s.fg.coreRef with
  | none => rfl
  | some r => exact congrArg₂ (· ++ ·) (signed16_eq _) (field16_eq _)

theorem Channel.place_eq (c : Channel) (n : Fin 8) (h : c.history.length ≤ 4) : c.place n =
    [BitVec.ofNat 8 n.val] ++ littleSigned c.raw ++
    [ bitRow c.window, BitVec.ofNat 8 c.window.length, BitVec.ofNat 8 (channelCodes.idxOf c.state),
      BitVec.ofNat 8 (injectCodes.idxOf c.injection), BitVec.ofNat 8 c.settling, BitVec.ofNat 8 c.history.length ] ++
    (c.history ++ List.replicate (4 - c.history.length) 0).flatMap littleSigned ++ littleSigned c.filtered := by
  unfold Channel.place
  rw [signed16_eq, signed16_eq, markBits_eq, ChannelState.code_eq, InjectMode.code_eq, readingsBytes_eq h]
  rfl

theorem Settings.place_eq (set : Settings) (p : Nat × SettingId) :
    set.place p = little p.1 ++ littleSigned (set.get p.2) := by
  rw [Settings.place, field16_eq, signed16_eq]

theorem State.tableEntry_commissioning {i id : Nat} {k : SettingId} (s : State) (h : settingTable[i]? = some (id, k)) :
    s.tableEntry .commissioning i = little id ++ littleSigned (s.settings.get k) := by
  show (settingTable[i]?).elim [] s.settings.place = _
  rw [h]
  exact s.settings.place_eq (id, k)

theorem State.tableEntry_curve (s : State) (side : Side) (i : Fin 8) : s.tableEntry (.curve side) i =
    little (s.settings.curve side).flows[i] ++ little (s.settings.curve side).speeds[i] := by
  show atIndex i.val (s.settings.curve side).place = _
  rw [atIndex_val, Curve.place, field16_eq, field16_eq]

/-! ## Reads (R167, R169, R171 to R173) -/

theorem Register.at_statusArea : ∀ (p : BitVec 6) (n : Fin 16), p.toNat = 0x04 + n.val →
    Register.at p = .statusArea n.val := by decide

theorem Register.at_mirror : ∀ (p : BitVec 6) (n : Fin 12), p.toNat = 0x31 + n.val →
    Register.at p = .mirror n.val := by decide

theorem Register.at_unused : ∀ p : BitVec 6, 0x3D ≤ p.toNat → Register.at p = .unused := by decide

def Register.isStatusArea : Register → Bool
  | .statusArea _ => true
  | _ => false

def Register.isMirror : Register → Bool
  | .mirror _ => true
  | _ => false

theorem Register.at_isStatusArea : ∀ p : BitVec 6,
    (Register.at p).isStatusArea = true ↔ 0x04 ≤ p.toNat ∧ p.toNat < 0x14 := by decide

theorem Register.at_isMirror : ∀ p : BitVec 6,
    (Register.at p).isMirror = true ↔ 0x31 ≤ p.toNat ∧ p.toNat < 0x3D := by decide

theorem exec_statusAreaRead {n : Nat} (hrun : s.phase = .running) (hstage : s.lp.stage = .reading)
    (h : s.lp.register = .statusArea n) :
    exec .statusAreaRead s = .next (s.setLp
      ({ s.lp with pageSnapshot := some (copyAt n s.lp.pageSnapshot (s.statusPage s.lp.pageSelect)) }.send
        (byteAt (copyAt n s.lp.pageSnapshot (s.statusPage s.lp.pageSelect)) n))) :=
  congrArg Host.Outcome.next ((State.reading_of hrun hstage).trans (by rw [h]))

theorem exec_statusAreaRead_other (hrun : s.phase = .running) (hstage : s.lp.stage = .reading)
    (h : s.lp.register.isStatusArea = false) : exec .statusAreaRead s = .next s := by
  refine congrArg Host.Outcome.next ((State.reading_of hrun hstage).trans ?_)
  split
  case h_1 n hn => exact nomatch (congrArg Register.isStatusArea hn).symm.trans h
  case h_2 => rfl

theorem exec_digestMirrorRead {n : Nat} (hrun : s.phase = .running) (hstage : s.lp.stage = .reading)
    (h : s.lp.register = .mirror n) :
    exec .digestMirrorRead s = .next (s.setLp
      ({ s.lp with mirrorSnapshot := some (copyAt n s.lp.mirrorSnapshot s.mirror) }.send
        (byteAt (copyAt n s.lp.mirrorSnapshot s.mirror) n))) :=
  congrArg Host.Outcome.next ((State.reading_of hrun hstage).trans (by rw [h]))

theorem exec_digestMirrorRead_other (hrun : s.phase = .running) (hstage : s.lp.stage = .reading)
    (h : s.lp.register.isMirror = false) : exec .digestMirrorRead s = .next s := by
  refine congrArg Host.Outcome.next ((State.reading_of hrun hstage).trans ?_)
  split
  case h_1 n hn => exact nomatch (congrArg Register.isMirror hn).symm.trans h
  case h_2 => rfl

theorem exec_tableDataRead (hrun : s.phase = .running) (hstage : s.lp.stage = .reading) :
    exec .tableDataRead s = .next (if s.lp.pointer.toNat = 0x2F then s.readTable else s) :=
  congrArg Host.Outcome.next ((State.reading_of hrun hstage).trans
    (if_congr (Register.at_eq_tableData s.lp.pointer) rfl rfl))

/-- A register without a read rule of its own, found at the pointer's offset, is sent as it holds. -/
theorem exec_registerRead_at {b : Byte} (hrun : s.phase = .running) (hstage : s.lp.stage = .reading) (offset : BitVec 6)
    (hp : s.lp.pointer.toNat = offset.toNat) (h : s.registerValue (Register.at offset) = some b) :
    exec .registerRead s = .next (s.setLp { s.lp with pointer := s.lp.pointer + 1, sent := b }) := by
  have hpointer : s.lp.register = Register.at offset := congrArg Register.at (BitVec.eq_of_toNat_eq hp)
  refine congrArg Host.Outcome.next ((State.reading_of hrun hstage).trans ?_)
  rw [hpointer, h]
  rfl

/-! ## The result (R171) -/

theorem State.resultBytes_outcome (s : State) :
    byteAt s.resultBytes 0 = (s.lp.answer.map fun a => byteOf a.outcome.code).getD 0 := by
  unfold State.resultBytes
  cases s.lp.answer <;> rfl

theorem State.resultBytes_kind (s : State) : byteAt s.resultBytes 1 = (s.lp.answer.map fun a => a.kindCode).getD 0 := by
  unfold State.resultBytes
  cases s.lp.answer <;> rfl

theorem State.resultBytes_count (s : State) : byteAt s.resultBytes 2 = s.lp.resultCount := by
  unfold State.resultBytes
  cases s.lp.answer <;> rfl

theorem State.resultBytes_flags (s : State) : byteAt s.resultBytes 3 =
    (if s.lp.pending = true then 1 else 0) + (if s.ss.store = .idle then 0 else 2) := by
  have hflags : byteAt s.resultBytes 3 = s.resultFlags := by
    unfold State.resultBytes
    cases s.lp.answer <;> rfl
  rw [hflags, State.resultFlags]
  cases s.lp.pending <;> cases s.ss.store <;> rfl

theorem setWidth_eq_ofNat_low (w : Word16) : w.setWidth 8 = BitVec.ofNat 8 (w.toNat % 256) :=
  BitVec.eq_of_toNat_eq (by simp)

theorem setWidth_eq_ofNat_high (w : Word16) : (w >>> 8).setWidth 8 = BitVec.ofNat 8 (w.toNat / 256) :=
  BitVec.eq_of_toNat_eq (by simp [Nat.shiftRight_eq_div_pow])

/-! ## Table data (R172, R173) -/

theorem State.entryFor_fresh {table : Table} {i off : Nat}
    (h : off = 0 ∨ ∀ e, s.lp.entrySnapshot = some e → e.index ≠ i) :
    s.entryFor table i off = s.tableEntry table i := by
  unfold State.entryFor
  split
  case h_1 e he => exact if_pos (h.imp_right fun hne => hne e he)
  case h_2 => rfl

theorem State.entryFor_held {table : Table} {i off : Nat} {e : EntrySnapshot} (hoff : off ≠ 0)
    (he : s.lp.entrySnapshot = some e) (hi : e.index = i) : s.entryFor table i off = e.bytes := by
  simp [State.entryFor, he, hoff, hi]

theorem State.readTable_within {table : Table} {i off : Nat} (htable : Table.ofSelect s.lp.tableSelect = some table)
    (hi : i < table.count) (hoff : off < table.size) (hp : s.lp.tablePointer.toNat = i * table.size + off) :
    s.readTable = s.setLp (s.lp.sendTable (byteAt (s.entryFor table i off) off)
      (some { index := i, bytes := s.entryFor table i off })) := by
  have hsize : 0 < table.size := by omega
  have hwithin : i * table.size + off < table.count * table.size :=
    calc i * table.size + off < i * table.size + table.size := by omega
      _ = (i + 1) * table.size := (Nat.succ_mul _ _).symm
      _ ≤ table.count * table.size := Nat.mul_le_mul_right _ hi
  have hindex : (i * table.size + off) / table.size = i := by
    rw [Nat.mul_comm, Nat.mul_add_div hsize, Nat.div_eq_of_lt hoff, Nat.add_zero]
  have hbyte : (i * table.size + off) % table.size = off := by rw [Nat.mul_comm, Nat.mul_add_mod, Nat.mod_eq_of_lt hoff]
  simp only [State.readTable, htable, hp, hwithin, hindex, hbyte, if_true]

theorem State.readTable_beyond
    (h : Table.ofSelect s.lp.tableSelect = none ∨ ∃ table, Table.ofSelect s.lp.tableSelect = some table ∧
      table.count * table.size ≤ s.lp.tablePointer.toNat) :
    s.readTable = s.setLp { s.lp with tablePointer := s.lp.tablePointer + 1, sent := 0 } := by
  rcases h with hnone | ⟨table, hsome, hbeyond⟩
  · simp only [State.readTable, hnone]
    rfl
  · simp only [State.readTable, hsome, Nat.not_lt.2 hbeyond, if_false]
    rfl

end

/-- Settles O47: the reads go by the offset that the pointer names; the pages and the entries by the codes and the fields
of Chapter 12. -/
theorem portReadsSendTheirRegisters : Obligations.PortReadsSendTheirRegisters := by
  unfold Obligations.PortReadsSendTheirRegisters
  refine ⟨?reads, ?pages, ?demand, ?stations, fun s side f hf => ?filters, fun s n => ?counters,
    fun s ages hlength hages => ?frost, fun s i id k h => s.tableEntry_commissioning h, State.tableEntry_curve,
    fun s n c readings hc hlength hreadings => ?channels⟩
  case reads =>
    rintro s p lp hrun hstage rfl rfl
    refine ⟨fun n page hn hp hpage => ?_, fun n fresh copy hn hp hfresh hcopy => ?_,
      fun hp => ⟨fun table i off entry htable hi hoff hpointer hfresh hheld => ?_, fun h => ?_⟩, fun b hb => ?_,
      fun h => ?_, fun h => ?_, fun h => ?_⟩
    · rw [exec_statusAreaRead hrun hstage (Register.at_statusArea _ ⟨n, hn⟩ hp)]
      subst hpage
      rfl
    · rw [exec_digestMirrorRead hrun hstage (Register.at_mirror _ ⟨n, hn⟩ hp)]
      subst hcopy hfresh
      rfl
    · have hentry : s.entryFor table i off = entry := by
        by_cases h : off = 0 ∨ ∀ e, s.lp.entrySnapshot = some e → e.index ≠ i
        · rw [State.entryFor_fresh h, hfresh h]
        · push Not at h
          obtain ⟨hne, e, he, hindex⟩ := h
          rw [State.entryFor_held hne he hindex, hheld e hne he hindex]
      rw [exec_tableDataRead hrun hstage, if_pos hp, State.readTable_within htable hi hoff hpointer, hentry]
      rfl
    · rw [exec_tableDataRead hrun hstage, if_pos hp, State.readTable_beyond h]
    · have hat := exec_registerRead_at (b := b) hrun hstage
      rcases hb with ⟨hp, rfl⟩ | ⟨hp, rfl⟩ | ⟨hp, rfl⟩ | ⟨hp, rfl⟩ | ⟨hp, rfl⟩ | ⟨hp, rfl⟩ | ⟨hp, rfl⟩ | ⟨hp, rfl⟩ |
        ⟨hp, rfl⟩ | ⟨hp, rfl⟩ | ⟨hp, rfl⟩ | ⟨n, hp, rfl⟩ | ⟨hp, rfl⟩ | ⟨hp, rfl⟩ | ⟨hp, rfl⟩ | ⟨hp, rfl⟩ | ⟨hp, rfl⟩ |
        ⟨hp, rfl⟩ | ⟨hp, rfl⟩ | ⟨hp, rfl⟩ | ⟨hp, rfl⟩ | ⟨hp, rfl⟩
      · exact hat 0x00 hp rfl
      · exact hat 0x01 hp rfl
      · exact hat 0x02 hp rfl
      · exact hat 0x03 hp rfl
      · exact hat 0x14 hp rfl
      · exact hat 0x19 hp rfl
      · exact hat 0x1A hp rfl
      · exact hat 0x1B hp rfl
      · exact hat 0x1C hp rfl
      · exact hat 0x1D hp (congrArg some (by cases s.eu.suspended <;> rfl))
      · exact hat 0x1E hp rfl
      · exact hat s.lp.pointer rfl (by rw [Register.at_parameter _ n hp]; rfl)
      · exact hat 0x27 hp rfl
      · exact hat 0x28 hp (congrArg some s.resultBytes_outcome)
      · exact hat 0x29 hp (congrArg some s.resultBytes_kind)
      · exact hat 0x2A hp (congrArg some s.resultBytes_count)
      · exact hat 0x2B hp (congrArg some s.resultBytes_flags)
      · exact hat 0x2C hp rfl
      · exact hat 0x2D hp (congrArg some (setWidth_eq_ofNat_low _))
      · exact hat 0x2E hp (congrArg some (setWidth_eq_ofNat_high _))
      · exact hat 0x30 hp rfl
      · exact hat s.lp.pointer rfl (by rw [Register.at_unused _ hp]; rfl)
    · exact exec_statusAreaRead_other hrun hstage (Bool.eq_false_iff.2 fun hin => by
        have := (Register.at_isStatusArea _).1 hin
        omega)
    · exact exec_digestMirrorRead_other hrun hstage (Bool.eq_false_iff.2 fun hin => by
        have := (Register.at_isMirror _).1 hin
        omega)
    · rw [exec_tableDataRead hrun hstage, if_neg h]
  case pages =>
    intro s select
    rw [s.statusPage_eq, s.pageUnit_padded, s.pageUnit_eq, s.ae.supply.page_padded, s.ae.supply.page_eq,
      s.ae.extract.page_padded, s.ae.extract.page_eq, s.pageCore_padded, s.pagePlan_padded, s.pagePlan_eq]
    by_cases h0 : select = 0
    · rw [if_pos h0, if_pos h0]
      simp only [List.append_assoc, List.cons_append, List.nil_append]
    rw [if_neg h0, if_neg h0]
    by_cases h1 : select = 1
    · rw [if_pos h1, if_pos (.inl h1), if_pos h1]
      rfl
    rw [if_neg h1]
    by_cases h2 : select = 2
    · rw [if_pos h2, if_pos (.inr h2), if_neg h1]
      rfl
    rw [if_neg h2, if_neg (not_or.2 ⟨h1, h2⟩)]
  case demand =>
    rintro s i entry hi hentry
    have hplace : s.tableEntry .demand i = demandPlace entry := congrArg demandPlace hentry.symm
    rw [hplace]
    exact ⟨fun h => by rw [h]; rfl, fun e h => by rw [h, demandPlace_some]⟩
  case stations =>
    rintro s i x rfl
    show atIndex i.val (fun n : Fin 15 => stationPlace s.rl.slots[n] (s.hm.humidAt n)) = _
    rw [atIndex_val, stationPlace_eq]
    simp only [Humidity.humidAt_iff]
    rfl
  case filters =>
    subst hf
    rw [← FilterRecord.place_eq]
    cases side <;> rfl
  case counters =>
    show atIndex n.val (fun n : Fin 8 => bytes16 s.eu.copies[n]) = _
    rw [atIndex_val, bytes16_eq]
  case frost =>
    subst hages
    exact State.frostPlace_eq hlength
  case channels =>
    subst hc hreadings
    exact (atIndex_val n _).trans (Channel.place_eq _ n hlength)

end Sys2Proof.Machine

/-! SUPPORT. The event unit at the port, and the counters; then the obligations O48 and O49. -/

namespace Sys2Proof.Machine

section
variable {s t : State}

/-! ## Words, masks and the IRQ control (R175 to R178) -/

theorem EventUnit.clearWord_coherent {e : EventUnit} (h : e.Coherent) (w : EventWord) : (e.clearWord w).Coherent :=
  (EventUnit.Move.clearWord w).coherent h

/-- A word read is cleared, and no other. -/
theorem EventUnit.isSet_clearWord (e : EventUnit) (w : EventWord) (f : Flag) :
    (e.clearWord w).isSet f = if f.word = w then false else e.isSet f := by
  unfold EventUnit.isSet EventUnit.clearWord
  by_cases h : f.word = w
  · rw [if_pos h, EventUnit.settle_flags, h, EventBytes.get_put_self, BitVec.and_not_self]
    exact congrArg (· != 0) BitVec.zero_and
  · rw [if_neg h, EventUnit.settle_flags, EventBytes.get_put_ne _ h]

theorem EventBytes.zero_isSet (e : EventUnit) (h : e.flags = EventBytes.zero) (f : Flag) : e.isSet f = false := by
  have hzero : e.flags.get f.word = 0 := by rw [h]; cases f.word <;> rfl
  rw [EventUnit.isSet, hzero]
  exact congrArg (· != 0) BitVec.zero_and

theorem EventUnit.isSet_control (e : EventUnit) (b : Byte) (f : Flag) :
    (e.control b).isSet f = (e.isSet f && !b.getLsbD 1) := by
  by_cases h : b.getLsbD 1 = true
  · rw [h, Bool.not_true, Bool.and_false]
    exact EventBytes.zero_isSet _ (by rw [EventUnit.control, EventUnit.settle_flags]; exact if_pos h) f
  · have hflags : (e.control b).flags = e.flags := by rw [EventUnit.control, EventUnit.settle_flags]; exact if_neg h
    rw [Bool.eq_false_iff.2 h, Bool.not_false, Bool.and_true, EventUnit.isSet, hflags]
    rfl

/-- A unit whose flags are all clear keeps its pin inactive. -/
theorem EventUnit.Coherent.irq_of_clear {e : EventUnit} (h : e.Coherent) (hclear : ∀ f, e.isSet f = false) :
    e.irq = false := by
  have hany : (Flag.all.any fun f => e.isSet f && e.unmasked f) = false := by
    rw [List.any_eq_false]
    intro f _
    simp [hclear f]
  rw [h.1, EventUnit.drives, hany, Bool.false_and]

/-! ## The registers of the event unit (12.4) -/

theorem Register.at_eventWord : ∀ p : BitVec 6, 0x15 ≤ p.toNat ∧ p.toNat ≤ 0x18 →
    Register.at p = .eventWord (wordAt (p.toNat - 0x15)) := by decide

theorem Register.at_maskWord : ∀ p : BitVec 6, 0x19 ≤ p.toNat ∧ p.toNat ≤ 0x1C →
    Register.at p = .maskWord (wordAt (p.toNat - 0x19)) := by decide

theorem Register.at_eq_irqControl : ∀ p : BitVec 6, Register.at p = .irqControl ↔ p.toNat = 0x1D := by decide

def Register.isEventWord : Register → Bool
  | .eventWord _ => true
  | _ => false

def Register.isMaskWord : Register → Bool
  | .maskWord _ => true
  | _ => false

theorem Register.at_isEventWord : ∀ p : BitVec 6,
    (Register.at p).isEventWord = true ↔ 0x15 ≤ p.toNat ∧ p.toNat ≤ 0x18 := by decide

theorem Register.at_isMaskWord : ∀ p : BitVec 6,
    (Register.at p).isMaskWord = true ↔ 0x19 ≤ p.toNat ∧ p.toNat ≤ 0x1C := by decide

theorem State.reading_of_ne {f : Register → State → State} (h : s.lp.stage ≠ .reading) : s.reading f = s := by
  unfold State.reading State.whenRunning
  split
  · exact if_neg h
  · rfl

theorem State.writing_of_ne {f : Register → State → State} (h : s.lp.stage ≠ .writing) : s.writing f = s := by
  unfold State.writing State.whenRunning
  split
  · exact if_neg h
  · rfl

theorem exec_eventWordRead {w : EventWord} (hrun : s.phase = .running) (hstage : s.lp.stage = .reading)
    (h : s.lp.register = .eventWord w) :
    exec .eventWordRead s = .next ((s.setEu (s.eu.clearWord w)).setLp (s.lp.send (s.eu.flags.get w))) :=
  congrArg Host.Outcome.next ((State.reading_of hrun hstage).trans (by rw [h]))

theorem exec_eventWordRead_other (hrun : s.phase = .running)
    (h : s.lp.stage ≠ .reading ∨ s.lp.register.isEventWord = false) : exec .eventWordRead s = .next s := by
  by_cases hstage : s.lp.stage = .reading
  · refine congrArg Host.Outcome.next ((State.reading_of hrun hstage).trans ?_)
    split
    case h_1 w hw => exact nomatch (congrArg Register.isEventWord hw).symm.trans (h.resolve_left (not_not.2 hstage))
    case h_2 => rfl
  · exact congrArg Host.Outcome.next (State.reading_of_ne hstage)

theorem exec_maskWrite {w : EventWord} (hrun : s.phase = .running) (hstage : s.lp.stage = .writing)
    (h : s.lp.register = .maskWord w) (b : Byte) :
    exec (.maskWrite b) s = .next ((s.setEu (s.eu.writeMask w b)).setLpNext s.lp) :=
  congrArg Host.Outcome.next ((State.writing_of hrun hstage).trans (by rw [h]))

theorem exec_maskWrite_other (hrun : s.phase = .running)
    (h : s.lp.stage ≠ .writing ∨ s.lp.register.isMaskWord = false) (b : Byte) : exec (.maskWrite b) s = .next s := by
  by_cases hstage : s.lp.stage = .writing
  · refine congrArg Host.Outcome.next ((State.writing_of hrun hstage).trans ?_)
    split
    case h_1 w hw => exact nomatch (congrArg Register.isMaskWord hw).symm.trans (h.resolve_left (not_not.2 hstage))
    case h_2 => rfl
  · exact congrArg Host.Outcome.next (State.writing_of_ne hstage)

theorem State.controlIrq_at (hrun : s.phase = .running) (hstage : s.lp.stage = .writing)
    (hp : s.lp.pointer.toNat = 0x1D) (b : Byte) : s.controlIrq b = (s.setEu (s.eu.control b)).setLpNext s.lp :=
  (State.writing_of hrun hstage).trans (if_pos ((Register.at_eq_irqControl _).2 hp))

theorem State.controlIrq_other (hrun : s.phase = .running)
    (h : s.lp.stage ≠ .writing ∨ s.lp.pointer.toNat ≠ 0x1D) (b : Byte) : s.controlIrq b = s := by
  by_cases hstage : s.lp.stage = .writing
  · exact (State.writing_of hrun hstage).trans
      (if_neg fun hr => h.resolve_left (not_not.2 hstage) ((Register.at_eq_irqControl _).1 hr))
  · exact State.writing_of_ne hstage

/-- ACK_ALL acts with its bit set, whatever the byte carries there. -/
theorem getLsbD_or_two (b : Byte) : (b ||| 0x02).getLsbD 0 = b.getLsbD 0 ∧ (b ||| 0x02).getLsbD 1 = true := by
  simp

theorem or_two_of_getLsbD {b : Byte} (h : b.getLsbD 1 = true) : b ||| 0x02 = b := by
  revert b
  decide

theorem EventUnit.control_coherent {e : EventUnit} (h : e.Coherent) (b : Byte) : (e.control b).Coherent :=
  (EventUnit.Move.control b).coherent h

/-! ## Counters (R179 to R181) -/

theorem Counter.index_ne {c d : Counter} (h : d ≠ c) : d.index ≠ c.index := by
  revert h
  cases c <;> cases d <;> decide

/-- A live value wraps exactly from 65535. -/
theorem wraps_iff (w : Word16) : (w + 1 == 0) = (w == 0xFFFF) := by
  rw [Bool.eq_iff_iff, beq_iff_eq, beq_iff_eq]
  constructor <;> intro h <;> bv_omega

theorem exec_hourMark (h : s.phase ≠ .held) :
    exec .hourMark s = .next (if s.settings.counterSnapshot then s.setEu s.eu.copyAll else s) :=
  congrArg Host.Outcome.next (State.unlessHeld_of_ne h _)

theorem EventUnit.allZero_iff (e : EventUnit) :
    e.allZero = true ↔ ∀ n : Fin 8, e.live[n] = 0 ∧ e.copies[n] = 0 := by
  have hvector (v : Vector Word16 8) : v = Vector.replicate 8 0 ↔ ∀ n : Fin 8, v[n] = 0 := by
    constructor
    · rintro rfl n
      simp
    · exact fun h => Vector.ext fun i hi => by simpa using h ⟨i, hi⟩
  rw [EventUnit.allZero, Bool.and_eq_true, beq_iff_eq, beq_iff_eq, hvector, hvector, forall_and]

end

/-- Settles O48: the event unit moves by the register that the pointer names, and settles its pin. -/
theorem eventWordsMasksAndThePin : Obligations.EventWordsMasksAndThePin := by
  unfold Obligations.EventWordsMasksAndThePin
  refine ⟨fun s f h => ⟨s.eu.raise f, rfl, ?_, fun g hg => ?_, EventUnit.raise_coherent h.clean f, rfl⟩,
    fun s w n lp hrun hcoherent hlp hn => ⟨fun hstage hp => ?_, fun b hstage hp => ?_, fun b hstage hp => ?_⟩,
    fun s b p hrun hp => ⟨fun h => ?_, fun h => ?_, fun h => ?_⟩⟩
  · rw [EventUnit.isSet_raise, beq_self_eq_true, Bool.or_true]
  · rw [EventUnit.isSet_raise, beq_eq_false_iff_ne.2 hg, Bool.or_false]
  · have hword : s.lp.register = .eventWord w := by
      have hat := Register.at_eventWord s.lp.pointer (by cases w <;> simp only at hn <;> omega)
      rw [hp, Nat.add_sub_cancel_left, hn] at hat
      exact hat.trans (by cases w <;> rfl)
    subst hlp
    exact ⟨_, exec_eventWordRead hrun hstage hword, s.eu.isSet_clearWord w, EventUnit.clearWord_coherent hcoherent w, rfl⟩
  · have hword : s.lp.register = .maskWord w := by
      have hat := Register.at_maskWord s.lp.pointer (by cases w <;> simp only at hn <;> omega)
      rw [hp, Nat.add_sub_cancel_left, hn] at hat
      exact hat.trans (by cases w <;> rfl)
    subst hlp
    exact ⟨_, exec_maskWrite hrun hstage hword b, EventBytes.get_put_self _ _ _,
      fun v hv => EventBytes.get_put_ne _ hv _, (EventUnit.Move.writeMask w b).coherent hcoherent, rfl⟩
  · subst hlp
    have hsuspend := State.controlIrq_at hrun hstage hp b
    have hack := State.controlIrq_at hrun hstage hp (b ||| 0x02)
    obtain ⟨hbit0, hbit1⟩ := getLsbD_or_two b
    have hclear (f : Flag) : (s.eu.control (b ||| 0x02)).isSet f = false := by
      rw [EventUnit.isSet_control, hbit1, Bool.not_true, Bool.and_false]
    refine ⟨⟨_, congrArg Host.Outcome.next hsuspend, rfl, fun f => s.eu.isSet_control b f,
      EventUnit.control_coherent hcoherent b, rfl⟩, fun h => ?_, ⟨_, congrArg Host.Outcome.next hack, hbit0, hclear,
      (EventUnit.control_coherent hcoherent _).irq_of_clear hclear, rfl⟩⟩
    exact congrArg (fun b => Host.Outcome.next (s.controlIrq b)) (or_two_of_getLsbD h)
  · refine exec_eventWordRead_other hrun (h.imp_right fun hout => Bool.eq_false_iff.2 fun hin => ?_)
    have := (Register.at_isEventWord _).1 hin
    omega
  · refine exec_maskWrite_other hrun (h.imp_right fun hout => Bool.eq_false_iff.2 fun hin => ?_) b
    have := (Register.at_isMaskWord _).1 hin
    omega
  · rw [hp] at h
    exact ⟨congrArg Host.Outcome.next (State.controlIrq_other hrun h b),
      congrArg Host.Outcome.next (State.controlIrq_other hrun h _)⟩

/-- Settles O49: a count moves its own live value and copy, the hour mark all copies, CLEAR_COUNTERS all sixteen. -/
theorem countersCountCopyAndClear : Obligations.CountersCountCopyAndClear := by
  unfold Obligations.CountersCountCopyAndClear
  refine ⟨fun s c => ⟨_, rfl, ?live, fun d hd => ⟨?otherLive, ?otherCopy⟩, fun hoff => ?follows, fun hon => ?held,
    fun f => ?flags, EventUnit.count_masks _ _ _, EventUnit.count_suspended _ _ _⟩,
    fun s hheld => ⟨fun hoff => ?_, fun hon => ?_⟩, fun s src hask => ?clear⟩
  case live => rw [EventUnit.count_live, getElem_setAt_self]
  case otherLive => rw [EventUnit.count_live, getElem_setAt_ne _ (Counter.index_ne hd)]
  case otherCopy =>
    rw [EventUnit.count_copies]
    split
    · rfl
    · rw [getElem_setAt_ne _ (Counter.index_ne hd)]
  case follows =>
    rw [EventUnit.count_copies, EventUnit.count_live, hoff, getElem_setAt_self]
    exact getElem_setAt_self _ _ _
  case held =>
    rw [EventUnit.count_copies, hon]
    rfl
  case flags => rw [EventUnit.isSet_count, wraps_iff]
  · rw [exec_hourMark hheld, hoff]
    rfl
  · rw [exec_hourMark hheld, hon]
    rfl
  case clear =>
    have hc : requestOf (.clearCounters src) = some (Request.bare RequestKind.clearCounters.code src) := rfl
    refine ⟨s.eu.clearCounters, if s.eu.allZero then .doneNothing else .done,
      exec_accepted (k := .clearCounters) hc hask rfl rfl (by split <;> rfl), fun n => ⟨?_, ?_⟩, rfl, fun h => ?_,
      fun h => if_pos ((EventUnit.allZero_iff _).2 h)⟩
    · exact Vector.getElem_replicate _
    · exact Vector.getElem_replicate _
    · refine if_neg fun hzero => ?_
      obtain ⟨n, hn⟩ := h
      obtain ⟨hlive, hcopy⟩ := (EventUnit.allZero_iff _).1 hzero n
      exact hn.elim (absurd hlive) (absurd hcopy)

end Sys2Proof.Machine

/-! SUPPORT. Writing a setting: the value that a write leaves, the ids of 12.5, and what each owner's reaction moves;
then the obligation O50. -/

namespace Sys2Proof.Machine

section
variable {s t : State}

/-! ## The value that a write leaves (R187, R188) -/

theorem Settings.crossLimits_le_clampValue (set : Settings) (k : SettingId) (v : Int) :
    (set.crossLimits k).1 ≤ set.clampValue k v := le_max_left _ _

/-- The settings whose own limits do not hang on another setting: their range is fixed, and admits what it clamps. -/
theorem Settings.clampValue_in_range (set : Settings) {k : SettingId} (hcross : set.crossLimits k = set.range k)
    (hrange : (set.range k).1 ≤ (set.range k).2) (v : Int) :
    (set.range k).1 ≤ set.clampValue k v ∧ set.clampValue k v ≤ (set.range k).2 := by
  unfold Settings.clampValue
  rw [hcross]
  exact clampTo_mem hrange _

theorem Settings.permission_range (set : Settings) (k : RequestKind) (c : PrivilegeClass) :
    (set.range (.permission k c)).1 ≤ (set.range (.permission k c)).2 :=
  have h := set.permission_inRange k c
  h.1.trans h.2

theorem pollBits_idem (v : Int) : normalValue .pollList (normalValue .pollList v) = normalValue .pollList v := by
  simp only [normalValue, BitVec.ofInt_toInt, BitVec.and_assoc, BitVec.and_self]

theorem Settings.clampValue_pollList (set : Settings) (v : Int) :
    set.clampValue .pollList (normalValue .pollList v) = normalValue .pollList v := by
  have hlo := BitVec.le_toInt (BitVec.ofInt 16 v &&& 0xFFFE)
  have hhi := BitVec.toInt_lt (x := BitVec.ofInt 16 v &&& 0xFFFE)
  simp only [Settings.clampValue, Settings.crossLimits, Settings.range, clampTo, normalValue] at hlo hhi ⊢
  omega

theorem betweenNeighbours_nonneg (v : Vector Nat 8) (top : Nat) (i : Fin 8) : 0 ≤ (betweenNeighbours v top i).1 := by
  unfold betweenNeighbours
  dsimp only
  split <;> omega

/-- Whatever the record holds, a setting reads back the clamped value that is put into it. -/
theorem Settings.get_put_clampValue (set : Settings) (k : SettingId) (v : Int) :
    (set.put k (set.clampValue k (normalValue k v))).get k = set.clampValue k (normalValue k v) := by
  have hlower := set.crossLimits_le_clampValue k (normalValue k v)
  have hfixed (hcross : set.crossLimits k = set.range k) (hrange : (set.range k).1 ≤ (set.range k).2)
      (hnormal : ∀ w, normalValue k w = w) :
      (set.put k (set.clampValue k (normalValue k v))).get k = set.clampValue k (normalValue k v) :=
    (set.get_put_self (set.clampValue_in_range hcross hrange _)).trans (hnormal _)
  cases k
  case pollList => rw [Settings.clampValue_pollList]; exact pollBits_idem v
  case frostBaseLimit => rfl
  case frostEnable => rfl
  case defaultBaseLevel => exact hfixed rfl (show (0 : Int) ≤ 4 by decide) fun _ => rfl
  case seasonObserve => exact hfixed rfl (show (0 : Int) ≤ 1 by decide) fun _ => rfl
  case counterSnapshot => exact hfixed rfl (show (0 : Int) ≤ 1 by decide) fun _ => rfl
  case permission k c => exact hfixed rfl (set.permission_range k c) fun _ => rfl
  case curveFlow side i =>
    have hnonneg := (betweenNeighbours_nonneg (set.curve side).flows 400 i).trans hlower
    simp [Settings.put, Settings.get, hnonneg]
  case curveSpeed side i =>
    have hnonneg := (betweenNeighbours_nonneg (set.curve side).speeds 6000 i).trans hlower
    simp [Settings.put, Settings.get, hnonneg]
  all_goals
    simp only [Settings.crossLimits, Settings.range] at hlower
    simp only [Settings.put, Settings.get, Fin.getElem_fin, Vector.getElem_set_self]
    omega

theorem Settings.get_write_clampValue (set : Settings) (k : SettingId) (v : Int) :
    (set.write k (set.clampValue k (normalValue k v))).get k = set.clampValue k (normalValue k v) := by
  have hput := set.get_put_clampValue k v
  unfold Settings.write
  split
  · exact hput
  · exact hput
  · exact hput

/-- Which flows a written Qmin or Qmax carries along. -/
theorem SettingId.carried_iff (k : SettingId) :
    k.carried = true ↔ (∃ i, k = .level i) ∨ k = .defrostExtract ∨ k = .unbalancedCeiling := by
  cases k <;> simp [SettingId.carried]

/-- A written Qmin or Qmax brings each flow carried along within the two as they then stand. -/
theorem Settings.get_write_carried (set : Settings) {k id : SettingId} (hk : k = .qmin ∨ k = .qmax)
    (hcarried : id.carried = true) (v : Int) :
    (set.write k v).get id =
      max ((set.write k v).qmin : Int) (min (set.get id) ((set.write k v).qmax : Int)) := by
  have hne : id ≠ k := by
    rintro rfl
    rcases hk with rfl | rfl <;> exact nomatch hcarried
  have hwrite : set.write k v = (set.put k v).carryFlows := by rcases hk with rfl | rfl <;> rfl
  rw [hwrite, Settings.get_carryFlows _ hcarried, Settings.get_put_ne _ hne]
  rfl

/-- A write that is not of Qmin or Qmax, and any write at a setting that is not carried along, leaves another setting. -/
theorem Settings.get_write_other (set : Settings) {k id : SettingId} (hne : id ≠ k)
    (h : k ≠ .qmin ∧ k ≠ .qmax ∨ id.carried = false) (v : Int) : (set.write k v).get id = set.get id := by
  rcases h with ⟨hmin, hmax⟩ | hcarried
  · have hwrite : set.write k v = set.put k v := by
      unfold Settings.write
      split
      · exact absurd rfl hmin
      · exact absurd rfl hmax
      · rfl
    rw [hwrite, Settings.get_put_ne _ hne]
  · exact set.get_write_ne hne hcarried v

/-- In a legal record a flow that is carried along lies between Qmin and Qmax. -/
theorem Settings.Legal.get_carried {set : Settings} (h : set.Legal) {id : SettingId} (hcarried : id.carried = true) :
    set.get id = max (set.qmin : Int) (min (set.get id) (set.qmax : Int)) := by
  obtain ⟨hranges, -⟩ := set.legal_iff.1 h
  have hid := hranges id
  unfold Settings.InRange at hid
  rw [SettingId.range_carried hcarried] at hid
  obtain ⟨hlo, hhi⟩ := hid
  rw [min_eq_left hhi, max_eq_right hlo]

/-! ## The settings store at WRITE_SETTING (R187) -/

theorem State.leaveList_ss (s : State) (i : Fin 15) : (s.leaveList i).ss = s.ss := by
  unfold State.leaveList
  split
  · rfl
  all_goals exact s.enterLost_ss i

theorem State.pollListChanged_ss (s : State) (before : BitVec 16) : (s.pollListChanged before).ss = s.ss := by
  refine foldl_slots_keeps (P := fun t => t.ss = s.ss) (fun t i _ ht => ?_) rfl
  unfold State.listChanged
  split
  · split
    · exact ht
    · exact (t.leaveList_ss i).trans ht
  · exact ht

/-- An owner's reaction leaves the settings store. -/
theorem State.react_ss (s : State) (before : Settings) (id : SettingId) : (s.react before id).ss = s.ss := by
  unfold State.react
  split
  case h_11 =>
    unfold State.heatAddressChanged
    dsimp only
    split <;> rfl
  case h_12 => split <;> rfl
  case h_13 => exact s.pollListChanged_ss _
  all_goals rfl

/-- The state after a setting is given a value within its limits: untouched if it holds the value, written with its
owner's reaction if not. -/
def State.withSetting (s : State) (k : SettingId) (v : Int) : State :=
  if v = s.settings.get k then s else (s.withWorking (s.settings.write k v)).react s.settings k

theorem State.withSetting_same {k : SettingId} {v : Int} (h : v = s.settings.get k) : s.withSetting k v = s := if_pos h

theorem State.withSetting_ss (s : State) (k : SettingId) (v : Int) :
    (s.withSetting k v).ss =
      { s.ss with working := if v = s.settings.get k then s.settings else s.settings.write k v } := by
  unfold State.withSetting
  split
  · rfl
  · rw [State.react_ss]
    rfl

theorem State.withSetting_settings (s : State) (k : SettingId) (v : Int) :
    (s.withSetting k v).settings = if v = s.settings.get k then s.settings else s.settings.write k v :=
  congrArg SettingsStore.working (s.withSetting_ss k v)

/-- The outcome of a write by the value asked and the value left (R187). -/
def writeOutcome (asked v held : Int) : RequestOutcome :=
  if v ≠ asked then .doneClamped else if v = held then .doneNothing else .done

theorem State.writeSetting_of_id {id value : Word16} {k : SettingId} (hidle : s.ss.store = .idle)
    (hk : SettingId.ofId id.toNat = some k) {asked v : Int} (hasked : asked = normalValue k value.toInt)
    (hv : v = s.settings.clampValue k asked) :
    s.writeSetting id value = (s.withSetting k v, writeOutcome asked v (s.settings.get k)) := by
  subst hasked hv
  unfold State.writeSetting State.withSetting writeOutcome
  rw [if_neg (not_not.2 hidle), hk]
  dsimp only
  split <;> split <;> simp_all

theorem exec_writeSetting {src : Master} (hask : s.CanAsk src .writeSetting) {id value : Word16} {k : SettingId}
    (hidle : s.ss.store = .idle) (hk : SettingId.ofId id.toNat = some k) {asked v : Int}
    (hasked : asked = normalValue k value.toInt) (hv : v = s.settings.clampValue k asked) :
    exec (.writeSetting src (some id) (some value)) s = .next ((s.withSetting k v).deliver src
      { outcome := writeOutcome asked v (s.settings.get k), kindCode := RequestKind.writeSetting.code }) := by
  have hc : requestOf (.writeSetting src (some id) (some value)) =
    some { Request.bare RequestKind.writeSetting.code src with settingId := some id, value := some value } := rfl
  refine exec_accepted (k := .writeSetting) hc hask rfl (State.writeSetting_of_id hidle hk hasked hv) ?_
  unfold writeOutcome
  split
  · rfl
  · split <;> rfl

/-- A write that the settings store refuses. -/
theorem exec_writeSetting_refused {src : Master} (hask : s.CanAsk src .writeSetting) {id value : Option Word16}
    {o : RequestOutcome} (h : need s id (fun i => need s value fun v => s.writeSetting i v) = (s, o))
    (ho : o.isRefusal = true) :
    exec (.writeSetting src id value) s =
      .next ((s.count .requestsRefused).deliver src { outcome := o, kindCode := RequestKind.writeSetting.code }) := by
  have hc : requestOf (.writeSetting src id value) =
    some { Request.bare RequestKind.writeSetting.code src with settingId := id, value := value } := rfl
  exact exec_refused (k := .writeSetting) hc hask rfl h ho

/-! ## The ids (12.5) -/

/-- In a table whose keys are distinct, a search by key finds exactly the table's pairs. -/
theorem find?_key_iff {α : Type} {l : List (Nat × α)} (h : (l.map Prod.fst).Nodup) (n : Nat) (x : α) :
    (l.find? fun p => p.1 == n).map Prod.snd = some x ↔ (n, x) ∈ l := by
  induction l with
  | nil => simp
  | cons p l ih =>
    obtain ⟨hp, hl⟩ := List.nodup_cons.1 h
    by_cases hn : p.1 = n
    · rw [List.find?_cons, beq_iff_eq.2 hn]
      dsimp only
      rw [Option.map_some, Option.some_inj, List.mem_cons]
      constructor
      · rintro rfl
        exact .inl (Prod.ext hn.symm rfl)
      · rintro (heq | hmem)
        · exact congrArg Prod.snd heq.symm
        · exact absurd (List.mem_map.2 ⟨_, hmem, hn.symm⟩) hp
    · rw [List.find?_cons, beq_eq_false_iff_ne.2 hn]
      dsimp only
      rw [ih hl, List.mem_cons, or_iff_right]
      exact fun heq => hn (congrArg Prod.fst heq.symm)

/-- The ids of 12.5, in ascending order. -/
theorem settingTable_ids : settingTable.map Prod.fst = List.range' 1 0x2C ++ List.range' 0x40 0x20 ++
    (List.range 16).flatMap fun k => [0x80 + 4 * k, 0x80 + 4 * k + 1, 0x80 + 4 * k + 2] := by decide

theorem settingTable_nodup : (settingTable.map Prod.fst).Nodup := by
  rw [settingTable_ids]
  decide

theorem SettingId.ofId_eq_some_iff (n : Nat) (k : SettingId) : SettingId.ofId n = some k ↔ (n, k) ∈ settingTable :=
  find?_key_iff settingTable_nodup n k

theorem SettingId.ofId_permission (n : Fin 16) (c : PrivilegeClass) :
    SettingId.ofId (0x80 + c.index.val + 4 * n.val) = some (.permission (RequestKind.all[n.val]'n.isLt) c) := by
  revert n
  cases c <;> decide

end

/-- Settles O50: the store's own refusals, and the write by the value that the limits leave. -/
theorem writeSettingClampsAndWrites : Obligations.WriteSettingClampsAndWrites := by
  unfold Obligations.WriteSettingClampsAndWrites
  refine ⟨fun s src hask => ⟨fun idAsked valueAsked habsent => ?absent, fun id value => ⟨fun hbusy => ?busy,
    fun hidle hnone => ?unnamed, fun k asked v hidle hlegal hk hasked hv => ?written⟩⟩, rfl,
    SettingId.ofId_eq_some_iff, ?curves, ?permissions⟩
  case absent =>
    refine exec_writeSetting_refused hask ?_ rfl
    rcases habsent with rfl | rfl
    · rfl
    · cases idAsked <;> rfl
  case busy => exact exec_writeSetting_refused hask (if_pos hbusy) rfl
  case unnamed =>
    refine exec_writeSetting_refused hask ((if_neg (not_not.2 hidle)).trans ?_) rfl
    rw [hnone]
  case written =>
    have hnormal : asked = normalValue k value.toInt := by
      rw [hasked]
      by_cases hpoll : k = .pollList
      · subst hpoll
        rw [if_pos rfl, normalValue, BitVec.ofInt_toInt]
      · rw [if_neg hpoll]
        unfold normalValue
        split
        · exact absurd rfl hpoll
        · rfl
    have hvalue : v = s.settings.clampValue k asked := hv.trans (by unfold Settings.clampValue clampTo; omega)
    refine ⟨_, exec_writeSetting hask hidle hk hnormal hvalue, State.withSetting_same, ?_, ?_, fun other hne => ⟨?_, ?_⟩⟩
    · rw [State.withSetting_ss, State.withSetting_settings]
    · rw [State.withSetting_settings]
      by_cases hsame : v = s.settings.get k
      · rw [if_pos hsame, hsame]
      · rw [if_neg hsame, hvalue, hnormal, Settings.get_write_clampValue]
    · rintro ⟨hflow, hother⟩
      rw [State.withSetting_settings]
      by_cases hsame : v = s.settings.get k
      · rw [if_pos hsame]
        exact hlegal.get_carried ((SettingId.carried_iff _).2 hother)
      · rw [if_neg hsame]
        exact s.settings.get_write_carried hflow ((SettingId.carried_iff _).2 hother) v
    · intro hother
      rw [State.withSetting_settings]
      by_cases hsame : v = s.settings.get k
      · rw [if_pos hsame]
      · rw [if_neg hsame]
        refine s.settings.get_write_other hne (hother.imp_right fun hnot => ?_) v
        obtain ⟨hlevel, hdefrost, hceiling⟩ := hnot
        rw [Bool.eq_false_iff, ne_eq, SettingId.carried_iff]
        rintro (⟨i, hi⟩ | hi | hi)
        · exact hlevel i hi
        · exact hdefrost hi
        · exact hceiling hi
  case curves => decide
  case permissions =>
    intro n k hn
    have hall : RequestKind.all[n]? = some k := hn
    obtain ⟨hlt, hk⟩ := List.getElem?_eq_some_iff.1 hall
    subst hk
    exact ⟨SettingId.ofId_permission ⟨n, hlt⟩ .occupant, SettingId.ofId_permission ⟨n, hlt⟩ .installer,
      SettingId.ofId_permission ⟨n, hlt⟩ .unit⟩

end Sys2Proof.Machine

/-! SUPPORT. What the losses of a poll-list change leave (R149, R162), slot by slot and together. -/

namespace Sys2Proof.Machine

section
variable {s t u : State} {i : Fin 15}

/-! ## The event unit through a loss -/

/-- Another event unit that differs in its flags and its pin alone. -/
def EventUnit.OnlyFlags (e e' : EventUnit) : Prop := e' = { e with flags := e'.flags, irq := e'.irq }

theorem EventUnit.OnlyFlags.refl (e : EventUnit) : e.OnlyFlags e := rfl

theorem EventUnit.OnlyFlags.trans {a b c : EventUnit} (hab : a.OnlyFlags b) (hbc : b.OnlyFlags c) : a.OnlyFlags c := by
  unfold EventUnit.OnlyFlags at *
  rw [hbc, hab]

theorem EventUnit.OnlyFlags.raise (e : EventUnit) (f : Flag) : e.OnlyFlags (e.raise f) := rfl

theorem State.handOn_onlyFlags (s : State) (side : Side) (f : FilterRecord) : s.eu.OnlyFlags (s.handOn side f).eu := by
  unfold State.handOn
  dsimp only
  split
  · exact EventUnit.OnlyFlags.refl _
  · exact EventUnit.OnlyFlags.raise _ _

theorem State.abandonOwned_onlyFlags (s : State) (side : Side) (m : Master) :
    s.eu.OnlyFlags (s.abandonOwned side m).eu := by
  unfold State.abandonOwned State.abandonChange
  split
  · dsimp only
    split
    · exact (s.handOn_onlyFlags side _).trans (EventUnit.OnlyFlags.raise _ _)
    · exact EventUnit.OnlyFlags.refl _
  · exact EventUnit.OnlyFlags.refl _

/-- A flag that stands is not taken back by an abandoned change. -/
theorem State.abandonOwned_keeps_flag {x : Flag} (h : s.eu.isSet x = true) (side : Side) (m : Master) :
    (s.abandonOwned side m).eu.isSet x = true := by
  unfold State.abandonOwned State.abandonChange
  split
  · dsimp only
    split
    · rw [State.raise_eu, EventUnit.isSet_raise, (State.handOn_isSet s side _ x).2 (.inl h)]
      rfl
    · exact h
  · exact h

/-- The event unit after a loss is that after the changes of its source are abandoned. -/
theorem State.reportLoss_eu (s : State) (i : Fin 15) :
    (slotMaster i = none → (s.reportLoss i).eu = s.eu) ∧ ∀ m, slotMaster i = some m →
      (s.reportLoss i).eu = (((s.removeMaster m).abandonOwned .supply m).abandonOwned .extract m).eu := by
  have hstation (t : State) : ((if h : i.val < 4 then t.clearStation ⟨i.val, h⟩ else t) : State).eu = t.eu := by
    split <;> rfl
  have hseason (t : State) : (if i.val + 1 = s.settings.heatAddress then t.judgeObservation else t).eu = t.eu := by
    split <;> rfl
  unfold State.reportLoss
  rw [hseason, hstation]
  cases slotMaster i with
  | none => exact ⟨fun _ => rfl, nofun⟩
  | some m =>
    refine ⟨nofun, fun n hn => ?_⟩
    obtain rfl := Option.some.inj hn
    rfl

theorem State.enterLost_onlyFlags (s : State) (i : Fin 15) : s.eu.OnlyFlags (s.enterLost i).eu := by
  obtain ⟨hnone, hsome⟩ := State.reportLoss_eu (s.withSlot i Slot.lost) i
  unfold State.enterLost
  cases hm : slotMaster i with
  | none =>
    rw [hnone hm]
    exact EventUnit.OnlyFlags.refl _
  | some m =>
    rw [hsome m hm]
    exact (State.abandonOwned_onlyFlags ((s.withSlot i Slot.lost).removeMaster m) .supply m).trans
      (State.abandonOwned_onlyFlags _ .extract m)

theorem State.enterLost_keeps_flag {x : Flag} (h : s.eu.isSet x = true) (i : Fin 15) :
    (s.enterLost i).eu.isSet x = true := by
  obtain ⟨hnone, hsome⟩ := State.reportLoss_eu (s.withSlot i Slot.lost) i
  unfold State.enterLost
  cases hm : slotMaster i with
  | none =>
    rw [hnone hm]
    exact h
  | some m =>
    rw [hsome m hm]
    exact State.abandonOwned_keeps_flag
      (State.abandonOwned_keeps_flag (s := (s.withSlot i Slot.lost).removeMaster m) h .supply m) .extract m

/-! ## The filters through a loss (R126) -/

theorem State.abandonOwned_of_owner_ne {side : Side} {m : Master} (h : (s.fm.filter side).owner ≠ some m) :
    s.abandonOwned side m = s := if_neg h

/-- The change of an owner that is lost returns to its saved state, and is reported (R125, R126). -/
theorem State.abandonOwned_of_owner (hchanges : s.ChangesCoherent) {side : Side} {m : Master}
    (h : (s.fm.filter side).owner = some m) {back : FilterState} (hback : (s.fm.filter side).saved = some back) :
    (s.abandonOwned side m).fm.filter side =
      { s.fm.filter side with state := back, saved := none, owner := none, deadline := none } ∧
    (s.abandonOwned side m).eu.isSet .changeAbandoned = true ∧
    (s.abandonOwned side m).eu.isSet (filterFlag side) = true := by
  obtain ⟨howner, -, -, hsaved⟩ := hchanges.filter side
  have hstate : (s.fm.filter side).state = .changing := howner.1 (by rw [h]; rfl)
  have habandon : (s.fm.filter side).abandon =
      { s.fm.filter side with state := back, saved := none, owner := none, deadline := none } := by
    rw [FilterRecord.abandon, hback]
    rfl
  have hne : (s.fm.filter side).abandon.state ≠ (s.fm.filter side).state := by
    rw [habandon, hstate]
    exact fun heq => hsaved (hback.trans (congrArg some heq))
  have hleft : s.abandonOwned side m = (s.handOn side (s.fm.filter side).abandon).raise .changeAbandoned := by
    unfold State.abandonOwned State.abandonChange
    rw [if_pos h]
    exact if_pos hstate
  rw [hleft]
  refine ⟨?_, State.raise_isSet_self _ _, ?_⟩
  · rw [State.raise_fm, State.handOn_fm, Filters.filter_withFilter_self, habandon]
  · rw [State.raise_eu, EventUnit.isSet_raise, (State.handOn_isSet s side _ _).2 (.inr ⟨rfl, hne⟩)]
    rfl

/-- A loss leaves a filter whose change its source does not own. -/
theorem State.enterLost_filter_of_ne {side : Side} (h : ∀ m, slotMaster i = some m → (s.fm.filter side).owner ≠ some m) :
    (s.enterLost i).fm.filter side = s.fm.filter side := by
  unfold State.enterLost
  rw [State.reportLoss_fm]
  cases hm : slotMaster i with
  | none => rfl
  | some m =>
    have hne := h m hm
    dsimp only
    cases side with
    | supply =>
      rw [State.abandonOwned_owner_ne _ (by decide)]
      rw [State.abandonOwned_of_owner_ne (s := (s.withSlot i Slot.lost).removeMaster m) hne]
      rfl
    | extract =>
      rw [State.abandonOwned_of_owner_ne, State.abandonOwned_owner_ne _ (by decide)]
      · rfl
      · rw [State.abandonOwned_owner_ne _ (by decide)]
        exact hne

theorem State.enterLost_filter_of_owner (hchanges : s.ChangesCoherent) {side : Side} {m : Master}
    (hm : slotMaster i = some m) (h : (s.fm.filter side).owner = some m) {back : FilterState}
    (hback : (s.fm.filter side).saved = some back) :
    (s.enterLost i).fm.filter side =
      { s.fm.filter side with state := back, saved := none, owner := none, deadline := none } ∧
    (s.enterLost i).eu.isSet .changeAbandoned = true ∧ (s.enterLost i).eu.isSet (filterFlag side) = true := by
  have hremoved : ((s.withSlot i Slot.lost).removeMaster m).ChangesCoherent := hchanges.same rfl rfl
  unfold State.enterLost
  rw [State.reportLoss_fm, (State.reportLoss_eu _ _).2 m hm, hm]
  dsimp only
  generalize hr : (s.withSlot i Slot.lost).removeMaster m = r at hremoved ⊢
  have hfm : r.fm = s.fm := by rw [← hr]; rfl
  rw [← hfm] at h hback ⊢
  cases side with
  | supply =>
    obtain ⟨hfilter, habandoned, hflag⟩ := State.abandonOwned_of_owner hremoved h hback
    rw [State.abandonOwned_owner_ne _ (by decide)]
    exact ⟨hfilter, State.abandonOwned_keeps_flag habandoned _ _, State.abandonOwned_keeps_flag hflag _ _⟩
  | extract =>
    have hkept : (r.abandonOwned .supply m).fm.filter .extract = r.fm.filter .extract :=
      State.abandonOwned_owner_ne _ (by decide) _
    rw [← hkept] at h hback ⊢
    exact State.abandonOwned_of_owner (hremoved.abandonOwned _ _) h hback

/-! ## The season through a loss (R141) -/

theorem State.addressLost_succ (s : State) (i : Fin 15) : s.addressLost (i.val + 1) = ((s.slot i).state == .lost) := by
  unfold State.addressLost
  rw [dif_pos ⟨by omega, by omega⟩]
  rfl

theorem State.judgeObservation_of_lost (h : s.addressLost s.settings.heatAddress = true) :
    s.judgeObservation.season = { s.season with observing := false } := by
  have hnot : s.observes = false := by rw [State.observes, h, Bool.not_true, Bool.and_false]
  unfold State.judgeObservation
  rw [hnot]
  rfl

/-- The loss of heat_address ends observation; no other loss moves the season (R141). -/
theorem State.enterLost_season (s : State) (i : Fin 15) : (s.enterLost i).season =
    { s.season with
      observing := if i.val + 1 = s.settings.heatAddress then false else s.season.observing } := by
  have hreported (u : State) (hu : u.rl = (s.withSlot i Slot.lost).rl ∧ u.ss = s.ss ∧ u.season = s.season) :
      (if i.val + 1 = s.settings.heatAddress then u.judgeObservation else u).season =
        { s.season with
          observing := if i.val + 1 = s.settings.heatAddress then false else s.season.observing } := by
    obtain ⟨hrl, hss, hseason⟩ := hu
    have hslot : u.slot i = Slot.lost := by
      rw [State.slot, hrl]
      exact State.slot_withSlot_self s i Slot.lost
    have hsettings : u.settings = s.settings := congrArg SettingsStore.working hss
    by_cases h : i.val + 1 = s.settings.heatAddress
    · rw [if_pos h, if_pos h, State.judgeObservation_of_lost, hseason]
      rw [hsettings, ← h, State.addressLost_succ, hslot]
      rfl
    · rw [if_neg h, if_neg h, hseason]
  have hstation (u : State) (hu : u.rl = (s.withSlot i Slot.lost).rl ∧ u.ss = s.ss ∧ u.season = s.season) :
      ((if h : i.val < 4 then u.clearStation ⟨i.val, h⟩ else u) : State).rl = (s.withSlot i Slot.lost).rl ∧
      ((if h : i.val < 4 then u.clearStation ⟨i.val, h⟩ else u) : State).ss = s.ss ∧
      ((if h : i.val < 4 then u.clearStation ⟨i.val, h⟩ else u) : State).season = s.season := by
    split <;> exact hu
  unfold State.enterLost State.reportLoss
  refine hreported _ (hstation _ ?_)
  cases slotMaster i with
  | none => exact ⟨rfl, rfl, rfl⟩
  | some m => simp

/-! ## Losses together (R149, R162) -/

/-- What stands after the slots of a list have been lost, whatever their order; the loss still due is left open. -/
structure State.Losses (s t : State) (lost : List (Fin 15)) : Prop where
  frame : t = { s with
    rl := { s.rl with slots := t.rl.slots, lossDue := t.rl.lossDue }
    da := t.da
    fm := t.fm
    hm := { s.hm with stations := t.hm.stations }
    season := { s.season with observing := t.season.observing }
    eu := t.eu }
  events : s.eu.OnlyFlags t.eu
  flags : ∀ x, s.eu.isSet x = true → t.eu.isSet x = true
  slot : ∀ i, t.slot i = if i ∈ lost then Slot.lost else s.slot i
  stationLost : t.eu.isSet .stationLost = true ↔ s.eu.isSet .stationLost = true ∨
    ∃ i ∈ lost, (s.slot i).state = .present ∨ (s.slot i).state = .missing
  stations : ∀ n : Fin 4, t.hm.stations[n] =
    if ∃ i ∈ lost, i.val = n.val then Acceptance.initial else s.hm.stations[n]
  observing : t.season.observing =
    if ∃ i ∈ lost, i.val + 1 = s.settings.heatAddress then false else s.season.observing
  table : t.da.table = { s.da.table with general := t.da.table.general }
  sublist : t.da.table.general.Sublist s.da.table.general
  members : ∀ e ∈ s.da.table.general, e ∈ t.da.table.general ↔
    ∀ i m, i ∈ lost → slotMaster i = some m → e.source ≠ .master m
  plan : s.PlanCurrent → t.PlanCurrent
  changes : s.ChangesCoherent → t.ChangesCoherent
  holdsNothing : s.ChangesCoherent → ∀ i m, i ∈ lost → slotMaster i = some m → t.HoldsNothing m
  filter : ∀ side, (∀ i m, i ∈ lost → slotMaster i = some m → (s.fm.filter side).owner ≠ some m) →
    t.fm.filter side = s.fm.filter side
  abandoned : s.ChangesCoherent → ∀ side i m back, i ∈ lost → slotMaster i = some m →
    (s.fm.filter side).owner = some m → (s.fm.filter side).saved = some back →
    t.fm.filter side = { s.fm.filter side with state := back, saved := none, owner := none, deadline := none } ∧
    t.eu.isSet .changeAbandoned = true ∧ t.eu.isSet (filterFlag side) = true
  keepsNothing : ∀ m, s.HoldsNothing m → t.HoldsNothing m

/-- The frame of a loss, block by block. -/
theorem State.eq_of_blocks
    (h : t = { s with da := t.da, fm := t.fm, eu := t.eu, hm := t.hm, season := t.season, rl := t.rl })
    (hrl : t.rl = { s.rl with slots := t.rl.slots, lossDue := t.rl.lossDue })
    (hhm : t.hm = { s.hm with stations := t.hm.stations })
    (hseason : t.season = { s.season with observing := t.season.observing }) :
    t = { s with
      rl := { s.rl with slots := t.rl.slots, lossDue := t.rl.lossDue }
      da := t.da
      fm := t.fm
      hm := { s.hm with stations := t.hm.stations }
      season := { s.season with observing := t.season.observing }
      eu := t.eu } := by
  rwa [hrl, hhm, hseason] at h

/-- No loss, with or without one that has become due. -/
theorem State.Losses.none (s : State) (due : Bool) : s.Losses (s.setRl { s.rl with lossDue := due }) [] where
  frame := rfl
  events := EventUnit.OnlyFlags.refl _
  flags := fun _ h => h
  slot := fun i => rfl
  stationLost := by simp
  stations := fun n => by simp
  observing := by simp
  table := rfl
  sublist := List.Sublist.refl _
  members := fun e he => by simpa using he
  plan := fun h => h.same rfl rfl rfl rfl
  changes := fun h => h.same rfl rfl
  holdsNothing := nofun
  filter := fun _ _ => rfl
  abandoned := nofun
  keepsNothing := fun _ h => h.congr rfl rfl

theorem DemandTable.mem_without {t : DemandTable} {m : Master} {e : Entry} :
    e ∈ (t.without m).general ↔ e ∈ t.general ∧ e.source ≠ .master m := by
  simp [DemandTable.without]

/-- The table after a loss: without the entries of its source (R29). -/
theorem State.enterLost_table (s : State) (i : Fin 15) :
    (s.enterLost i).da.table = { s.da.table with general := (s.enterLost i).da.table.general } ∧
    (s.enterLost i).da.table.general.Sublist s.da.table.general ∧
    ∀ e ∈ s.da.table.general, e ∈ (s.enterLost i).da.table.general ↔
      ∀ m, slotMaster i = some m → e.source ≠ .master m := by
  unfold State.enterLost
  rw [State.reportLoss_table]
  cases slotMaster i with
  | none => exact ⟨rfl, List.Sublist.refl _, fun e he => ⟨nofun, fun _ => he⟩⟩
  | some m =>
    refine ⟨rfl, List.filter_sublist, fun e he => DemandTable.mem_without.trans ?_⟩
    constructor
    · rintro ⟨-, hne⟩ n hn
      obtain rfl := Option.some.inj hn
      exact hne
    · exact fun h => ⟨he, h m rfl⟩

/-- A slot that is not LOST leaves the list. -/
theorem State.Losses.leaveList (h : (s.slot i).state ≠ .lost) : s.Losses (s.leaveList i) [i] := by
  obtain ⟨htable, hsublist, hmembers⟩ := s.enterLost_table i
  obtain ⟨eu, hleave, hevents, hflags, hstation⟩ : ∃ eu, s.leaveList i = (s.enterLost i).setEu eu ∧
      s.eu.OnlyFlags eu ∧ (∀ x, (s.enterLost i).eu.isSet x = true → eu.isSet x = true) ∧
      (eu.isSet .stationLost = true ↔ s.eu.isSet .stationLost = true ∨
        ((s.slot i).state = .present ∨ (s.slot i).state = .missing)) := by
    have hquiet := State.enterLost_isSet Flag.stationLost_quietAtLoss s i
    rcases State.leaveList_of_ne h with ⟨hleave, hstate⟩ | ⟨hleave, hstate⟩ <;> rw [hleave]
    · refine ⟨(s.enterLost i).eu, rfl, s.enterLost_onlyFlags i, fun _ hx => hx, ?_⟩
      rw [hquiet, hstate]
      simp
    · refine ⟨(s.enterLost i).eu.raise .stationLost, rfl,
        (s.enterLost_onlyFlags i).trans (EventUnit.OnlyFlags.raise _ _), fun x hx => ?_, iff_of_true ?_ (.inr hstate)⟩
      · rw [EventUnit.isSet_raise, hx]
        rfl
      · rw [EventUnit.isSet_raise, beq_self_eq_true, Bool.or_true]
  rw [hleave]
  have hseason := s.enterLost_season i
  have hchanges (hs : s.ChangesCoherent) : (s.enterLost i).ChangesCoherent :=
    State.ChangesCoherent.reportLoss (s := s.withSlot i Slot.lost) (hs.same rfl rfl) i
  exact {
    frame := by
      refine State.eq_of_blocks ?_ ?_ ?_ ?_
      · conv_lhs => rw [State.enterLost_eq s i]
        rfl
      · rw [State.setEu_rl, State.enterLost_rl]
      · exact State.reportLoss_hm (s.withSlot i Slot.lost) i
      · rw [State.setEu_season, hseason]
    events := hevents
    flags := fun x hx => hflags x (State.enterLost_keeps_flag hx i)
    slot := fun j => by
      refine (s.enterLost_slot i j).trans ?_
      simp
    stationLost := by simpa using hstation
    stations := fun n => by
      refine (s.enterLost_station i ⟨n.val, by omega⟩ n.isLt).trans ?_
      refine if_congr ⟨fun hj => ⟨i, List.mem_singleton.2 rfl, ?_⟩, ?_⟩ rfl rfl
      · rw [← hj]
      · rintro ⟨j, hj, hval⟩
        rw [← List.mem_singleton.1 hj]
        exact Fin.ext hval.symm
    observing := by
      rw [State.setEu_season, hseason]
      simp
    table := htable
    sublist := hsublist
    members := fun e he => (hmembers e he).trans
      ⟨fun hm j m hj => List.mem_singleton.1 hj ▸ hm m, fun hall m => hall i m (List.mem_singleton.2 rfl)⟩
    plan := fun hs => State.PlanCurrent.same (State.PlanCurrent.reportLoss (s := s.withSlot i Slot.lost)
      (hs.same rfl rfl rfl rfl) i) rfl rfl rfl rfl
    changes := fun hs => (hchanges hs).same rfl rfl
    holdsNothing := fun hs j m hj hm => by
      obtain rfl := List.mem_singleton.1 hj
      exact (State.enterLost_holdsNothing hs hm).congr rfl rfl
    filter := fun side hside => State.enterLost_filter_of_ne fun m hm => hside i m (List.mem_singleton.2 rfl) hm
    abandoned := fun hs side j m back hj hm howner hback => by
      obtain rfl := List.mem_singleton.1 hj
      obtain ⟨hfilter, habandoned, hflag⟩ := State.enterLost_filter_of_owner hs hm howner hback
      exact ⟨hfilter, hflags _ habandoned, hflags _ hflag⟩
    keepsNothing := fun m hs =>
      (State.HoldsNothing.reportLoss (s := s.withSlot i Slot.lost) (hs.congr rfl rfl) i).congr rfl rfl }

/-- One value over the slots of two lists. -/
theorem ite_exists_append {α : Type} {L M : List (Fin 15)} {p : Fin 15 → Prop} (x y : α)
    [Decidable (∃ i ∈ L ++ M, p i)] [Decidable (∃ i ∈ L, p i)] [Decidable (∃ i ∈ M, p i)] :
    (if ∃ i ∈ M, p i then x else if ∃ i ∈ L, p i then x else y) = if ∃ i ∈ L ++ M, p i then x else y := by
  have hiff : (∃ i ∈ L ++ M, p i) ↔ (∃ i ∈ M, p i) ∨ ∃ i ∈ L, p i := by
    simp only [List.mem_append, or_and_right, exists_or]
    exact or_comm
  by_cases hM : ∃ i ∈ M, p i
  · rw [if_pos hM, if_pos (hiff.2 (.inl hM))]
  · rw [if_neg hM]
    exact if_congr ⟨fun hL => hiff.2 (.inr hL), fun h => (hiff.1 h).resolve_left hM⟩ rfl rfl

/-- Losses one after the other, each slot at most once. -/
theorem State.Losses.trans {L M : List (Fin 15)} (hst : s.Losses t L) (htu : t.Losses u M) (hdisjoint : ∀ i ∈ M, i ∉ L) :
    s.Losses u (L ++ M) := by
  have hss : t.ss = s.ss := by rw [hst.frame]
  have hsettings : t.settings = s.settings := congrArg SettingsStore.working hss
  have hslot : ∀ i ∈ M, t.slot i = s.slot i := fun i hi => by rw [hst.slot, if_neg (hdisjoint i hi)]
  exact {
    frame := by
      have h := htu.frame
      rw [hst.frame] at h
      exact h
    events := hst.events.trans htu.events
    flags := fun x hx => htu.flags x (hst.flags x hx)
    slot := fun i => by
      rw [htu.slot, hst.slot]
      simp only [List.mem_append]
      by_cases hM : i ∈ M
      · simp [hM]
      · simp [hM]
    stationLost := by
      rw [htu.stationLost, hst.stationLost, or_assoc]
      refine or_congr Iff.rfl ?_
      simp only [List.mem_append, or_and_right, exists_or]
      refine or_congr Iff.rfl (exists_congr fun i => and_congr_right fun hi => ?_)
      rw [hslot i hi]
    stations := fun n => by
      rw [htu.stations, hst.stations]
      exact ite_exists_append _ _
    observing := by
      rw [htu.observing, hst.observing, hsettings]
      exact ite_exists_append _ _
    table := by
      have h := htu.table
      rw [hst.table] at h
      exact h
    sublist := htu.sublist.trans hst.sublist
    members := fun e he => by
      simp only [List.mem_append, or_imp, forall_and]
      constructor
      · intro hu
        have ht := htu.sublist.subset hu
        exact ⟨(hst.members e he).1 ht, (htu.members e ht).1 hu⟩
      · rintro ⟨hL, hM⟩
        have ht := (hst.members e he).2 hL
        exact (htu.members e ht).2 hM
    plan := fun h => htu.plan (hst.plan h)
    changes := fun h => htu.changes (hst.changes h)
    holdsNothing := fun h i m hi hm => by
      rcases List.mem_append.1 hi with hL | hM
      · exact htu.keepsNothing m (hst.holdsNothing h i m hL hm)
      · exact htu.holdsNothing (hst.changes h) i m hM hm
    filter := fun side h => by
      have ht := hst.filter side fun i m hi => h i m (List.mem_append_left _ hi)
      rw [htu.filter side fun i m hi => by rw [ht]; exact h i m (List.mem_append_right _ hi), ht]
    abandoned := fun h side i m back hi hm howner hback => by
      by_cases hL : ∃ i ∈ L, slotMaster i = some m
      · obtain ⟨j, hj, hjm⟩ := hL
        obtain ⟨ht, habandoned, hflag⟩ := hst.abandoned h side j m back hj hjm howner hback
        refine ⟨?_, htu.flags _ habandoned, htu.flags _ hflag⟩
        rw [htu.filter side fun _ _ _ _ => by rw [ht]; exact nofun, ht]
      · have hM : i ∈ M := (List.mem_append.1 hi).resolve_left fun hin => hL ⟨i, hin, hm⟩
        have ht : t.fm.filter side = s.fm.filter side := hst.filter side fun j n hj hjn hown => by
          obtain rfl := Option.some.inj (howner.symm.trans hown)
          exact hL ⟨j, hj, hjn⟩
        rw [← ht] at howner hback ⊢
        exact htu.abandoned (hst.changes h) side i m back hM hm howner hback
    keepsNothing := fun m h => htu.keepsNothing m (hst.keepsNothing m h) }

/-! ## A change of the poll list (R149) -/

/-- The address of a slot leaves the list, `before` being the list until then. -/
def State.leaves (s : State) (before : BitVec 16) (i : Fin 15) : Bool :=
  before.getLsbD (i.val + 1) && !s.settings.listed (i.val + 1)

/-- A slot that leaves the list is lost at once: its poll is not in progress, and it is not LOST already. -/
def State.gone (s : State) (before : BitVec 16) (i : Fin 15) : Bool :=
  s.leaves before i && decide (s.rl.stage.slot ≠ some i) && decide ((s.slot i).state ≠ .lost)

theorem State.gone_iff {before : BitVec 16} : s.gone before i = true ↔
    s.leaves before i = true ∧ s.rl.stage.slot ≠ some i ∧ (s.slot i).state ≠ .lost := by
  rw [State.gone, Bool.and_eq_true, Bool.and_eq_true, decide_eq_true_iff, decide_eq_true_iff, and_assoc]

theorem State.listChanged_of_stays {before : BitVec 16} (h : s.leaves before i = false) :
    State.listChanged before s i = s := if_neg (Bool.eq_false_iff.1 h)

theorem State.listChanged_of_polled {before : BitVec 16} (h : s.leaves before i = true)
    (hpolled : s.rl.stage.slot = some i) : State.listChanged before s i = s.setRl { s.rl with lossDue := true } :=
  (if_pos h).trans (if_pos hpolled)

theorem State.listChanged_of_leaves {before : BitVec 16} (h : s.leaves before i = true)
    (hpolled : s.rl.stage.slot ≠ some i) : State.listChanged before s i = s.leaveList i :=
  (if_pos h).trans (if_neg hpolled)

/-- A sweep over some slots loses those that leave, and a loss falls due for the one in its own poll. -/
theorem State.foldl_listChanged (s : State) (before : BitVec 16) {l : List (Fin 15)} (hnodup : l.Nodup) :
    s.Losses (l.foldl (State.listChanged before) s) (l.filter (s.gone before)) ∧
    ((l.foldl (State.listChanged before) s).rl.lossDue = true ↔
      s.rl.lossDue = true ∨ ∃ i ∈ l, s.leaves before i = true ∧ s.rl.stage.slot = some i) := by
  induction l using List.reverseRecOn with
  | nil => exact ⟨State.Losses.none s s.rl.lossDue, by simp⟩
  | append_singleton l i ih =>
    obtain ⟨hl, -, hdisjoint⟩ := List.nodup_append.1 hnodup
    have hi : i ∉ l := fun hin => hdisjoint i hin i (List.mem_singleton.2 rfl) rfl
    obtain ⟨hlosses, hdue⟩ := ih hl
    rw [List.foldl_append, List.foldl_cons, List.foldl_nil, List.filter_append]
    generalize l.foldl (State.listChanged before) s = t at hlosses hdue ⊢
    have hnot : i ∉ l.filter (s.gone before) := fun hin => hi (List.mem_filter.1 hin).1
    have hslot : t.slot i = s.slot i := by rw [hlosses.slot, if_neg hnot]
    have hstage : t.rl.stage = s.rl.stage := by rw [hlosses.frame]
    have hss : t.ss = s.ss := by rw [hlosses.frame]
    have hleaves : t.leaves before i = s.leaves before i := by
      unfold State.leaves State.settings
      rw [hss]
    have hdueOf (h : ¬ (s.leaves before i = true ∧ s.rl.stage.slot = some i)) :
        (s.rl.lossDue = true ∨ ∃ j ∈ l, s.leaves before j = true ∧ s.rl.stage.slot = some j) ↔
        s.rl.lossDue = true ∨ ∃ j ∈ l ++ [i], s.leaves before j = true ∧ s.rl.stage.slot = some j := by
      refine or_congr Iff.rfl ⟨fun ⟨j, hj, hjl⟩ => ⟨j, List.mem_append_left _ hj, hjl⟩, fun ⟨j, hj, hjl⟩ => ?_⟩
      rcases List.mem_append.1 hj with hj | hj
      · exact ⟨j, hj, hjl⟩
      · obtain rfl := List.mem_singleton.1 hj
        exact absurd hjl h
    cases hleave : s.leaves before i with
    | false =>
      have hgone : s.gone before i = false := by rw [State.gone, hleave]; rfl
      rw [State.listChanged_of_stays (hleaves.trans hleave), List.filter_singleton, hgone, hdue]
      exact ⟨by simpa using hlosses, hdueOf (by simp [hleave])⟩
    | true =>
      by_cases hpolled : s.rl.stage.slot = some i
      · have hgone : s.gone before i = false := Bool.eq_false_iff.2 fun h => (State.gone_iff.1 h).2.1 hpolled
        rw [State.listChanged_of_polled (hleaves.trans hleave) (by rw [hstage, hpolled]), List.filter_singleton, hgone]
        refine ⟨hlosses.trans (State.Losses.none t true) nofun, iff_of_true rfl (.inr ⟨i, by simp, hleave, hpolled⟩)⟩
      · rw [State.listChanged_of_leaves (hleaves.trans hleave) (by rwa [hstage]), State.leaveList_rl, hdue]
        refine ⟨?_, hdueOf fun h => hpolled h.2⟩
        by_cases hlost : (s.slot i).state = .lost
        · have hgone : s.gone before i = false := Bool.eq_false_iff.2 fun h => (State.gone_iff.1 h).2.2 hlost
          rw [State.leaveList_of_lost (by rwa [hslot]), List.filter_singleton, hgone]
          simpa using hlosses
        · have hgone : s.gone before i = true := State.gone_iff.2 ⟨hleave, hpolled, hlost⟩
          rw [List.filter_singleton, hgone]
          refine hlosses.trans (State.Losses.leaveList (by rwa [hslot])) fun j hj => ?_
          obtain rfl := List.mem_singleton.1 hj
          exact hnot

/-- A change of the poll list: the slots gone are lost, and a loss falls due for one in its own poll (R149). -/
theorem State.pollListChanged_losses (s : State) (before : BitVec 16) :
    s.Losses (s.pollListChanged before) ((List.finRange 15).filter (s.gone before)) ∧
    ((s.pollListChanged before).rl.lossDue = true ↔
      s.rl.lossDue = true ∨ ∃ i, s.leaves before i = true ∧ s.rl.stage.slot = some i) := by
  obtain ⟨hlosses, hdue⟩ := s.foldl_listChanged before (List.nodup_finRange 15)
  refine ⟨hlosses, hdue.trans (or_congr Iff.rfl (exists_congr fun i => ?_))⟩
  simp

end

end Sys2Proof.Machine

/-! SUPPORT. What each owner takes of a written setting, and the obligation O51. -/

namespace Sys2Proof.Machine

section
variable {s t u : State}

/-! ## The owners' reactions (R32, R33, R86, R92, R130, R141, R149, R180) -/

theorem SettingId.planned_iff (k : SettingId) : k.planned = true ↔
    k ∈ [.qmin, .qmax, .defaultBaseLevel, .derateLoaded, .derateBlocked] ∨ ∃ i, k = .level i := by
  cases k <;> simp [SettingId.planned]

theorem State.react_planned {k : SettingId} (h : k.planned = true) (s : State) (before : Settings) :
    s.react before k = s.recomputeCeiling := by
  cases k <;> first | rfl | exact nomatch h

/-- The settings that no owner takes at their arrival (R8, R66, R112, R130, R135). -/
theorem State.react_unowned {k : SettingId} (hlist : k ∉ [.qmin, .qmax, .defaultBaseLevel, .derateLoaded, .derateBlocked,
      .minFraction, .bypassTravel, .qref, .seasonObserve, .heatAddress, .counterSnapshot, .pollList])
    (hlevel : ∀ i, k ≠ .level i) (s : State) (before : Settings) : s.react before k = s := by
  cases k
  case level i => exact absurd rfl (hlevel i)
  all_goals first | rfl | exact absurd (by decide) hlist

theorem Filters.rescaled_filter (fm : Filters) (target source : Nat) (side : Side) :
    (fm.rescaled target source).filter side =
      { fm.filter side with
        dpClean := (fm.filter side).dpClean.map fun dp => max 1 (min 500 (dp * target * target / (source * source))) } := by
  cases side <;> rfl

/-- Observation judged at a change of heat_address: the age is 0 if it is in force after the change (R141). -/
theorem State.heatAddressChanged_eq (s : State) : s.heatAddressChanged = s.setSeason { s.season with
    observing := s.observes
    heatCallAge := if s.observes = true then 0 else s.season.heatCallAge } := by
  unfold State.heatAddressChanged State.judgeObservation
  cases hobserves : s.observes <;> cases hobserving : s.season.observing <;> simp

theorem State.judgeObservation_eq (s : State) : s.judgeObservation = s.setSeason { s.season with
    observing := s.observes
    heatCallAge := if s.observes = true ∧ s.season.observing = false then 0 else s.season.heatCallAge } := by
  unfold State.judgeObservation
  cases s.observes <;> cases s.season.observing <;> rfl

/-! ## A poll list written (R149) -/

/-- The losses of a written poll list, told of the state before the write. -/
theorem State.withSetting_pollList {v asked : Int} (hv : v = s.settings.clampValue .pollList asked)
    (hne : v ≠ s.settings.get .pollList) (hu : u = s.withSetting .pollList v) {leaves gone : Fin 15 → Bool}
    (hleaves : ∀ i, leaves i = true ↔ s.settings.listed (i.val + 1) = true ∧ u.settings.listed (i.val + 1) = false)
    (hgone : ∀ i, gone i = true ↔ leaves i = true ∧ s.rl.stage.slot ≠ some i ∧ (s.slot i).state ≠ .lost) :
    (s.withWorking u.settings).Losses u ((List.finRange 15).filter gone) ∧
    (u.rl.lossDue = true ↔ s.rl.lossDue = true ∨ ∃ i, leaves i = true ∧ s.rl.stage.slot = some i) ∧
    u.settings.heatAddress = s.settings.heatAddress ∧
    (s.PlanCurrent → (s.withWorking u.settings).PlanCurrent) ∧
    (s.ChangesCoherent → (s.withWorking u.settings).ChangesCoherent) := by
  have hsettings : u.settings = s.settings.write .pollList v := by rw [hu, State.withSetting_settings, if_neg hne]
  have hmove : s.Move False (s.withWorking u.settings) := by
    rw [hsettings, hv]
    exact .record .pollList asked rfl nofun
  have hchanged : u = (s.withWorking u.settings).pollListChanged s.settings.pollList := by
    rw [hsettings, hu]
    exact if_neg hne
  have hleavesEq : (s.withWorking u.settings).leaves s.settings.pollList = leaves := by
    funext i
    rw [Bool.eq_iff_iff, hleaves, State.leaves, Bool.and_eq_true, Bool.not_eq_true']
    rfl
  have hgoneEq : (s.withWorking u.settings).gone s.settings.pollList = gone := by
    funext i
    rw [Bool.eq_iff_iff, hgone, State.gone_iff, hleavesEq]
    rfl
  obtain ⟨hlosses, hdue⟩ := (s.withWorking u.settings).pollListChanged_losses s.settings.pollList
  rw [← hchanged, hgoneEq] at hlosses
  rw [← hchanged, hleavesEq] at hdue
  exact ⟨hlosses, hdue, by rw [hsettings]; rfl, hmove.plan_current, hmove.changes_coherent⟩

end

/-- Settles O51: each setting by its owner's reaction, the poll list by the losses that it brings. -/
theorem writtenSettingsReachTheirOwners : Obligations.WrittenSettingsReachTheirOwners := by
  unfold Obligations.WrittenSettingsReachTheirOwners
  intro s src id value k hask hidle hk
  obtain ⟨v, hv⟩ : ∃ v, v = s.settings.clampValue k (normalValue k value.toInt) := ⟨_, rfl⟩
  obtain ⟨u, hu⟩ : ∃ u, u = s.withSetting k v := ⟨_, rfl⟩
  refine ⟨u, _, hu ▸ exec_writeSetting hask hidle hk rfl hv, fun hsame => ?unchanged, fun hne => ?changed⟩
  case unchanged =>
    by_cases hheld : v = s.settings.get k
    · exact hu.trans (State.withSetting_same hheld)
    · rw [hu, State.withSetting_settings, if_neg hheld] at hsame
      have hget := s.settings.get_write_clampValue k value.toInt
      rw [← hv, hsame] at hget
      exact absurd hget.symm hheld
  case changed =>
    have hwritten : v ≠ s.settings.get k := fun hheld => hne (by rw [hu, State.withSetting_same hheld])
    obtain ⟨set, hset⟩ : ∃ set, set = s.settings.write k v := ⟨_, rfl⟩
    have hreact : u = (s.withWorking set).react s.settings k := by rw [hu, hset]; exact if_neg hwritten
    refine ⟨fun h => ?planned, fun h => ?fraction, fun h => ?travel, fun h => ?qref, fun h => ?season,
      fun h => ?snapshot, fun h leaves gone hleaves hgone => ?pollList, fun hlist hlevel => ?unowned⟩
    case planned =>
      rw [State.react_planned ((SettingId.planned_iff k).2 h)] at hreact
      subst hreact
      exact ⟨rfl, rfl, rfl, rfl, rfl⟩
    case fraction =>
      subst h hreact
      exact congrArg (s.withWorking set).setFg (s.fg.raiseFraction_eq _)
    case travel =>
      subst h hreact
      rfl
    case qref =>
      subst h hreact
      exact ⟨rfl, s.fm.rescaled_filter _ _⟩
    case season =>
      rcases h with h | h
      · subst h
        rw [show u = (s.withWorking set).judgeObservation from hreact, State.judgeObservation_eq]
        refine ⟨rfl, fun hobserving hcase => if_pos ⟨hobserving, hcase.resolve_right nofun⟩, fun hcase => if_neg ?_⟩
        rintro ⟨hobserves, hbefore⟩
        rcases hcase with hoff | ⟨hon, -⟩
        · exact nomatch hobserves.symm.trans hoff
        · exact nomatch hbefore.symm.trans hon
      · subst h
        rw [show u = (s.withWorking set).heatAddressChanged from hreact, State.heatAddressChanged_eq]
        refine ⟨rfl, fun hobserving _ => if_pos hobserving, fun hcase => if_neg fun hobserves => ?_⟩
        rcases hcase with hoff | ⟨-, hk⟩
        · exact nomatch hobserves.symm.trans hoff
        · exact nomatch hk
    case snapshot =>
      subst h
      have hreact' : u = if set.counterSnapshot then s.withWorking set
        else (s.withWorking set).setEu s.eu.copyAll := hreact
      cases hon : set.counterSnapshot with
      | true =>
        rw [hon] at hreact'
        subst hreact'
        exact ⟨fun hoff => (nomatch hon.symm.trans hoff), fun _ => rfl⟩
      | false =>
        rw [hon] at hreact'
        subst hreact'
        exact ⟨fun _ => rfl, fun hoff => (nomatch hon.symm.trans hoff)⟩
    case pollList =>
      subst h
      obtain ⟨hlosses, hdue, hheat, hplan, hchanges⟩ := State.withSetting_pollList hv hwritten hu hleaves hgone
      have hmem (i : Fin 15) : i ∈ (List.finRange 15).filter gone ↔ gone i = true := by simp
      refine ⟨?frame, hdue, fun i => ?slot, ?lost, fun n => ?stations, ?observing, hlosses.table, hlosses.sublist,
        fun e he => ?members, fun h => hlosses.plan (hplan h), fun h => ⟨fun i m hi => hlosses.holdsNothing (hchanges h) i m
        ((hmem i).2 hi), fun side f hf => ⟨fun hother => ?kept, fun i m back hi hm howner hback => ?abandoned⟩⟩⟩
      case frame =>
        have hblock := congrArg State.ss hlosses.frame
        have hss : u.ss = (s.withWorking u.settings).ss := hblock
        have hevents : u.eu = { s.eu with flags := u.eu.flags, irq := u.eu.irq } := hlosses.events
        refine hlosses.frame.trans ?_
        rw [hss, hevents]
        rfl
      case slot =>
        rw [hlosses.slot, if_congr (hmem i) rfl rfl]
        rfl
      case lost =>
        refine hlosses.stationLost.trans ?_
        simp only [hmem]
        rfl
      case stations =>
        refine (hlosses.stations n).trans ?_
        simp only [hmem]
        rfl
      case observing =>
        have haddress : (s.withWorking u.settings).settings.heatAddress = s.settings.heatAddress := hheat
        refine hlosses.observing.trans ?_
        rw [haddress]
        simp only [hmem]
        rfl
      case members => simpa only [hmem] using hlosses.members e he
      case kept =>
        subst hf
        exact hlosses.filter side fun i m hi => hother i m ((hmem i).1 hi)
      case abandoned =>
        subst hf
        exact hlosses.abandoned (hchanges h) side i m back ((hmem i).2 hi) hm howner hback
    case unowned =>
      rw [State.react_unowned hlist hlevel] at hreact
      subst hreact
      rfl

end Sys2Proof.Machine

/-! SUPPORT. The settings stores and the filter saves, and the frames of the room link; then the obligations O52 and
O53. -/

namespace Sys2Proof.Machine

section
variable {s t : State}

/-! ## Stores and saves (R128, R189, R190) -/

theorem exec_storeSettings_busy {src : Master} (hask : s.CanAsk src .storeSettings) (h : s.ss.store ≠ .idle) :
    exec (.storeSettings src) s =
      .next ((s.count .requestsRefused).deliver src
        { outcome := .busy, kindCode := RequestKind.storeSettings.code }) :=
  have hc : requestOf (.storeSettings src) = some (Request.bare RequestKind.storeSettings.code src) := rfl
  exec_refused (k := .storeSettings) hc hask rfl (if_pos h) rfl

theorem exec_storeSettings {src : Master} (hask : s.CanAsk src .storeSettings) (h : s.ss.store = .idle) :
    exec (.storeSettings src) s =
      .next ((s.setSs { s.ss with store := if s.ss.saving = none then .writing else .accepted }).deliver src
        { outcome := .done, kindCode := RequestKind.storeSettings.code }) := by
  have hc : requestOf (.storeSettings src) = some (Request.bare RequestKind.storeSettings.code src) := rfl
  refine exec_accepted (k := .storeSettings) hc hask rfl ((if_neg (not_not.2 h)).trans ?_) rfl
  cases s.ss.saving <;> rfl

theorem exec_storeStart (h : s.phase ≠ .held) : exec .storeStart s =
    .next (if s.ss.store = .accepted ∧ s.ss.saving = none then s.setSs { s.ss with store := .writing } else s) :=
  congrArg Host.Outcome.next (State.unlessHeld_of_ne h _)

theorem exec_storeDone (h : s.phase ≠ .held) : exec .storeDone s =
    .next (if s.ss.store = .writing then s.endStore (.written s.settings) .storeDone else s) :=
  congrArg Host.Outcome.next (State.unlessHeld_of_ne h _)

theorem exec_storeFailed (h : s.phase ≠ .held) : exec .storeFailed s =
    .next (if s.ss.store = .writing then s.endStore { s.ss.stored with valid := false } .storeFailed else s) :=
  congrArg Host.Outcome.next (State.unlessHeld_of_ne h _)

theorem exec_filterSaveStart (h : s.phase ≠ .held) : exec .filterSaveStart s =
    .next (if (s.ss.saveWaiting && s.ss.free) = true then s.beginSave else s) :=
  congrArg Host.Outcome.next (State.unlessHeld_of_ne h _)

theorem exec_filterSaveComplete {r : StoredFilter × StoredFilter} (h : s.phase ≠ .held) (hsaving : s.ss.saving = some r) :
    exec .filterSaveComplete s =
      .next (s.setSs { s.ss with storedSupply := r.1, storedExtract := r.2, saving := none }) :=
  congrArg Host.Outcome.next ((State.unlessHeld_of_ne h _).trans (by rw [hsaving]))

theorem exec_filterSaveComplete_none (h : s.phase ≠ .held) (hsaving : s.ss.saving = none) :
    exec .filterSaveComplete s = .next s :=
  congrArg Host.Outcome.next ((State.unlessHeld_of_ne h _).trans (by rw [hsaving]))

/-- Something is being written: a save waits. -/
theorem SettingsStore.not_free {ss : SettingsStore} (h : ss.store ≠ .idle ∨ ss.saving ≠ none) : ss.free = false := by
  rw [Bool.eq_false_iff, ne_eq, SettingsStore.free_iff, not_and_or]
  exact h

/-! ## The stored records (12.5) -/

/-- A record that passes its check is the one written with its contents (R129). -/
theorem StoredFilter.eq_written {r : StoredFilter} (h : r.passes = true) : r = .written r.contents := by
  obtain ⟨contents, crc, whole⟩ := r
  simp only [StoredFilter.passes, Bool.and_eq_true, beq_iff_eq] at h
  obtain ⟨rfl, rfl⟩ := h
  rfl

theorem Settings.image_eq (set : Settings) :
    set.image = settingTable.flatMap fun p => little p.1 ++ littleSigned (set.get p.2) := by
  rw [Settings.image, funext set.place_eq]

end

/-- Settles O52: the one store and the one save by what is in flight, and the stored records byte by byte. -/
theorem storesAndSavesTakeTurns : Obligations.StoresAndSavesTakeTurns := by
  unfold Obligations.StoresAndSavesTakeTurns
  refine ⟨fun s src hask => ⟨exec_storeSettings_busy hask, exec_storeSettings hask⟩, fun s hheld => ?turns,
    fun s reference record hreference hrecord => ?saves, Settings.image_eq, settingTable_ids,
    FilterCore.image_eq_savedBytes, fun r => ?_, fun r => ?_⟩
  case turns =>
    refine ⟨fun haccepted hnone => ?_, fun h => ?_, fun hwriting => ⟨?_, ?_⟩, fun hnot => ⟨?_, ?_⟩,
      fun hwaiting hidle hnone => ⟨s.beginSave, ?_, ?_⟩, fun h => ?_, fun a b hsaving => ?_,
      exec_filterSaveComplete_none hheld⟩
    · rw [exec_storeStart hheld, if_pos ⟨haccepted, hnone⟩]
    · rw [exec_storeStart hheld, if_neg (not_and_or.2 h)]
    · rw [exec_storeDone hheld, if_pos hwriting]
      rfl
    · rw [exec_storeFailed hheld, if_pos hwriting]
      rfl
    · rw [exec_storeDone hheld, if_neg hnot]
    · rw [exec_storeFailed hheld, if_neg hnot]
    · rw [exec_filterSaveStart hheld, if_pos]
      rw [hwaiting, (SettingsStore.free_iff _).2 ⟨hidle, hnone⟩]
      rfl
    · exact (State.saveDue_free ((SettingsStore.free_iff _).2 ⟨hidle, hnone⟩)).symm
    · rw [exec_filterSaveStart hheld, if_neg]
      rw [Bool.and_eq_true]
      rintro ⟨hwaiting, hfree⟩
      rcases h with hnot | hbusy
      · exact nomatch hwaiting.symm.trans hnot
      · exact nomatch hfree.symm.trans (SettingsStore.not_free hbusy)
    · exact exec_filterSaveComplete hheld hsaving
  case saves =>
    have hsaved (side : Side) : s.savedRecord side = record (s.fm.filter side).toFilterCore := by
      obtain ⟨hpasses, hcontents⟩ := hrecord (s.fm.filter side).toFilterCore
      rw [StoredFilter.eq_written hpasses, hcontents, hreference]
      rfl
    refine ⟨fun hfree => ?_, fun hbusy => State.saveDue_busy (SettingsStore.not_free hbusy)⟩
    rw [State.saveDue_free ((SettingsStore.free_iff _).2 hfree), State.beginSave, hsaved, hsaved]
    rfl
  · rw [StoredSettings.passes, Bool.and_eq_true, beq_iff_eq]
  · rw [StoredFilter.passes, Bool.and_eq_true, beq_iff_eq, FilterCore.image_eq_savedBytes]

/-! ## Frames of the room link (R147, R151, 12.1) -/

theorem byteOf_length {payload : List Byte} (h : payload.length ≤ 12) : (byteOf payload.length).toNat = payload.length := by
  rw [byteOf, BitVec.toNat_ofNat]
  omega

/-- A frame with its own CRC-8 is read as the reply of its kind and payload. -/
theorem decodeReply_frameOf (address kind : Byte) {payload : List Byte} (h : payload.length ≤ 12) :
    decodeReply (frameOf address kind payload) = replyOf address kind payload := by
  have hlength := byteOf_length h
  have htake : (payload ++ [crc8 ([address, kind, byteOf payload.length] ++ payload)]).take payload.length = payload :=
    List.take_left
  refine (if_pos ⟨rfl, hlength.trans_le h, ?_, ?_⟩).trans ?_
  · rw [hlength]
    exact congrArg (replyOf address kind) htake
  · rw [hlength]
    exact List.length_append
  · rw [hlength]
    dsimp only [List.append_eq, List.nil_append]
    rw [htake, List.getD_append_right _ _ _ _ (Nat.le_refl _), Nat.sub_self]
    rfl

/-- A frame whose CRC-8 does not match is no reply. -/
theorem decodeReply_of_wrong_crc {address kind len crc : Byte} {payload : List Byte}
    (hcrc : crc ≠ crc8 ([address, kind, len] ++ payload)) (hlen : len.toNat = payload.length) :
    decodeReply ([0xA9, address, kind, len] ++ payload ++ [crc]) = .badReplyEnd := by
  have htake : (payload ++ [crc]).take payload.length = payload := List.take_left
  refine if_neg ?_
  rintro ⟨-, -, -, hmatch⟩
  rw [hlen] at hmatch
  dsimp only [List.append_eq, List.nil_append] at hmatch
  rw [htake, List.getD_append_right _ _ _ _ (Nat.le_refl _), Nat.sub_self] at hmatch
  exact hcrc hmatch.symm

theorem wordOf_bytes16 (w : Word16) : wordOf (w.setWidth 8) ((w >>> 8).setWidth 8) = w := by
  rw [wordOf_low]
  apply BitVec.eq_of_toNat_eq
  simp only [BitVec.toNat_ofNat, BitVec.toNat_setWidth]
  omega

/-- Settles O53: each encoded reply by its kind. -/
theorem repliesAreReadBackFromTheirFrames : Obligations.RepliesAreReadBackFromTheirFrames := by
  unfold Obligations.RepliesAreReadBackFromTheirFrames
  refine ⟨fun i chars hwf hencode => ?_, fun address kind len crc payload => decodeReply_of_wrong_crc⟩
  unfold encodeReply at hencode
  split at hencode
  case h_1 address =>
    obtain rfl := Option.some.inj hencode
    exact decodeReply_frameOf address idleKind (payload := []) (by decide)
  case h_2 address payload =>
    obtain rfl := Option.some.inj hencode
    have hpayload : payloadOk payload = true := hwf
    have hlength : payload.length ≤ 12 := by
      simp only [payloadOk, Bool.and_eq_true, decide_eq_true_eq] at hpayload
      exact hpayload.2
    exact (decodeReply_frameOf address askKind hlength).trans (if_pos hpayload)
  case h_3 address temperature humidity flags =>
    obtain rfl := Option.some.inj hencode
    refine (decodeReply_frameOf address tellKind (payload := bytes16 temperature ++ bytes16 humidity ++ [flags])
      (show 5 ≤ 12 by decide)).trans ?_
    show Instr.tellReply address (wordOf (temperature.setWidth 8) ((temperature >>> 8).setWidth 8))
      (wordOf (humidity.setWidth 8) ((humidity >>> 8).setWidth 8)) flags = _
    rw [wordOf_bytes16, wordOf_bytes16]
  case h_4 address call =>
    obtain rfl := Option.some.inj hencode
    exact decodeReply_frameOf address heatKind (payload := [call]) (show 1 ≤ 12 by decide)
  case h_5 => exact nomatch hencode

end Sys2Proof.Machine
